-- ==== Sys2Proof/Word.lean ====
section
/-! DEFINITION. The words of the machine: a register is 32 bits, a host beat 64, a vector register 2048 (R105, R168, R257). -/

namespace Sys2Proof

/-- A 32-bit register, instruction or memory word. -/
abbrev Word := BitVec 32

/-- One byte of memory. -/
abbrev Byte := BitVec 8

/-- A 64-bit beat of the subordinate side, or a timebase value. -/
abbrev DWord := BitVec 64

/-- A vector register of the LVU (R168). -/
abbrev VReg := BitVec 2048

end Sys2Proof
end

