-- ==== Sys2Proof/Syntax.lean ====
section
/-! DEFINITION. The commands of the block: one constructor of `Instr` for each row of the opcode table, with the
operands that the sender of the command supplies. -/

namespace Sys2Proof

/-- Who makes a register access (R102, R113, R257, R468): a host port with its security attribute, a thread through
the setup window or through its tile-control address, or the TAP through DBGACC. -/
inductive Src where
  | port (p : Nat) (sec : Bool)
  | thread (t n : Nat) (viaTile : Bool)
  | tap
deriving DecidableEq, Repr

/-- A memory that reports readiness on its own (R66): a shared-memory bank, a tile's scratchpad, the CAN object RAM. -/
inductive MemUnit where
  | bank (b : Nat)
  | tile (t : Nat)
  | canRam
deriving DecidableEq, Repr

/-- The issue of a thread instruction: tile, thread, the CORECLK cycle, numbered from tile reset (R69), and the CORECLK cycles
that its access waits for others: bank arbitration (R71, R131, R247), the configuration path (R113), the host's response from
the issue on (R71). -/
structure Issue where
  tile : Nat
  thread : Nat
  cycle : Nat
  wait : Nat
deriving DecidableEq, Repr

/-- What the outside answers to an access whose data the block does not hold: the bytes that a host window or
the boot ROM returns, and whether the host answered ERR to the access or its first half, and to the second half (R128,
R132, R136). -/
structure HostData where
  bytes : List Byte
  err : Bool
  err2 : Bool
deriving DecidableEq, Repr

/-- A CAN frame as it is received (R371, R375, R379): identifier with its 29-bit mark, FD format, bit-rate switch,
remote frame, error state indicator, data length code and data bytes. -/
structure CanFrame where
  ident : Nat
  extended : Bool
  fd : Bool
  brs : Bool
  remote : Bool
  esi : Bool
  dlc : Nat
  data : List Byte
deriving DecidableEq, Repr

/-- A federation cell on a link (R391 to R397): its 64 bytes as sixteen words. -/
structure Cell where
  words : List Word
deriving DecidableEq, Repr

/-- The pins that Gauze sees (R333): FIO_IN[k] and FAULT_IN[j]. -/
inductive GzPin where
  | fio (k : Nat)
  | fin (j : Nat)
deriving DecidableEq, Repr

/-- The wake sources of DOZE and SLEEP (R448). -/
inductive WakeSrc where
  | gauze (j : Nat)
  | comparator (n : Nat)
  | kick (p : Nat)
deriving DecidableEq, Repr

/-- A write of a beat that the other port makes in the same FABCLK cycle: its SEC, its data and its strobes (R264). -/
structure PortBeat where
  sec : Bool
  data : DWord
  strb : BitVec 8
deriving DecidableEq, Repr

/-- The data of a write beat, and the write of the same beat that the other port makes in the same FABCLK cycle (R264). -/
structure WriteData where
  data : DWord
  tie : Option PortBeat
deriving DecidableEq, Repr

/-- An acquire of a semaphore, and whether the other port makes it in the same FABCLK cycle (R265). -/
structure SemTry where
  sem : Nat
  tie : Bool
deriving DecidableEq, Repr

/-- A tile at one of its CORECLK cycles, numbered from tile reset (R69). -/
structure TileAt where
  tile : Nat
  cycle : Nat
deriving DecidableEq, Repr

/-- An answer of the host: whether it is ERR, and the CORECLK cycle of the tile in which it comes (R136, R269). -/
structure HostAnswer where
  err : Bool
  cycle : Nat
deriving DecidableEq, Repr

/-- The EVSENDs under way to a tile: those of its own threads, or those of other tiles (R93). -/
structure EvQueue where
  tile : Nat
  own : Bool
deriving DecidableEq, Repr

/-- The word of a vector store, and what the host holds at the words that a mask leaves in part (R176, R185). -/
structure StoreWord where
  word : Word
  host : HostData
deriving DecidableEq, Repr

/-- How far an IMG_OUT descriptor goes: the rows that it reads, and the byte whose write got ERR (R290, R299). -/
structure ImgReads where
  rows : Nat
  err : Option Nat
deriving DecidableEq, Repr

/-- The commands of the block, one constructor for each row of the opcode table, in the table's order. Each docstring
gives the row's name and rule. -/
inductive Instr where
  /-- PORST_N_ASSERT (R33) -/
  | porstNAssert
  /-- PORST_N_DEASSERT (R29) -/
  | porstNDeassert
  /-- SYSRST_N_ASSERT (R33) -/
  | sysrstNAssert
  /-- SYSRST_N_DEASSERT (R483) -/
  | sysrstNDeassert
  /-- CLK_ACK_RISE (R29) -/
  | clkAckRise
  /-- CLK_ACK_FALL (R27) -/
  | clkAckFall
  /-- PD_ACK_RISE (R39) -/
  | pdAckRise (d : Nat)
  /-- DOMAIN_RESET_RELEASE (R39) -/
  | domainResetRelease (d : Nat)
  /-- DOMAIN_DRAIN_END (R68) -/
  | domainDrainEnd (d : Nat)
  /-- PD_ACK_FALL (R39) -/
  | pdAckFall (d : Nat)
  /-- PD_ACK_LOST (R42) -/
  | pdAckLost (d : Nat)
  /-- PD_TIMEOUT (R41) -/
  | pdTimeout (d : Nat)
  /-- PWR_BUDGET_ACCEPT (R46) -/
  | pwrBudgetAccept (g : Nat)
  /-- DB_KICK_EDGE (R48) -/
  | dbKickEdge (p : Nat)
  /-- FAULT_IN_RISE (R44) -/
  | faultInRise (j : Nat)
  /-- TRST_N_ASSERT (R467) -/
  | trstNAssert
  /-- MEMORY_CLEAR_END (R66) -/
  | memoryClearEnd (m : MemUnit)
  /-- KEPT_MEMORY_READY (R66) -/
  | keptMemoryReady (m : MemUnit)
  /-- BLK_STATE_REQ_BOOT (R57) -/
  | blkStateReqBoot (src : Src)
  /-- BLK_STATE_REQ_RUN (R57) -/
  | blkStateReqRun (src : Src)
  /-- BLK_STATE_REQ_TEST (R57) -/
  | blkStateReqTest (src : Src)
  /-- BLK_BOOTDONE_WRITE (R63) -/
  | blkBootdoneWrite (src : Src) (v : Word)
  /-- BLK_BOOTPTR_WRITE (R61) -/
  | blkBootptrWrite (src : Src) (i : Nat) (v : Word)
  /-- REGISTER_WRITE (R14) -/
  | registerWrite (src : Src) (off : Nat) (v : Word)
  /-- SUBORDINATE_READ (R257) -/
  | subordinateRead (p : Nat) (sec : Bool) (addr : Nat)
  /-- SUBORDINATE_WRITE (R258) -/
  | subordinateWrite (p : Nat) (sec : Bool) (addr : Nat) (data : WriteData) (strb : BitVec 8)
  /-- HP_SEM_ACQUIRE (R265) -/
  | hpSemAcquire (p : Nat) (n : SemTry)
  /-- HP_SEM_RELEASE (R265) -/
  | hpSemRelease (p n : Nat)
  /-- HP_SEMBRK (R266) -/
  | hpSembrk (src : Src) (v : Word)
  /-- BURST_MODE_REQUEST (R271) -/
  | burstModeRequest (src : Src) (p : Nat)
  /-- BURST_MODE_LEAVE (R271) -/
  | burstModeLeave (src : Src) (p : Nat)
  /-- TZ2_MAILBOX_WRITE (R273) -/
  | tz2MailboxWrite (p : Nat) (i : Nat) (v : Word)
  /-- MANAGER_READ_RESPONSE (R269) -/
  | managerReadResponse (p id : Nat) (err : Bool)
  /-- MANAGER_WRITE_RESPONSE (R269) -/
  | managerWriteResponse (p id : Nat) (a : HostAnswer)
  /-- STORE_BUFFER_DRAIN (R136) -/
  | storeBufferDrain (t : Nat) (a : HostAnswer)
  /-- TL_CTL_MAPLOAD (R72) -/
  | tlCtlMapload (src : Src) (t : Nat)
  /-- SLOT_MAP_ACTIVATE (R72) -/
  | slotMapActivate (t : TileAt)
  /-- TL_CTL_TRST (R96) -/
  | tlCtlTrst (src : Src) (t : Nat)
  /-- TL_CTL_START (R87) -/
  | tlCtlStart (src : Src) (t : Nat)
  /-- TL_CTL_DETM_WRITE (R84) -/
  | tlCtlDetmWrite (src : Src) (t : Nat) (detm : Bool)
  /-- TL_HWROUTE_WRITE (R114) -/
  | tlHwrouteWrite (src : Src) (t : Nat) (v : Word)
  /-- TL_HWROUTE_APPLY (R114) -/
  | tlHwrouteApply (t : TileAt)
  /-- TH_HWIN_WRITE (R104) -/
  | thHwinWrite (src : Src) (t n i : Nat) (v : Word)
  /-- TH_REGISTER_WRITE (R102) -/
  | thRegisterWrite (src : Src) (t n i : Nat) (v : Word)
  /-- INTERRUPT_ENTRY (R91) -/
  | interruptEntry (t : TileAt) (n : Nat)
  /-- EVENT_INPUT (R90) -/
  | eventInput (t n b : Nat)
  /-- EVSEND_DELIVERY (R93) -/
  | evsendDelivery (q : EvQueue)
  /-- WFE_WAKE (R92) -/
  | wfeWake (t : TileAt) (n : Nat)
  /-- CHANNEL_WAIT_SERVED (R99) -/
  | channelWaitServed (block : Bool) (t : TileAt) (c : Nat)
  /-- CHWAIT_TIMEOUT (R99) -/
  | chwaitTimeout (t : TileAt) (n : Nat)
  /-- DEADLOCK_DETECTED (R101) -/
  | deadlockDetected (t : Nat)
  /-- INTEGER_REGISTER_OP (R119) -/
  | integerRegisterOp (i : Issue) (w : Word)
  /-- INTEGER_IMMEDIATE_OP (R122) -/
  | integerImmediateOp (i : Issue) (w : Word)
  /-- EXT (R123) -/
  | extract (i : Issue) (w : Word)
  /-- EXTS (R123) -/
  | extractS (i : Issue) (w : Word)
  /-- INS (R123) -/
  | insertField (i : Issue) (w : Word)
  /-- LUI (R124) -/
  | lui (i : Issue) (w : Word)
  /-- AUIPC (R124) -/
  | auipc (i : Issue) (w : Word)
  /-- LOAD (R127) -/
  | load (i : Issue) (w : Word) (h : HostData)
  /-- STORE (R127) -/
  | store (i : Issue) (w : Word)
  /-- AMOADD (R129) -/
  | amoadd (i : Issue) (w : Word)
  /-- AMOSWAP (R129) -/
  | amoswap (i : Issue) (w : Word)
  /-- CAS (R129) -/
  | cas (i : Issue) (w : Word)
  /-- JAL (R125) -/
  | jal (i : Issue) (w : Word)
  /-- JALR (R125) -/
  | jalr (i : Issue) (w : Word)
  /-- BRANCH (R125) -/
  | branch (i : Issue) (w : Word)
  /-- LOOP (R126) -/
  | hwLoop (i : Issue) (w : Word)
  /-- CSRRD (R107) -/
  | csrrd (i : Issue) (w : Word)
  /-- CSRWR (R108) -/
  | csrwr (i : Issue) (w : Word)
  /-- FENCE (R138) -/
  | fence (i : Issue) (w : Word)
  /-- IFLUSH (R139) -/
  | iflush (i : Issue) (w : Word)
  /-- BLD (R147) -/
  | bld (i : Issue) (w : Word)
  /-- BLDN (R147) -/
  | bldn (i : Issue) (w : Word)
  /-- BAND (R147) -/
  | band (i : Issue) (w : Word)
  /-- BANDN (R147) -/
  | bandn (i : Issue) (w : Word)
  /-- BOR (R147) -/
  | bor (i : Issue) (w : Word)
  /-- BORN (R147) -/
  | born (i : Issue) (w : Word)
  /-- BXOR (R147) -/
  | bxor (i : Issue) (w : Word)
  /-- BST (R149) -/
  | bst (i : Issue) (w : Word)
  /-- BSET (R147) -/
  | bset (i : Issue) (w : Word)
  /-- BRST (R147) -/
  | brst (i : Issue) (w : Word)
  /-- BTOG (R147) -/
  | btog (i : Issue) (w : Word)
  /-- BRISE (R147) -/
  | brise (i : Issue) (w : Word)
  /-- BFALL (R147) -/
  | bfall (i : Issue) (w : Word)
  /-- BPUSH (R153) -/
  | bpush (i : Issue) (w : Word)
  /-- BPOP (R153) -/
  | bpop (i : Issue) (w : Word)
  /-- BANDS (R153) -/
  | bands (i : Issue) (w : Word)
  /-- BORS (R153) -/
  | bors (i : Issue) (w : Word)
  /-- BNOT (R153) -/
  | bnot (i : Issue) (w : Word)
  /-- BSETA (R153) -/
  | bseta (i : Issue) (w : Word)
  /-- BCLRA (R153) -/
  | bclra (i : Issue) (w : Word)
  /-- BMOVG (R154) -/
  | bmovg (i : Issue) (w : Word)
  /-- BMOVA (R154) -/
  | bmova (i : Issue) (w : Word)
  /-- WFE (R92) -/
  | wfe (i : Issue) (w : Word)
  /-- EVSEND (R156) -/
  | evsend (i : Issue) (w : Word)
  /-- TRAP (R157) -/
  | trap (i : Issue) (w : Word)
  /-- BREAK (R474) -/
  | brk (i : Issue) (w : Word)
  /-- RETE (R158) -/
  | rete (i : Issue) (w : Word)
  /-- HALT (R159) -/
  | haltThread (i : Issue) (w : Word)
  /-- SCANEND (R160) -/
  | scanend (i : Issue) (w : Word)
  /-- TSET (R162) -/
  | tset (i : Issue) (w : Word)
  /-- TRELEASE (R88) -/
  | trelease (i : Issue) (w : Word)
  /-- CHOPEN (R164) -/
  | chopen (i : Issue) (w : Word)
  /-- CHPUT (R164) -/
  | chput (i : Issue) (w : Word)
  /-- CHCLOSE (R97) -/
  | chclose (i : Issue) (w : Word)
  /-- CHGET (R164) -/
  | chget (i : Issue) (w : Word)
  /-- VBIND (R170) -/
  | vbind (i : Issue) (w : Word)
  /-- VFREE (R172) -/
  | vfree (i : Issue) (w : Word)
  /-- APREQ (R167) -/
  | apreq (i : Issue) (w : Word)
  /-- APREL (R167) -/
  | aprel (i : Issue) (w : Word)
  /-- VSETVL (R175) -/
  | vsetvl (i : Issue) (w : Word)
  /-- VECTOR_INTEGER_OP (R179) -/
  | vectorIntegerOp (i : Issue) (w : Word)
  /-- VECTOR_FIXED_POINT_OP (R181) -/
  | vectorFixedPointOp (i : Issue) (w : Word)
  /-- SCALAR_FP_OP (R184) -/
  | scalarFpOp (i : Issue) (w : Word)
  /-- VECTOR_FP_OP (R184) -/
  | vectorFpOp (i : Issue) (w : Word)
  /-- VECTOR_LOAD (R185) -/
  | vectorLoad (i : Issue) (w : Word) (h : HostData)
  /-- VECTOR_STORE (R185) -/
  | vectorStore (i : Issue) (w : StoreWord)
  /-- VECTOR_GATHER (R185) -/
  | vectorGather (i : Issue) (w : Word) (h : HostData)
  /-- VECTOR_SCATTER (R185) -/
  | vectorScatter (i : Issue) (w : Word)
  /-- LV_IDLE_POWER_DOWN (R192) -/
  | lvIdlePowerDown (t c : Nat)
  /-- LVU_CONTEXT_DOWN_END (R192) -/
  | lvuContextDownEnd (t c : Nat)
  /-- LVU_RAMP_END (R193) -/
  | lvuRampEnd (t c : Nat)
  /-- LVU_RESTORE_END (R193) -/
  | lvuRestoreEnd (t : TileAt) (c : Nat)
  /-- LV_CTL_WRITE (R173) -/
  | lvCtlWrite (src : Src) (t : Nat) (v : Word)
  /-- SC_GCTL_RUN_START (R203) -/
  | scGctlRunStart (src : Src) (g : Nat) (dbgsafe : Bool)
  /-- SCAN_START_CHECKS_END (R203) -/
  | scanStartChecksEnd (g : Nat)
  /-- SC_GCTL_RUN_STOP (R204) -/
  | scGctlRunStop (src : Src) (g : Nat) (dbgsafe : Bool)
  /-- STOP_COPIES_END (R204) -/
  | stopCopiesEnd (g : Nat)
  /-- SCAN_FREEZE (R207) -/
  | scanFreeze (g : Nat) (levels : BitVec 512)
  /-- SCAN_RELEASE (R211) -/
  | scanRelease (g : Nat)
  /-- SCAN_COMMIT (R214) -/
  | scanCommit (g : Nat)
  /-- COPY_ENGINE_COPY_END (R209) -/
  | copyEngineCopyEnd (wait : Nat)
  /-- SC_IMGLAYOUT_WRITE (R222) -/
  | scImglayoutWrite (src : Src) (size : Bool) (v : Word)
  /-- SC_OWNDATA_WRITE (R212) -/
  | scOwndataWrite (src : Src) (v : Word)
  /-- SC_OWNFILL_WRITE (R223) -/
  | scOwnfillWrite (src : Src) (v : Word)
  /-- SC_OWNFILL_END (R223) -/
  | scOwnfillEnd
  /-- EDIT_ARM (R236) -/
  | editArm (src : Src) (g : Nat)
  /-- EDIT_CANCEL (R236) -/
  | editCancel (src : Src) (g : Nat)
  /-- SC_EDITTGT_WRITE (R236) -/
  | scEdittgtWrite (src : Src) (g i : Nat) (v : Word)
  /-- EDIT_APPLIER_END (R237) -/
  | editApplierEnd (g : Nat)
  /-- SM_CLRREQ_WRITE (R253) -/
  | smClrreqWrite (src : Src) (v : Word)
  /-- SM_PDCTL_WRITE (R253) -/
  | smPdctlWrite (src : Src) (v : Word)
  /-- COLLISION_REPLAY (R249) -/
  | collisionReplay (addr : Nat) (data : Word) (strb : BitVec 4)
  /-- ECC_WRITE_BACK (R251) -/
  | eccWriteBack (addr : Nat)
  /-- RING_ENABLE (R279) -/
  | ringEnable (src : Src) (p r : Nat) (v : Word)
  /-- RING_DISABLE (R280) -/
  | ringDisable (src : Src) (p r : Nat)
  /-- RING_IDLE (R280) -/
  | ringIdle (p r : Nat)
  /-- CQ_ENABLE (R279) -/
  | cqEnable (src : Src) (p q : Nat) (v : Word)
  /-- CQ_DISABLE (R279) -/
  | cqDisable (src : Src) (p q : Nat)
  /-- DOORBELL_POLL (R294) -/
  | doorbellPoll (p : Nat)
  /-- SUMMARY_LINE_ARRIVAL (R294) -/
  | summaryLineArrival (p : Nat) (halfwords : List (BitVec 16)) (err : Bool)
  /-- DOORBELL_LINE_ARRIVAL (R294) -/
  | doorbellLineArrival (p h : Nat) (words : List Word) (err : Bool)
  /-- LEGACY_DOORBELL_WRITE (R296) -/
  | legacyDoorbellWrite (src : Src) (p o : Nat) (v : Word)
  /-- DESCRIPTOR_ARRIVAL (R283) -/
  | descriptorArrival (p r : Nat) (words : List Word) (err : Bool)
  /-- IMG_IN_DESCRIPTOR (R297) -/
  | imgInDescriptor (p r : Nat) (data : List Byte) (err : Bool)
  /-- IMG_OUT_DESCRIPTOR (R299) -/
  | imgOutDescriptor (p r : Nat) (reads : ImgReads)
  /-- STREAM_TX_DESCRIPTOR (R300) -/
  | streamTxDescriptor (p r : Nat) (data : List Byte) (err : Bool)
  /-- STREAM_RX_DESCRIPTOR (R301) -/
  | streamRxDescriptor (p r : Nat) (err : Option Nat)
  /-- MSG_TX_DESCRIPTOR (R385) -/
  | msgTxDescriptor (p r : Nat) (data : List Byte) (err : Bool)
  /-- MSG_RX_DESCRIPTOR (R382) -/
  | msgRxDescriptor (p r : Nat) (err : Option Nat)
  /-- MGMT_EDIT_DESCRIPTOR (R284) -/
  | mgmtEditDescriptor (p r : Nat) (data : List Byte) (err : Bool)
  /-- MGMT_MESSAGE_DESCRIPTOR (R466) -/
  | mgmtMessageDescriptor (p r : Nat) (data : List Byte) (err : Bool)
  /-- VECTOR_UNMASK (R289) -/
  | vectorUnmask (src : Src) (p v : Nat)
  /-- ENGINE_TICK (R308) -/
  | engineTick (t e : Nat) (pins : Byte)
  /-- NOP (R312) -/
  | engNop (t e : Nat) (pins : Byte)
  /-- SHO (R313) -/
  | engSho (t e : Nat) (pins : Byte)
  /-- SHI (R313) -/
  | engShi (t e : Nat) (pins : Byte)
  /-- SHX (R313) -/
  | engShx (t e : Nat) (pins : Byte)
  /-- PULL (R322) -/
  | engPull (t e : Nat) (pins : Byte)
  /-- PUSH (R322) -/
  | engPush (t e : Nat) (pins : Byte)
  /-- ENGINE_STALL_END (R322) -/
  | engineStallEnd (t e : Nat) (pins : Byte)
  /-- WAIT (R314) -/
  | engWait (t e : Nat) (pins : Byte)
  /-- WAITC (R314) -/
  | engWaitc (t e : Nat) (pins : Byte)
  /-- SETP (R312) -/
  | engSetp (t e : Nat) (pins : Byte)
  /-- DIR (R312) -/
  | engDir (t e : Nat) (pins : Byte)
  /-- JMP (R314) -/
  | engJmp (t e : Nat) (pins : Byte)
  /-- DJNZ (R314) -/
  | engDjnz (t e : Nat) (pins : Byte)
  /-- CLK (R314) -/
  | engClk (t e : Nat) (pins : Byte)
  /-- EVT (R314) -/
  | engEvt (t e : Nat) (pins : Byte)
  /-- STREAM_MOVER_TURN (R317) -/
  | streamMoverTurn (t e : Nat)
  /-- ENGINE_ENABLE (R329) -/
  | engineEnable (src : Src) (t e : Nat)
  /-- ENGINE_DISABLE (R329) -/
  | engineDisable (src : Src) (t e : Nat)
  /-- ENGINE_FLUSH (R329) -/
  | engineFlush (src : Src) (t e : Nat)
  /-- ENGINE_SWAP (R331) -/
  | engineSwap (src : Src) (t e : Nat)
  /-- ENGINE_FORCE (R332) -/
  | engineForce (src : Src) (t e : Nat)
  /-- ENGINE_BANK_SWAP (R331) -/
  | engineBankSwap (t e : Nat) (pins : Byte)
  /-- ENGINE_OVRCLR (R326) -/
  | engineOvrclr (src : Src) (t e : Nat)
  /-- ENGINE_PROGRAM_WRITE (R330) -/
  | engineProgramWrite (src : Src) (t e i : Nat) (v : Word)
  /-- ENGINE_CONFIG_WRITE (R330) -/
  | engineConfigWrite (src : Src) (t e i : Nat) (v : Word)
  /-- ENGINE_GROUP_REQUEST (R328) -/
  | engineGroupRequest (src : Src) (t : Nat) (v : Word)
  /-- ENGINE_GROUP_READY (R328) -/
  | engineGroupReady (t g : Nat)
  /-- GAUZE_SOURCE_EDGE (R334) -/
  | gauzeSourceEdge (p : GzPin) (level : Bool)
  /-- STORM_WINDOW_END (R346) -/
  | stormWindowEnd
  /-- TASK_INPUT_TAKE (R340) -/
  | taskInputTake (i : Nat)
  /-- GZ_CONFIG_WRITE (R343) -/
  | gzConfigWrite (src : Src) (off : Nat) (v : Word)
  /-- GZ_PINSEL_WRITE (R336) -/
  | gzPinselWrite (src : Src) (i : Nat) (v : Word)
  /-- TL_GZFIRE (R333) -/
  | tlGzfire (src : Src) (t : Nat) (v : Word)
  /-- TIMEBASE_MODE_CHANGE (R200) -/
  | timebaseModeChange (lf : Bool)
  /-- TB_ADJ_WRITE (R351) -/
  | tbAdjWrite (src : Src) (v : Word)
  /-- TIMEBASE_ADJUST_APPLY (R351) -/
  | timebaseAdjustApply
  /-- AO_COMPARATOR_FIRE (R369) -/
  | aoComparatorFire (n : Nat)
  /-- TIMER_TICK (R355) -/
  | timerTick (n cycles : Nat)
  /-- TIMER_LFCLK_STEP (R367) -/
  | timerLfclkStep (n : Nat)
  /-- TIMER_LINK_EVENT (R362) -/
  | timerLinkEvent (n : Nat)
  /-- TIMER_ENABLE (R354) -/
  | timerEnable (src : Src) (n : Nat) (v : Word)
  /-- TIMER_START_STOP (R354) -/
  | timerStartStop (n : Nat)
  /-- TM_GSTART (R354) -/
  | tmGstart (src : Src) (i : Nat) (v : Word)
  /-- TM_GSTOP (R354) -/
  | tmGstop (src : Src) (i : Nat) (v : Word)
  /-- TIMER_SHADOW_WRITE (R356) -/
  | timerShadowWrite (src : Src) (n : Nat) (isMatch : Bool) (v : Word)
  /-- TIMER_SHADOW_TRANSFER (R357) -/
  | timerShadowTransfer (n : Nat)
  /-- TIMER_CAPTURE (R364) -/
  | timerCapture (n : Nat) (rising : Bool)
  /-- TM_CAPRISE_POP (R365) -/
  | tmCaprisePop (p : Nat) (sec : Bool) (n : Nat)
  /-- TM_CAPFALL_POP (R365) -/
  | tmCapfallPop (p : Nat) (sec : Bool) (n : Nat)
  /-- TM_COUNTER_WRITE (R354) -/
  | tmCounterWrite (src : Src) (n : Nat) (hi : Bool) (v : Word)
  /-- CONV_START_PULSE_END (R47) -/
  | convStartPulseEnd (k : Nat)
  /-- CN_DOMCTL_WRITE (R372) -/
  | cnDomctlWrite (src : Src) (v : Word)
  /-- CAN_INIT_LEAVE (R373) -/
  | canInitLeave (src : Src) (c : Nat) (v : Word)
  /-- CAN_BUS_JOIN (R373) -/
  | canBusJoin (c : Nat)
  /-- CAN_BIT_TIMING_WRITE (R374) -/
  | canBitTimingWrite (src : Src) (c : Nat) (data : Bool) (v : Word)
  /-- CAN_MAP (R378) -/
  | canMap (src : Src) (c : Nat) (v : Word)
  /-- CAN_UNMAP (R378) -/
  | canUnmap (src : Src) (c : Nat) (v : Word)
  /-- CAN_FRAME_RECEIVED (R379) -/
  | canFrameReceived (c : Nat) (f : CanFrame) (sof : Nat)
  /-- CN_TXREQ (R383) -/
  | cnTxreq (src : Src) (c : Nat) (v : Word)
  /-- CN_TXABORT (R385) -/
  | cnTxabort (src : Src) (c : Nat) (v : Word)
  /-- CAN_TRANSMIT_ATTEMPT (R385) -/
  | canTransmitAttempt (c : Nat)
  /-- CAN_FRAME_TRANSMITTED (R385) -/
  | canFrameTransmitted (c : Nat)
  /-- CAN_ERROR_STATE_CHANGE (R389) -/
  | canErrorStateChange (c tec rec lec : Nat)
  /-- CAN_BUS_OFF_RECOVERY (R389) -/
  | canBusOffRecovery (c : Nat)
  /-- CAN_OBJECT_WRITE (R376) -/
  | canObjectWrite (src : Src) (addr : Nat) (data : DWord) (strb : BitVec 8)
  /-- CAN_REFERENCE_DUE (R387) -/
  | canReferenceDue (c : Nat)
  /-- FD_LINK_ENABLE (R390) -/
  | fdLinkEnable (src : Src) (n : Nat) (v : Word)
  /-- FD_LINK_DISABLE (R390) -/
  | fdLinkDisable (src : Src) (n : Nat) (v : Word)
  /-- FD_CTL_DOMEN_WRITE (R390) -/
  | fdCtlDomenWrite (src : Src) (v : Word)
  /-- PHYRDY_CHANGE (R395) -/
  | phyrdyChange (n : Nat) (up : Bool)
  /-- TRAIN_CELL (R395) -/
  | trainCell (n : Nat) (c : Cell)
  /-- TRAINING_TIMEOUT (R395) -/
  | trainingTimeout (n : Nat)
  /-- LINK_RETRAIN (R394) -/
  | linkRetrain (n : Nat)
  /-- IDLE_CELL (R396) -/
  | idleCell (n : Nat) (c : Cell)
  /-- SEQUENCED_CELL_RECEIVED (R394) -/
  | sequencedCellReceived (n : Nat) (c : Cell)
  /-- RESEND_TIMEOUT (R394) -/
  | resendTimeout (n : Nat)
  /-- ELASTIC_BUFFER_SLIP (R396) -/
  | elasticBufferSlip (n : Nat)
  /-- LINKCTL_BONDSYNC (R397) -/
  | linkctlBondsync (n : Nat)
  /-- FD_CTL_ENUM (R398) -/
  | fdCtlEnum (src : Src) (v : Word)
  /-- ENUM_OFFER (R398) -/
  | enumOffer (n : Nat) (c : Cell)
  /-- ENUM_DONE (R398) -/
  | enumDone (n : Nat) (c : Cell)
  /-- ENUM_REJ (R398) -/
  | enumRej (n : Nat) (c : Cell)
  /-- ENUM_MASTER (R400) -/
  | enumMaster (n : Nat) (c : Cell)
  /-- TIME_EXCHANGE_DUE (R401) -/
  | timeExchangeDue (n : Nat)
  /-- TIME_DREQ (R401) -/
  | timeDreq (n : Nat) (c : Cell) (phase launch : Nat)
  /-- TIME_DRESP (R401) -/
  | timeDresp (n : Nat) (c : Cell) (phase : Nat)
  /-- TIME_SYNC (R401) -/
  | timeSync (n : Nat) (c : Cell) (phase : Nat)
  /-- FED_JOIN (R402) -/
  | fedJoin (src : Src) (v : Word)
  /-- FED_LEAVE (R403) -/
  | fedLeave (src : Src) (v : Word)
  /-- FED_HOLDOVER (R403) -/
  | fedHoldover
  /-- PUB_RECEIVED (R406) -/
  | pubReceived (n : Nat) (c : Cell)
  /-- MGMT_MESSAGE_RECEIVED (R393) -/
  | mgmtMessageReceived (n : Nat) (c : Cell)
  /-- MI_ENABLE (R407) -/
  | miEnable (src : Src) (v : Word)
  /-- MI_DISABLE (R418) -/
  | miDisable (src : Src) (v : Word)
  /-- MIRROR_HELLO (R407) -/
  | mirrorHello (n : Nat) (c : Cell)
  /-- MIRROR_FRZ_RECEIVED (R410) -/
  | mirrorFrzReceived (n : Nat) (c : Cell)
  /-- MIRROR_CMT (R412) -/
  | mirrorCmt (g : Nat)
  /-- MIRROR_HEARTBEAT_MISS (R413) -/
  | mirrorHeartbeatMiss (g : Nat)
  /-- MI_RESYNC (R417) -/
  | miResync (src : Src) (v : Word)
  /-- MIRROR_RSREQ (R417) -/
  | mirrorRsreq (n : Nat) (c : Cell)
  /-- MIRROR_BULK (R417) -/
  | mirrorBulk (n : Nat) (c : Cell)
  /-- FAULT_OCCURRENCE (R423) -/
  | faultOccurrence (n : Nat)
  /-- FAULT_WINDOW_EXPIRY (R426) -/
  | faultWindowExpiry (n : Nat)
  /-- FC_ACK (R431) -/
  | fcAck (src : Src) (i : Nat) (v : Word)
  /-- FC_STAT_CLEAR (R431) -/
  | fcStatClear (src : Src) (i : Nat) (v : Word)
  /-- FC_SCFG_FORCE (R432) -/
  | fcScfgForce (src : Src) (n : Nat)
  /-- FC_RCTL_RELEASE (R429) -/
  | fcRctlRelease (src : Src)
  /-- TL_FCACK_ACK (R433) -/
  | tlFcackAck (src : Src) (t n : Nat)
  /-- TL_FCACK_CLR (R433) -/
  | tlFcackClr (src : Src) (t n : Nat)
  /-- ALIVE_TOGGLE (R436) -/
  | aliveToggle
  /-- APERTURE_GRANT (R441) -/
  | apertureGrant
  /-- APERTURE_RELEASE (R438) -/
  | apertureRelease (src : Src) (off : Nat) (v : Word)
  /-- AP_RSV_REQUEST (R443) -/
  | apRsvRequest (src : Src) (g : Nat) (grains : Nat)
  /-- AP_RSV_RELEASE (R443) -/
  | apRsvRelease (src : Src) (g : Nat)
  /-- AP_PCTL_DOZE (R446) -/
  | apPctlDoze (src : Src)
  /-- AP_PCTL_SLEEP (R449) -/
  | apPctlSleep (src : Src)
  /-- AP_PCTL_OFF (R449) -/
  | apPctlOff (src : Src)
  /-- AP_PCTL_WAKE (R448) -/
  | apPctlWake (src : Src)
  /-- DOZE_WAKE (R448) -/
  | dozeWake (wsrc : WakeSrc)
  /-- SLEEP_WAKE (R449) -/
  | sleepWake (wsrc : WakeSrc)
  /-- AP_TILEEN_WRITE (R450) -/
  | apTileenWrite (src : Src) (v : Word)
  /-- UP_CMD_SEND (R458) -/
  | upCmdSend (src : Src)
  /-- UPDATE_STAGE_END (R456) -/
  | updateStageEnd (data : List Byte) (err : Bool)
  /-- UP_CMD_ACTIVATE (R459) -/
  | upCmdActivate (src : Src)
  /-- ACTIVATION_INSTANT (R460) -/
  | activationInstant
  /-- LOADER_PLACEMENT_END (R460) -/
  | loaderPlacementEnd
  /-- UP_CMD_CONFIRM (R463) -/
  | upCmdConfirm (src : Src)
  /-- UP_CMD_FALLBACK (R464) -/
  | upCmdFallback (src : Src) (v : Word)
  /-- CONFIRM_WINDOW_EXPIRY (R464) -/
  | confirmWindowExpiry
  /-- FALLBACK_RESTORE_END (R464) -/
  | fallbackRestoreEnd (data : List Byte) (err : Bool)
  /-- UP_CMD_DISCARD (R465) -/
  | upCmdDiscard (src : Src)
  /-- DB_THALT (R469) -/
  | dbThalt (src : Src) (t : Nat) (v : Word)
  /-- DB_TRES (R470) -/
  | dbTres (src : Src) (t : Nat) (v : Word)
  /-- DB_TSTEP (R470) -/
  | dbTstep (src : Src) (t : Nat) (v : Word)
  /-- DB_TILE_HALT (R472) -/
  | dbTileHalt (src : Src) (t : Nat)
  /-- DB_TILE_RESUME (R472) -/
  | dbTileResume (src : Src) (t : Nat)
  /-- DB_BLK_HALT (R476) -/
  | dbBlkHalt (src : Src)
  /-- BLOCK_HALT_COMPLETE (R476) -/
  | blockHaltComplete
  /-- DB_BLK_RESUME (R477) -/
  | dbBlkResume (src : Src)
  /-- DB_CHABORT (R475) -/
  | dbChabort (src : Src) (v : Word)
  /-- DEBUG_STATE_ACCESS (R471) -/
  | debugStateAccess (src : Src) (off : Nat) (write : Bool) (v : Word)
  /-- DBGACC_UPDATE (R468) -/
  | dbgaccUpdate
  /-- FAULT_IN_FALL (R420) -/
  | faultInFall (j : Nat)
  /-- FAILED_TRAINING_RESTART (R395) -/
  | failedTrainingRestart (n : Nat)
  /-- BANK_RETENTION_RETURN (R447) -/
  | bankRetentionReturn (m : MemUnit)
  /-- DIGEST_ENGINE_END (R411) -/
  | digestEngineEnd (g : Nat)
  /-- TAP_TCK_EDGE (R467) -/
  | tapTckEdge (tms tdi : Bool)
deriving DecidableEq, Repr

end Sys2Proof
end

