-- ==== Sys2Proof/Decode.lean ====
section
/-! DEFINITION. The words of the opcode table: no row of the table gives its command any bits, so no word spells a
command. The instruction words of the Rhaesh threads and of the Facet engines are data of commands; their fields are read
in Machine/Operands.lean and Machine/Engines.lean. -/

namespace Sys2Proof

/-- The command that a word spells by the table's bits: none, since every row of the table has no bits. -/
def decodeTableWord (_nbits _w : Nat) : Option Instr := none

end Sys2Proof
end

