-- ==== Sys2Proof/Machine/Bits.lean ====
section
/-! DEFINITION. Bit fields, sign extension and byte order: the helpers by which a register or a memory word is taken
apart and put together. -/

namespace Sys2Proof.Machine

/-- The field of `n` bits at bit `lo`, as a number. -/
def fld {w : Nat} (x : BitVec w) (lo n : Nat) : Nat := (x.toNat >>> lo) % 2 ^ n

/-- Bit `i`. -/
def bit {w : Nat} (x : BitVec w) (i : Nat) : Bool := x.getLsbD i

/-- The mask of the `n` bits at bit `lo`. -/
def fldMask (w lo n : Nat) : BitVec w := BitVec.ofNat w (2 ^ n - 1) <<< lo

/-- Replace the field of `n` bits at bit `lo` by the low `n` bits of `v`. -/
def setFld {w : Nat} (x : BitVec w) (lo n v : Nat) : BitVec w :=
  (x &&& ~~~ fldMask w lo n) ||| (BitVec.ofNat w (v % 2 ^ n) <<< lo)

/-- Replace bit `i`. -/
def setBit {w : Nat} (x : BitVec w) (i : Nat) (b : Bool) : BitVec w := setFld x i 1 b.toNat

/-- A number as a word, keeping its low 32 bits. -/
def word (n : Nat) : Word := BitVec.ofNat 32 n

/-- The two's-complement value of the low `n` bits of `v`. -/
def sextNat (n v : Nat) : Int :=
  let x := v % 2 ^ n
  if 2 ^ (n - 1) ≤ x then (x : Int) - (2 ^ n : Nat) else (x : Int)

/-- An integer as a word, modulo 2^32. -/
def wordI (i : Int) : Word := BitVec.ofInt 32 i

/-- The low `n` bits of `v`, sign-extended to a word. -/
def sext (n v : Nat) : Word := wordI (sextNat n v)

/-- The bytes of a number, least significant first. -/
def leBytes : Nat → Nat → List Byte
  | 0, _ => []
  | k + 1, v => BitVec.ofNat 8 v :: leBytes k (v / 256)

/-- The number whose bytes are given, least significant first. -/
def ofLeBytes : List Byte → Nat
  | [] => 0
  | b :: bs => b.toNat + 256 * ofLeBytes bs

/-- Division rounded up. -/
def ceilDiv (a b : Nat) : Nat := (a + b - 1) / b

/-- The numbers below `n` whose bit is 1, in ascending order. -/
def setBits {w : Nat} (x : BitVec w) (n : Nat) : List Nat := (List.range n).filter (fun i => bit x i)

/-- `a` plus `b`, not above `m` (a saturating count). -/
def satAdd (m a b : Nat) : Nat := min m (a + b)

/-- One bit of a reflected CRC-32. -/
def crc32Bit (c : Word) : Word := if bit c 0 then (c >>> 1) ^^^ 0xEDB88320 else c >>> 1

/-- One byte into a CRC-32. -/
def crc32Byte (c : Word) (b : Byte) : Word :=
  crc32Bit (crc32Bit (crc32Bit (crc32Bit (crc32Bit (crc32Bit (crc32Bit (crc32Bit (c ^^^ b.setWidth 32))))))))

/-- The CRC-32 of IEEE 802.3 over bytes (R231, R391). -/
def crc32 (bs : List Byte) : Word := ~~~ bs.foldl crc32Byte 0xFFFFFFFF

/-- One bit of the CRC-64 of ECMA-182, not reflected. -/
def crc64Bit (c : DWord) : DWord := if bit c 63 then (c <<< 1) ^^^ 0x42F0E1EBA9EA3693 else c <<< 1

/-- One byte into a CRC-64. -/
def crc64Byte (c : DWord) (b : Byte) : DWord :=
  crc64Bit (crc64Bit (crc64Bit (crc64Bit (crc64Bit (crc64Bit (crc64Bit (crc64Bit (c ^^^ (b.setWidth 64 <<< 56)))))))))

/-- The CRC-64 of R411. -/
def crc64 (bs : List Byte) : DWord := ~~~ bs.foldl crc64Byte (BitVec.allOnes 64)

end Sys2Proof.Machine
end

