-- ==== Sys2Proof/Machine/Crypto.lean ====
section
/-! DEFINITION. The functions over bytes that R452 and R457 name by their standards: SHA-256 (FIPS 180-4) and the
verification of an Ed25519 signature (RFC 8032), which needs SHA-512. -/

namespace Sys2Proof.Machine

/-! ### SHA-2 (FIPS 180-4) -/

/-- The round constants of SHA-256. -/
def shaK256 : List Nat :=
  [0x428A2F98, 0x71374491, 0xB5C0FBCF, 0xE9B5DBA5, 0x3956C25B, 0x59F111F1,
  0x923F82A4, 0xAB1C5ED5, 0xD807AA98, 0x12835B01, 0x243185BE, 0x550C7DC3,
  0x72BE5D74, 0x80DEB1FE, 0x9BDC06A7, 0xC19BF174, 0xE49B69C1, 0xEFBE4786,
  0xFC19DC6, 0x240CA1CC, 0x2DE92C6F, 0x4A7484AA, 0x5CB0A9DC, 0x76F988DA,
  0x983E5152, 0xA831C66D, 0xB00327C8, 0xBF597FC7, 0xC6E00BF3, 0xD5A79147,
  0x6CA6351, 0x14292967] ++
  [0x27B70A85, 0x2E1B2138, 0x4D2C6DFC, 0x53380D13, 0x650A7354, 0x766A0ABB,
  0x81C2C92E, 0x92722C85, 0xA2BFE8A1, 0xA81A664B, 0xC24B8B70, 0xC76C51A3,
  0xD192E819, 0xD6990624, 0xF40E3585, 0x106AA070, 0x19A4C116, 0x1E376C08,
  0x2748774C, 0x34B0BCB5, 0x391C0CB3, 0x4ED8AA4A, 0x5B9CCA4F, 0x682E6FF3,
  0x748F82EE, 0x78A5636F, 0x84C87814, 0x8CC70208, 0x90BEFFFA, 0xA4506CEB,
  0xBEF9A3F7, 0xC67178F2]

/-- The round constants of SHA-512. -/
def shaK512 : List Nat :=
  [0x428A2F98D728AE22, 0x7137449123EF65CD, 0xB5C0FBCFEC4D3B2F, 0xE9B5DBA58189DBBC,
  0x3956C25BF348B538, 0x59F111F1B605D019, 0x923F82A4AF194F9B, 0xAB1C5ED5DA6D8118,
  0xD807AA98A3030242, 0x12835B0145706FBE, 0x243185BE4EE4B28C, 0x550C7DC3D5FFB4E2,
  0x72BE5D74F27B896F, 0x80DEB1FE3B1696B1, 0x9BDC06A725C71235, 0xC19BF174CF692694,
  0xE49B69C19EF14AD2, 0xEFBE4786384F25E3, 0xFC19DC68B8CD5B5, 0x240CA1CC77AC9C65,
  0x2DE92C6F592B0275, 0x4A7484AA6EA6E483, 0x5CB0A9DCBD41FBD4, 0x76F988DA831153B5,
  0x983E5152EE66DFAB, 0xA831C66D2DB43210, 0xB00327C898FB213F, 0xBF597FC7BEEF0EE4] ++
  [0xC6E00BF33DA88FC2, 0xD5A79147930AA725, 0x6CA6351E003826F, 0x142929670A0E6E70,
  0x27B70A8546D22FFC, 0x2E1B21385C26C926, 0x4D2C6DFC5AC42AED, 0x53380D139D95B3DF,
  0x650A73548BAF63DE, 0x766A0ABB3C77B2A8, 0x81C2C92E47EDAEE6, 0x92722C851482353B,
  0xA2BFE8A14CF10364, 0xA81A664BBC423001, 0xC24B8B70D0F89791, 0xC76C51A30654BE30,
  0xD192E819D6EF5218, 0xD69906245565A910, 0xF40E35855771202A, 0x106AA07032BBD1B8,
  0x19A4C116B8D2D0C8, 0x1E376C085141AB53, 0x2748774CDF8EEB99, 0x34B0BCB5E19B48A8,
  0x391C0CB3C5C95A63, 0x4ED8AA4AE3418ACB, 0x5B9CCA4F7763E373, 0x682E6FF3D6B2B8A3] ++
  [0x748F82EE5DEFB2FC, 0x78A5636F43172F60, 0x84C87814A1F0AB72, 0x8CC702081A6439EC,
  0x90BEFFFA23631E28, 0xA4506CEBDE82BDE9, 0xBEF9A3F7B2C67915, 0xC67178F2E372532B,
  0xCA273ECEEA26619C, 0xD186B8C721C0C207, 0xEADA7DD6CDE0EB1E, 0xF57D4F7FEE6ED178,
  0x6F067AA72176FBA, 0xA637DC5A2C898A6, 0x113F9804BEF90DAE, 0x1B710B35131C471B,
  0x28DB77F523047D84, 0x32CAAB7B40C72493, 0x3C9EBE0A15C9BEBC, 0x431D67C49C100D4C,
  0x4CC5D4BECB3E42B6, 0x597F299CFC657E2A, 0x5FCB6FAB3AD6FAEC, 0x6C44198C4A475817]

/-- The number whose bytes are given, most significant first. -/
def ofBeBytes (bs : List Byte) : Nat := ofLeBytes bs.reverse

/-- The bytes of a number, most significant first. -/
def beBytes (k v : Nat) : List Byte := (leBytes k v).reverse

/-- A member of the SHA-2 family: word width and the rotation amounts of its four functions; the last of each small
function is a shift. -/
structure Sha where
  w : Nat
  s0 : Nat × Nat × Nat
  s1 : Nat × Nat × Nat
  b0 : Nat × Nat × Nat
  b1 : Nat × Nat × Nat

/-- SHA-256. -/
def sha256p : Sha := ⟨32, (7, 18, 3), (17, 19, 10), (2, 13, 22), (6, 11, 25)⟩
/-- SHA-512. -/
def sha512p : Sha := ⟨64, (1, 8, 7), (19, 61, 6), (28, 34, 39), (14, 18, 41)⟩

/-- Rotate right within the word. -/
def Sha.rot (p : Sha) (x k : Nat) : Nat := (x >>> k) ||| (x <<< (p.w - k)) % 2 ^ p.w
/-- A small sigma. -/
def Sha.small (p : Sha) (a : Nat × Nat × Nat) (x : Nat) : Nat := p.rot x a.1 ^^^ p.rot x a.2.1 ^^^ (x >>> a.2.2)
/-- A big sigma. -/
def Sha.big (p : Sha) (a : Nat × Nat × Nat) (x : Nat) : Nat := p.rot x a.1 ^^^ p.rot x a.2.1 ^^^ p.rot x a.2.2

/-- The message schedule, latest word first. -/
def Sha.expand (p : Sha) : Nat → List Nat → List Nat
  | 0, l => l
  | k + 1, l => p.expand k ((p.small p.s1 (l.getD 1 0) + l.getD 6 0 + p.small p.s0 (l.getD 14 0) + l.getD 15 0) % 2 ^ p.w :: l)

/-- One round on the working variables a to h. -/
def Sha.round (p : Sha) (v : List Nat) (kw : Nat) : List Nat :=
  match v with
  | [a, b, c, d, e, f, g, h] =>
    let t1 := h + p.big p.b1 e + ((e &&& f) ^^^ ((2 ^ p.w - 1 - e) &&& g)) + kw
    let t2 := p.big p.b0 a + ((a &&& b) ^^^ (a &&& c) ^^^ (b &&& c))
    [(t1 + t2) % 2 ^ p.w, a, b, c, (d + t1) % 2 ^ p.w, e, f, g]
  | _ => v

/-- One block of 16 words. -/
def Sha.block (p : Sha) (ks : List Nat) (h : List Nat) (m : List Nat) : List Nat :=
  let ws := (p.expand (ks.length - 16) m.reverse).reverse
  let v := (List.zipWith (fun k x => k + x) ks ws).foldl (fun v kw => p.round v kw) h
  List.zipWith (fun x y => (x + y) % 2 ^ p.w) h v

/-- The words of the padded message, block by block. -/
def Sha.blocks (p : Sha) (ks : List Nat) : Nat → List Nat → List Byte → List Nat
  | 0, h, _ => h
  | k + 1, h, bs =>
    let n := p.w / 8
    let m := (List.range 16).map (fun i => ofBeBytes ((bs.drop (n * i)).take n))
    p.blocks ks k (p.block ks h m) (bs.drop (16 * n))

/-- The padded message. -/
def Sha.pad (p : Sha) (bs : List Byte) : List Byte :=
  let blk := 2 * p.w
  let len := p.w / 4
  let z := (blk - (bs.length + 1 + len) % blk) % blk
  bs ++ [0x80] ++ List.replicate z 0 ++ beBytes len (8 * bs.length)

/-- The digest of a message from its initial value. -/
def Sha.hash (p : Sha) (ks iv : List Nat) (bs : List Byte) : List Byte :=
  let m := p.pad bs
  (p.blocks ks (m.length / (2 * p.w)) iv m).flatMap (fun x => beBytes (p.w / 8) x)

/-- SHA-256 of bytes. -/
def sha256 (bs : List Byte) : List Byte :=
  sha256p.hash shaK256 [0x6A09E667, 0xBB67AE85, 0x3C6EF372, 0xA54FF53A, 0x510E527F, 0x9B05688C, 0x1F83D9AB, 0x5BE0CD19] bs

/-- SHA-512 of bytes. -/
def sha512 (bs : List Byte) : List Byte :=
  sha512p.hash shaK512 [0x6A09E667F3BCC908, 0xBB67AE8584CAA73B, 0x3C6EF372FE94F82B, 0xA54FF53A5F1D36F1,
  0x510E527FADE682D1, 0x9B05688C2B3E6C1F, 0x1F83D9ABFB41BD6B, 0x5BE0CD19137E2179] bs

/-! ### Ed25519 (RFC 8032) -/

/-- The field prime. -/
def edP : Nat := 2 ^ 255 - 19
/-- The group order. -/
def edL : Nat := 2 ^ 252 + 27742317777372353535851937790883648493

/-- Powers modulo the prime, by the bits of the exponent from bit `k - 1` down. -/
def edPow (a e : Nat) : Nat → Nat
  | 0 => 1
  | k + 1 => let r := edPow a (e / 2) k
             let q := r * r % edP
             if e % 2 = 1 then q * a % edP else q

/-- The inverse in the field. -/
def edInv (a : Nat) : Nat := edPow a (edP - 2) 256
/-- The curve constant d. -/
def edD : Nat := (edP - 121665) * edInv 121666 % edP
/-- A square root of -1. -/
def edI : Nat := edPow 2 ((edP - 1) / 4) 256

/-- A point in extended coordinates X, Y, Z, T. -/
structure EdPoint where
  x : Nat
  y : Nat
  z : Nat
  t : Nat

/-- The sum of two points. -/
def EdPoint.add (p q : EdPoint) : EdPoint :=
  let a := (p.y + edP - p.x) * (q.y + edP - q.x) % edP
  let b := (p.y + p.x) * (q.y + q.x) % edP
  let c := 2 * p.t * q.t * edD % edP
  let d := 2 * p.z * q.z % edP
  let e := b + edP - a
  let f := d + edP - c
  let g := d + c
  let h := b + a
  ⟨e * f % edP, g * h % edP, f * g % edP, e * h % edP⟩

/-- The neutral point. -/
def edZero : EdPoint := ⟨0, 1, 1, 0⟩

/-- A multiple of a point, by the bits of the factor. -/
def EdPoint.mul (p : EdPoint) : Nat → Nat → EdPoint
  | 0, _ => edZero
  | k + 1, n => let h := p.mul k (n / 2)
                let d := h.add h
                if n % 2 = 1 then d.add p else d

/-- The same point. -/
def EdPoint.same (p q : EdPoint) : Bool := p.x * q.z % edP == q.x * p.z % edP && p.y * q.z % edP == q.y * p.z % edP

/-- Decode a point: the y coordinate and the lowest bit of x. -/
def edDecode (bs : List Byte) : Option EdPoint :=
  let v := ofLeBytes bs
  let y := v % 2 ^ 255
  let sign := v / 2 ^ 255 % 2
  if edP ≤ y then none
  else
    let u := (y * y + edP - 1) % edP
    let w := (edD * y * y + 1) % edP
    let x2 := u * edInv w % edP
    let r := edPow x2 ((edP + 3) / 8) 256
    let x := if r * r % edP = x2 then r else r * edI % edP
    if x * x % edP ≠ x2 then none
    else if x = 0 ∧ sign = 1 then none
    else
      let x := if x % 2 = sign then x else edP - x
      some ⟨x, y, 1, x * y % edP⟩

/-- The base point: y is 4/5, x even. -/
def edBase : EdPoint := (edDecode (leBytes 32 (4 * edInv 5 % edP))).getD edZero

/-- The signature of a message verifies under a public key. -/
def ed25519Ok (pub msg sig : List Byte) : Bool :=
  match edDecode pub, edDecode (sig.take 32) with
  | some a, some r =>
    let n := ofLeBytes (sig.drop 32)
    let k := ofLeBytes (sha512 (sig.take 32 ++ pub ++ msg)) % edL
    decide (n < edL) && (edBase.mul 253 n).same (r.add (a.mul 253 k))
  | _, _ => false

end Sys2Proof.Machine
end

