-- ==== Sys2Proof/Config.lean ====
section
/-! DEFINITION. What an implementation fixes or the spec leaves open: constants without a body, so that no proof can
rest on a value of them. Each is named in the assumption log. -/

namespace Sys2Proof.Config

/-- A 32-bit value that the spec does not state; the argument is the model's counter of free values (log entry 3). -/
opaque freeWord : Nat → Word

/-- A vector value that the spec does not state, lane by lane (log entry 3). -/
opaque freeVReg : Nat → VReg

/-- Tininess is detected before rounding rather than after it: IEEE 754-2019 leaves this to the implementation (R184, log
entry 60). -/
opaque tinyBefore : Bool

/-- FMIN and FMAX return the number when one operand is a NaN, rather than a NaN: the spec does not say which operation
of IEEE 754-2019 they are (R184, log entry 60). -/
opaque minNumber : Bool

/-- FLT and FLE set NV for a quiet NaN (R184, log entry 60). -/
opaque signalingLess : Bool

/-- A fused multiply-add of infinity, zero and a quiet NaN sets NV: IEEE 754-2019 leaves this to the implementation
(R184, log entry 60). -/
opaque fmaInvalid : Bool

end Sys2Proof.Config
end

