-- ==== Sys2Proof/Machine/State.lean ====
section
/-! DEFINITION. The state of the block as plain data: every register under the spec's name, the memories, and the state
that no register shows; the reasons a step can stop; and the state right after reset. -/

namespace Sys2Proof.Machine

/-- Every 32-bit register of the machine under the name the spec gives it (R478 to R481, file 22), its indices
as the spec writes them (t tile, n thread, e engine, g group, p port, r ring, q queue, v vector, c controller or
channel, i word), and after them the 32-bit words that no offset of the block window shows (R105, R107, R141, R273). -/
inductive Reg where
  | BLK_VERSION
  | BLK_CONFIG
  | BLK_STATE
  | BLK_BOOTDONE
  | BLK_BOOTPTR (i : Nat)
  | BLK_READY (i : Nat)
  | BLK_RSTCAUSE
  | BLK_PDSTAT
  | HP_CTL (p : Nat)
  | HP_TZ2CFG
  | HP_WRMASK (p i : Nat)
  | HP_REFSTAT (p : Nat)
  | HP_REFADDR (p : Nat)
  | HP_PGBIND (i : Nat)
  | HP_SEM (n : Nat)
  | HP_SEMBRK
  | HP_SEMSUM
  | AP_CFG
  | AP_STAT
  | AP_PCTL
  | AP_PSTAT
  | AP_WAKEEN
  | AP_TILEEN
  | AP_RSV (g : Nat)
  | FC_CFG
  | FC_RSTAT
  | FC_RCTL
  | FC_NCFG
  | FC_NSTAT
  | FC_FIRST
  | FC_FIRSTT (i : Nat)
  | FC_WIN (s : Nat)
  | FC_STAT (i : Nat)
  | FC_ACK (i : Nat)
  | FC_SAFEENG (i : Nat)
  | FC_HVEC (p i : Nat)
  | FC_SCFG (n : Nat)
  | FC_SSTAT (n : Nat)
  | GZ_ERR
  | GZ_STORMCFG
  | GZ_CHFLAG (i : Nat)
  | GZ_CHSTORM (i : Nat)
  | GZ_CHPROT (i : Nat)
  | GZ_PINSEL (i : Nat)
  | GZ_TOVF (i : Nat)
  | GZ_CH (c : Nat)
  | GZ_TTGT (i : Nat)
  | GZ_TASK (i : Nat)
  | TM_CTL (n : Nat)
  | TM_STAT (n : Nat)
  | TM_PRESC (n : Nat)
  | TM_ROUTE (n : Nat)
  | TM_CNT_LO (n : Nat)
  | TM_CNT_HI (n : Nat)
  | TM_PERIOD (n : Nat)
  | TM_MATCH (n : Nat)
  | TM_PMHI (n : Nat)
  | TM_CAPRISE (n : Nat)
  | TM_CAPFALL (n : Nat)
  | TM_PWIDTH (n : Nat)
  | TB_LO
  | TB_HI
  | TB_ADJ
  | TB_STAT
  | TB_CMP (n i : Nat)
  | TM_CONVSEL (k : Nat)
  | TM_CONVSTAT
  | TM_GSTART (i : Nat)
  | TM_GSTOP (i : Nat)
  | SC_IMGBASE
  | SC_IMGSIZE
  | SC_OVRPOL
  | SC_STAT
  | SC_OWNPTR
  | SC_OWNDATA
  | SC_OWNFILL
  | SC_GCTL (g : Nat)
  | SC_GSTAT (g : Nat)
  | SC_PERIOD (g : Nat)
  | SC_OFFSET (g : Nat)
  | SC_PHASE (g : Nat)
  | SC_FREEZELAT (g : Nat)
  | SC_TFREEZE (g i : Nat)
  | SC_SCANNO (g : Nat)
  | SC_ISLICE (g : Nat)
  | SC_QSLICE (g : Nat)
  | SC_MSLICE (g : Nat)
  | SC_MEMBER (g i : Nat)
  | SC_PBASE (g : Nat)
  | SC_CPYTIME (g : Nat)
  | SC_DETLOST (g : Nat)
  | SC_DETSCAN (g : Nat)
  | SC_EDITCTL (g : Nat)
  | SC_EDITSTAT (g : Nat)
  | SC_EDITTGT (g i : Nat)
  | SC_EDITID (g : Nat)
  | SC_PBSIZE (g : Nat)
  | SM_PDCTL
  | SM_CLRREQ
  | SM_PDSTAT
  | SM_COLLCNT
  | SM_ECCSTAT
  | SM_ECCADDR
  | TL_CTL (t : Nat)
  | TL_STAT (t : Nat)
  | TL_DLGRACE (t : Nat)
  | TL_RESETPC (t : Nat)
  | TL_FREC (t i : Nat)
  | TL_HWROUTE (t : Nat)
  | TL_SPECC (t : Nat)
  | TL_SPECCADDR (t : Nat)
  | TL_ENGGRP (t : Nat)
  | TL_GZFIRE (t : Nat)
  | TL_FCACK (t : Nat)
  | TL_SLOTMAP (t i : Nat)
  | TH_CTL (t n : Nat)
  | TH_STAT (t n : Nat)
  | TH_PC (t n : Nat)
  | TH_EVPEND (t n : Nat)
  | TH_EVIE (t n : Nat)
  | TH_EVWE (t n : Nat)
  | TH_EVSEL (t n : Nat)
  | TH_VBASE (t n : Nat)
  | TH_EPC (t n i : Nat)
  | TH_WPERM (t n : Nat)
  | TH_HWINHI (t n : Nat)
  | TH_HWIN (t n w : Nat)
  | LV_CTL (t : Nat)
  | LV_STAT (t : Nat)
  | LV_IDLE (t : Nat)
  | LV_CSTAT (t c : Nat)
  | FE_CTL (t e : Nat)
  | FE_STAT (t e : Nat)
  | FE_CFG (t e : Nat)
  | FE_PINS (t e : Nat)
  | FE_CLK (t e : Nat)
  | FE_CMP (t e : Nat)
  | FE_CMPMASK (t e : Nat)
  | FE_CNT (t e : Nat)
  | FE_IDLEPAT (t e : Nat)
  | FE_PAT (t e : Nat)
  | FE_SEG (t e : Nat)
  | FE_SIO (t e : Nat)
  | FE_PROG (t e i : Nat)
  | RG_BASE (p r i : Nat)
  | RG_CFG (p r : Nat)
  | RG_FLOW (p r : Nat)
  | RG_TARGET (p r : Nat)
  | RG_PI (p r : Nat)
  | RG_CI (p r : Nat)
  | RG_STAT (p r : Nat)
  | RG_CQBASE (p q i : Nat)
  | RG_CQCFG (p q : Nat)
  | RG_CQSTAT (p q : Nat)
  | RG_PCTL (p : Nat)
  | RG_PSTAT (p : Nat)
  | RG_SUMADDR (p i : Nat)
  | RG_DBBASE (p i : Nat)
  | RG_VECADDR (p v i : Nat)
  | RG_VECDATA (p v : Nat)
  | RG_VECCTL (p v : Nat)
  | CN_CTL (c : Nat)
  | CN_STAT (c : Nat)
  | CN_NBT (c : Nat)
  | CN_DBT (c : Nat)
  | CN_ERR (c : Nat)
  | CN_MAPID (c : Nat)
  | CN_MAPCMD (c : Nat)
  | CN_RXMISS (c : Nat)
  | CN_TXREQ (c : Nat)
  | CN_TXABORT (c : Nat)
  | CN_TTCFG (c : Nat)
  | CN_REFID (c : Nat)
  | CN_TTSTAT (c : Nat)
  | CN_GTLO (c : Nat)
  | CN_GTHI (c : Nat)
  | CN_TUR (c : Nat)
  | CN_TRIG (c k : Nat)
  | CN_DOMCTL
  | FD_CTL
  | FD_STAT
  | FD_RANGE
  | FD_TSTAT
  | FD_TOFS
  | FD_TCFG
  | FD_LCTL (n : Nat)
  | FD_LSTAT (n : Nat)
  | FD_LERR (n : Nat)
  | FD_HOPDLY (n : Nat)
  | FD_PUB (i w : Nat)
  | FD_SUB (j w : Nat)
  | FD_SUBSTAT
  | MI_CTL
  | MI_PEER
  | MI_STAT
  | MI_DIGEST (i : Nat)
  | MI_PDIGEST (i : Nat)
  | MI_DSCAN
  | MI_ENGSHADOW (i : Nat)
  | UP_CFG
  | UP_SKEWOVR
  | UP_TRUST (i : Nat)
  | UP_SRCADDR (i : Nat)
  | UP_RANGE
  | UP_SLOT (i : Nat)
  | UP_STAGE
  | UP_CMD
  | UP_ACTT (i : Nat)
  | UP_CONFIRMWIN
  | UP_STAT
  | UP_VER (i : Nat)
  | UP_IF
  | UP_MBOX
  | UP_MBOXRD
  | UP_MBOXWR
  | DB_CTL
  | DB_BLK
  | DB_TSEL
  | DB_BITST
  | DB_VSEL
  | DB_VDATA
  | DB_CHABORT
  | DB_GREG (i : Nat)
  | DB_THALT (t : Nat)
  | DB_TRES (t : Nat)
  | DB_TSTEP (t : Nat)
  | DB_TILE (t : Nat)
  | DB_HSTAT (t n : Nat)
  | DB_BP (t i w : Nat)
  | DB_WP (t i w : Nat)
  | MB (p i : Nat)
  | G (t n i : Nat)
  | ISTAT (t n : Nat)
  | LCOUNT (t n : Nat)
  | LSTART (t n : Nat)
  | LEND (t n : Nat)
  | LCTL (t n : Nat)
  | BITST (t n : Nat)
  | MBCOUNT (p i : Nat)
deriving DecidableEq, Repr

/-- The six views of the image (R194). -/
inductive View where
  | I | F | Q | P | M | H
deriving DecidableEq, Repr

/-- A finite map as a list of key and value pairs: the first pair of a key counts, and a key without a pair has the
default that the reader names. Plain data, so that states compare and print. -/
abbrev Map (κ α : Type) := List (κ × α)

/-- The value at a key, or the default. -/
def mget {κ α : Type} [DecidableEq κ] : Map κ α → α → κ → α
  | [], d, _ => d
  | (k', v) :: m, d, k => if k' = k then v else mget m d k

/-- Set the value at a key: the pair of the key is replaced where it stands, or added at the end. -/
def mset {κ α : Type} [DecidableEq κ] : Map κ α → κ → α → Map κ α
  | [], k, v => [(k, v)]
  | (k', v') :: m, k, v => if k' = k then (k, v) :: m else (k', v') :: mset m k v

/-! ### Faults, refusals, responses -/

/-- Why a step stops with a fault. -/
inductive Fault where
  /-- Raised by a command that names a part no build has, or that this build does not have (a tile, an engine, a port
  index outside the block): no agent at the ports can send such a command. Safe: the model stops. -/
  | noSuchPart
deriving DecidableEq, Repr

/-- Why a step is refused by the model. -/
inductive Refusal where
  /-- Raised by an arm of `exec` whose command has no meaning in the model yet. Safe: the model stops. -/
  | notModelled (mnemonic : String)
deriving DecidableEq, Repr

/-- The response codes of the subordinate side (R257, signal HPx_S_RESP_CODE). -/
inductive RespCode where
  | okay | refused | decerr
deriving DecidableEq, Repr

/-- The refusal causes of R260. -/
inductive Cause where
  | locked | notready | ecc | secure | rights | bound | semaphore | state | tz2off | view | partialStrobe
deriving DecidableEq, Repr

/-- One response of the subordinate side of a port, or of DBGACC (R257, R259, R468); `data` is what the spec gives it to
carry: the bytes of a read, the cause of a refusal, zeros with DECERR, nothing with the OKAY of a write. -/
structure Response where
  code : RespCode
  data : Option DWord
deriving DecidableEq, Repr

/-! ### Clocks and power -/

/-- The build options of R3, fixed at synthesis (R11). -/
structure Build where
  /-- log2 of the tile count, 0 to 3 -/
  tilesLog2 : Nat
  lvu : Bool
  /-- CAN controllers: 0, 8 or 16 -/
  can : Nat
deriving DecidableEq, Repr

/-- The clock and reset pins as the block has taken them (R27 to R36). -/
structure Clocks where
  /-- PORST_N is low -/
  porst : Bool
  /-- SYSRST_N is low -/
  sysrst : Bool
  clkReq : Bool
  /-- CLK_ACK as synchronised -/
  clkAck : Bool
  /-- the divided clocks run -/
  running : Bool
  /-- MAIN is held in reset, and with it the host ports (R36, R483) -/
  held : Bool
deriving DecidableEq, Repr

/-- Where a power domain stands in the handshakes of R39. -/
inductive PdPhase where
  /-- PD_REQ 0, PD_ACK 0 -/
  | off
  /-- PD_REQ 1, waiting for PD_ACK -/
  | rampUp
  /-- PD_ACK taken and PD_ISO low: the domain reset is not yet released -/
  | inReset
  /-- the reset was due to be released while a block reset was active: the domain leaves it with MAIN (R39, R483) -/
  | due
  /-- powered and out of reset -/
  | on
  /-- its ready bits are clear and accepted accesses drain (R68) -/
  | draining
  /-- PD_REQ 0, waiting for PD_ACK to fall -/
  | rampDown
deriving DecidableEq, Repr

/-- A power domain (R38 to R43): its two output pins, its phase, the state its software request asks for, and whether
its contents were lost since it was last powered. -/
structure Domain where
  req : Bool
  iso : Bool
  phase : PdPhase
  /-- the state that the request fields ask for: a change waits for a handshake under way (R38) -/
  want : Bool
  /-- the memories of the domain are to be cleared at the next power-up (R42, R66) -/
  lost : Bool
deriving DecidableEq, Repr

/-- Who asks Aperture for grains, one form for each row of R438, in its order. -/
inductive ApUser where
  | lvuWake (t c : Nat)
  | tile (t : Nat)
  | bank (b : Nat)
  | engGroup (e : Nat)
  | burst (p : Nat)
  | link (n : Nat)
  | can
  | thread (t n : Nat)
  | rsv (g : Nat)
deriving DecidableEq, Repr

/-- A request that waits for grains (R440); the waiting list holds them in order of arrival. -/
structure Claim where
  user : ApUser
  grains : Nat
deriving DecidableEq, Repr

/-! ### Memory -/

/-- What the check bits of a stored word say (R251). -/
inductive EccState where
  | correctable | uncorrectable
deriving DecidableEq, Repr

/-! ### Host ports -/

/-- What a manager-side transaction is for (R268, R272). -/
inductive TxnUse where
  /-- a store-buffer entry of a tile (R136) -/
  | store (t : Nat)
  /-- a host-window store of a FIXED thread, or of a vector store (R134, R189) -/
  | threadStore (t n : Nat)
  /-- an interrupt message of a vector: of a ring's queue, or of no ring (R289, R435) -/
  | message (r : Option Nat)
  /-- a summary read of a poll (R294) -/
  | summary
  /-- a doorbell-line read: rings or queues 16 h to 16 h + 15 of halfword h, which had last been seen as `old` (R294) -/
  | doorbells (h : Nat) (old : BitVec 16)
  /-- a descriptor fetch of a ring (R300) -/
  | fetch (r : Nat)
  /-- a data read or write of a ring -/
  | ringData (r : Nat)
  /-- a write of word 7 of a descriptor -/
  | word7 (r : Nat)
  /-- a completion entry of a queue, for a ring -/
  | entry (q r : Nat)
  /-- a read of a ring whose data nobody waits for any more (R280) -/
  | dropped (r : Nat)
  /-- an image read of the update engine (R458) -/
  | update
deriving DecidableEq, Repr

/-- A manager-side transaction (R268): its direction, its identifier, its first byte and its length in bytes, the data of a
write, and who waits for it. -/
structure Txn where
  write : Bool
  id : Nat
  addr : Nat
  len : Nat
  data : List Byte
  use : TxnUse
  /-- a read that has been answered, with or without ERR, and whose data wait to be used: its identifier is free (R269) -/
  answer : Option Bool
deriving DecidableEq, Repr

/-- The manager side of a port: the bursts issued, and the requests that wait to be cut into bursts and issued (R268 to
R272, R303). -/
structure PortM where
  out : List Txn
  wait : List Txn
  /-- a burst-mode grant is held although BURST was written 0 (R271) -/
  leaving : Bool
  /-- the latest REQ was a thread access, not ring and DMA traffic (R272) -/
  lastThread : Bool
  /-- the tile granted last (R272) -/
  tileRr : Nat
  /-- the ring that holds the round-robin grant, and the transfers it may still make (R303) -/
  ringRr : Nat
  ringLeft : Nat
  /-- which of the last 256 ring-traffic grants went to IMG rings, newest first (R303) -/
  hist : List Bool
deriving DecidableEq, Repr

/-! ### Rhaesh -/

/-- What a thread waits for (R86, R92, R99, R160, R170). -/
inductive Wait where
  | none
  /-- WFE with destination Gd -/
  | wfe (gd : Nat)
  /-- after SCANEND, or after a passing start: the group's next release -/
  | release
  /-- CHOPEN -/
  | chopen (block : Bool) (c : Nat)
  /-- CHGET into four registers from Gd -/
  | chget (block : Bool) (c gd : Nat)
  /-- VBIND of a context that wakes -/
  | vbind (c : Nat)
  /-- host-window stores of a FIXED thread or of a vector store whose responses are to come: port, host address, thread
  address, and the element of a vector store (R134, R189) -/
  | hostStore (left : List (Nat × Nat × Word × Option Nat))
  /-- thread 0: a write of TL_HWROUTE that waits for the store buffer to empty (R114) -/
  | hwRoute
deriving DecidableEq, Repr

/-- The state of a thread that its TH registers do not show. -/
structure Thread where
  wait : Wait
  /-- first CORECLK cycle at which the thread is eligible again (R70) -/
  readyAt : Nat
  /-- the TH_STAT.STATE code that a debug halt interrupted (R469) -/
  haltedFrom : Nat
  /-- halted by DB_TILE.HALT rather than by its own halt (R472) -/
  byTile : Bool
  /-- a debug halt waits for the next boundary (R469) -/
  haltReq : Bool
  /-- one instruction is to be executed before the thread halts again (R470) -/
  stepping : Bool
  /-- the breakpoint at the present address was already taken (R473) -/
  skipBp : Bool
  /-- the present address was reached by a taken branch (R83) -/
  taken : Bool
deriving DecidableEq, Repr

/-- A store-buffer entry (R134 to R136). -/
structure SbEntry where
  port : Nat
  addr : Nat
  bytes : List Byte
  thread : Nat
  pc : Word
  taddr : Word
deriving DecidableEq, Repr

/-- The state of a tile that its TL registers do not show. -/
structure Tile where
  /-- last CORECLK cycle in which the tile issued, numbered from tile reset (R69); `none` before the first -/
  lastCycle : Option Nat
  /-- the thread that last issued in a CLAIM slot as an ELASTIC thread (R76) -/
  lastClaim : Option Nat
  /-- the active map: kind and thread of each of the 16 positions (R72, R74) -/
  activeMap : List (Nat × Nat)
  /-- a checked map that waits for position 0 (R72) -/
  pendingMap : Option (List (Nat × Nat))
  /-- the deadlock detector has not yet reported since the last issue (R101) -/
  dlArmed : Bool
  sb : List SbEntry
  /-- instruction-cache words: thread, thread address, word (R82, R137) -/
  icache : List (Nat × Word × Word)
  /-- data-cache words (R82, R137) -/
  dcache : List (Nat × Word × Word)
  /-- branch target buffer: branch address, target (R82) -/
  btb : List (Word × Word)
  /-- a TL_HWROUTE value that waits for the store buffer to empty (R114) -/
  hwRoute : Option Word
  /-- EVSENDs under way: sender tile and thread, target tile and thread, input (R93) -/
  evsends : List (Nat × Nat × Nat × Nat × Nat)
  /-- an instruction that issued in the last cycle and may be the first of a pair: its thread and the register it wrote,
  0 for none (R83) -/
  pair : Option (Nat × Nat)
  /-- the CORECLK cycle in which the fault that stopped the tile was detected (R96) -/
  faultAt : Option Nat
deriving DecidableEq, Repr

/-- A committed message: four words, the thread that committed it (`none`: the fault collector), and for a block channel
the timebase from which the other tiles see it, and whether they do (R98). -/
structure Msg where
  words : List Word
  sender : Option (Nat × Nat)
  due : Nat
  seen : Bool
deriving DecidableEq, Repr

/-- The name of a channel (R97): a tile channel of one tile, or a block channel. -/
inductive ChanId where
  | tile (t c : Nat)
  | block (c : Nat)
deriving DecidableEq, Repr

/-- A channel (R97): the reservation with the words written so far, and the committed messages, oldest first. -/
structure Chan where
  owner : Option (Nat × Nat)
  part : List Word
  msgs : List Msg
deriving DecidableEq, Repr

/-! ### Gauze and timers -/

/-- Gauze (R333 to R346): latch levels of the sources but the pins, channel outputs, channels held at 0 after a write (R336), pending counts
of the task inputs (R340) and firing counts of the storm window (R346). -/
structure Gauze where
  src : BitVec 512
  out : BitVec 128
  hold : BitVec 128
  cnt : Map Nat Nat
  fires : Map Nat Nat
deriving DecidableEq, Repr

/-- The state of a timer channel that its registers do not show (R352 to R365). -/
structure Timer where
  /-- active PERIOD and MATCH, 48 bits -/
  period : Nat
  mtch : Nat
  /-- armed shadow transfers (R356) -/
  armP : Bool
  armM : Bool
  /-- prescaler accumulator (R353) -/
  acc : Nat
  rise : List Word
  /-- falling captures, each with its width -/
  fall : List (Word × Word)
  /-- ticks since the latest rising edge, if there was one since EN rose (R365) -/
  sinceRise : Option Nat
  /-- start and stop requests of the present edge (R354) -/
  startReq : Bool
  stopReq : Bool
  /-- a master event waits for the slave's next edge (R363) -/
  linkPend : Bool
  /-- the master's compare level on the edge before (R362) -/
  gate : Bool
deriving DecidableEq, Repr

/-! ### Facet engines -/

/-- What an engine does at its next tick (R312 to R322). -/
inductive EngWork where
  /-- an instruction is due to begin -/
  | fresh
  /-- a shift instruction with this many ticks left -/
  | shifting (left : Nat)
  /-- a WAIT or WAITC that has not been met -/
  | waiting
  /-- a PULL or PUSH that stalls -/
  | stalled
  /-- this many delay ticks are left -/
  | delay (left : Nat)
  /-- stopped on an invalid instruction (R315) -/
  | stopped
deriving DecidableEq, Repr

/-- The state of a Facet engine that its registers do not show (R304). -/
structure Engine where
  shr : Word
  c0 : Nat
  c1 : Nat
  pinout : Byte
  pinoe : Byte
  /-- TX FIFO, oldest first -/
  tx : List Word
  /-- RX FIFO with the EOR marks, oldest first -/
  rx : List (Word × Bool)
  /-- divider accumulator (R307) -/
  acc : Nat
  /-- length of the present tick in ENGCLK cycles -/
  tickLen : Nat
  work : EngWork
  /-- address of the instruction after the present one (R312) -/
  npc : Nat
  /-- the two program banks, bank b word i at 16 b + i -/
  prog : Map Nat Word
  /-- static-output shadow and its applied value (R325) -/
  shadow : BitVec 16
  applied : BitVec 16
  /-- group signals at the latest midpoint -/
  sample : Byte
  clkMode : Nat
  clkIdle : Bool
  /-- the clock output is at its non-idle level: from the midpoint to the end of a tick that runs it (R308, R314) -/
  clkOut : Bool
  /-- words of the TX and RX segment, oldest first, with the EOR marks of RX (R319, R321) -/
  txSeg : Nat
  rxSeg : List Bool
  /-- next positions in the segments, in words -/
  txRd : Nat
  txWr : Nat
  rxRd : Nat
  rxWr : Nat
  /-- data words written to an image window since the enable (R320) -/
  winCount : Nat
deriving DecidableEq, Repr

/-! ### Rings -/

/-- A fetched descriptor (R281): its slot index and its eight words. -/
structure Desc where
  idx : Nat
  words : List Word
  /-- the freeze that an IMG_IN descriptor must precede, or the commit an IMG_OUT descriptor reads, where one is set -/
  deadline : Option Nat
  /-- bytes moved so far -/
  moved : Nat
  /-- its transfer is under way -/
  begun : Bool
  /-- the code of the first failing check of R283, or 0 -/
  bad : Nat
  /-- bytes of its buffer that reads have been requested for -/
  asked : Nat
  /-- the scan of its first image row (R298, R299) -/
  scan : Option Word
  /-- of an image descriptor: 8 once its rows began after its deadline, 9 once they belong to two scans (R297 to R299) -/
  code : Nat
deriving DecidableEq, Repr

/-- A completion: what its entry says, and the host buffer of its descriptor (R285, R290, R302). -/
structure Completion where
  stop : Bool
  err : Nat
  ring : Nat
  idx : Nat
  flags : Nat
  len : Nat
  scan : Word
  buf : Nat
deriving DecidableEq, Repr

/-- The state of a ring that its registers do not show (R277, R300 to R303, R361). -/
structure Ring where
  /-- index of the next descriptor to fetch -/
  fetchPos : Nat
  /-- fetched descriptors that have not completed, oldest first -/
  pref : List Desc
  /-- pacing requests (R361) -/
  pace : Nat
  /-- an edit package is being refused up to EOP (R284) -/
  pkgRefused : Bool
  /-- descriptors asked for and not yet arrived -/
  asked : Nat
  /-- a stop that waits for the descriptors already fetched (R278, R292) -/
  stop : Option Nat
  /-- a STREAM_TX ring fetches buffer data until the segment is full or no posted data remains (R300) -/
  filling : Bool
deriving DecidableEq, Repr

/-- The state of a completion queue that its registers do not show: the host's consumer index (R277), and the completions
kept while the queue is full or stopped, oldest first (R292, R302). -/
structure Cq where
  cidx : Nat
  kept : List Completion
deriving DecidableEq, Repr

/-- The poll of a port (R294, R295): halfwords last seen, whether the first poll is still to come, and whether a further
poll is to follow the one under way (R48). -/
structure Poll where
  seen : List (BitVec 16)
  first : Bool
  again : Bool
  /-- the interval I in FABCLK cycles (R295) -/
  interval : Nat
deriving DecidableEq, Repr

/-! ### CAN controllers -/

/-- What a controller has in its transmit buffer (R385, R386): a transmit object, or a reference message (`none`), the
words 0 and 2 and the data as copied at the start of frame, and the timebase there. -/
structure CanBuf where
  obj : Option Nat
  w0 : Word
  w2 : Word
  data : List Byte
  sof : Nat
deriving DecidableEq, Repr

/-- A CAN controller (R373 to R389). -/
structure Can where
  /-- joined the bus after INIT was left -/
  joined : Bool
  /-- the lookup table: key and object -/
  table : List (Nat × Nat)
  /-- transmit objects with TXPEND, in order of request -/
  pend : List Nat
  /-- records for MSG_RX rings, oldest first, with the ports that have taken them -/
  records : List (List Byte × List Nat)
  buf : Option CanBuf
  /-- CN_TXABORT named the object that is on the bus -/
  abort : Bool
  /-- INIT was written 1 and then 0 in bus-off -/
  recover : Bool
  /-- a reference message is requested -/
  refReq : Bool
  /-- timebase of the latest reference message sent or received, or of leaving INIT -/
  refAt : Nat
  /-- Sync_Mark and Master_Ref_Mark of the latest received reference message -/
  mark : Option (Nat × Nat)
  /-- image copies that wait for the freeze of a group: group, IMGWORD, data, copy of word 2 -/
  late : List (Nat × Nat × List Byte × Word)
  /-- the latest image copy into an input slice: group, the freeze before which it was begun, offset of its first byte, bytes (R381) -/
  copied : Option (Nat × Nat × Nat × Nat)
deriving DecidableEq, Repr

/-! ### Scan groups -/

/-- The policy in force for a late scan (R216 to R219). -/
inductive LatePolicy where
  | none | hold | skip
deriving DecidableEq, Repr

/-- The state of a scan group that its registers do not show (R199 to R220). -/
structure Group where
  /-- the start checks run (R203) -/
  checking : Bool
  /-- the first check of 0x1 to 0x4, else 0x6, that failed on the accepting edge; 0 if none did (R203) -/
  verdict : Nat
  /-- scan number of the latest freeze taken (R205, R236) -/
  latest : Nat
  /-- the next pending instant, as a timebase value (R201) -/
  pend : Nat
  /-- of the pending instant, the commit has been evaluated and the freeze on the same edge has not (R202) -/
  half : Bool
  /-- a freeze of the run has been taken (R203) -/
  begun : Bool
  /-- a freeze was taken and its release is pending -/
  frozen : Option Nat
  /-- the released scan that is neither committed nor discarded -/
  scan : Option Nat
  /-- members that have marked the scan done -/
  done : List (Nat × Nat)
  late : LatePolicy
  /-- under SKIP: the restore copy runs (R219) -/
  restoring : Bool
  /-- the commit is owed after DEBUG-HOLD or a commit freeze, without counts (R220, R429) -/
  owed : Bool
  /-- the stop copies run (R204) -/
  stopCopies : Bool
  /-- commits published by the group, and the scan that the P view shows since the start (R299) -/
  pubs : Nat
  pubScan : Option Nat
  /-- members that have left a STOPPING group -/
  left : List (Nat × Nat)
  /-- the input slice's frozen bank lies at the F-view location -/
  iSwap : Bool
  /-- the output slice's working bank lies at the P-view location -/
  qSwap : Bool
deriving DecidableEq, Repr

/-- The kinds of copies of the copy engine (R202, R203, R204, R207, R214, R219). -/
inductive CopyKind where
  | input | commit | restore | startIn | startOut | stopIn | stopOut
deriving DecidableEq, Repr

/-- A copy in the queue (R202): its kind, its group, the lines still to be moved, as lines of the input or output view,
and whether the bank copied from lies at the second view's location. -/
structure CopyJob where
  kind : CopyKind
  group : Nat
  lines : List Nat
  flip : Bool
  /-- timebase of the edge that queued it -/
  edge : Nat
  /-- its lines when it was queued, and how many of them wait for freeze samples (R207, R209) -/
  total : Nat
  sampled : Nat
deriving DecidableEq, Repr

/-- The package in the shadow bank of a group (R231 to R237): the bytes that have arrived, which ring loads it, whether
the applier runs, and its progress marks. -/
structure Edit where
  bytes : List Byte
  ring : Option (Nat × Nat)
  applying : Bool
deriving DecidableEq, Repr

/-! ### Federation links and Mirror pairing -/

/-- A cell that a link sends (R391), without its SEQ, ACK, NAK and CRC, which the link adds at the launch. -/
structure OutCell where
  ty : Nat
  som : Bool
  eom : Bool
  loc : Bool
  dest : Nat
  src : Nat
  /-- a cell of a BULK message, which yields to other MIRROR cells (R417) -/
  bulk : Bool
  payload : List Byte
deriving DecidableEq, Repr

/-- A federation link (R394 to R397). Sequence numbers and queues of a bond stand at its lowest-numbered member. -/
structure Link where
  /-- FDn_PHYRDY as synchronised -/
  phy : Bool
  /-- the block's own receiver is aligned: RXOK is set in its TRAIN cells -/
  aligned : Bool
  /-- when training began -/
  trainedAt : Nat
  /-- sequenced cells sent and not acknowledged, oldest first, with their numbers -/
  sent : List (Nat × OutCell)
  /-- cells that wait, in order of arrival -/
  queue : List OutCell
  txSeq : Nat
  rxSeq : Nat
  /-- NAK is to be set in the next cell -/
  nak : Bool
  /-- resends in a row without progress -/
  resends : Nat
  /-- CRC failures in a row -/
  crcRun : Nat
  /-- partly received messages: type, source, bytes so far -/
  parts : List (Nat × Nat × List Byte)
  /-- MGMT message bytes that wait for space in the mailbox (R393) -/
  held : List (List Byte)
  /-- payloads of the TIME cells sent last (R401) -/
  timeOut : List (List Byte)
  /-- the partner's link number from its TRAIN cells -/
  partner : Nat
  /-- members and restart number of the last BONDSYNC sent and received (R397) -/
  bondOut : Option (Nat × Nat)
  bondIn : Option (Nat × Nat)
  /-- members of the stripe, and the sequence number of its cell 0 -/
  stripe : Nat × Nat
deriving DecidableEq, Repr

/-- Enumeration and time exchange of the block (R398, R401, R402). -/
structure Fed where
  /-- the block holds a node ID of the present round -/
  holds : Bool
  /-- edges still to be offered in the present round -/
  todo : List Nat
  /-- the edge an offer is out on -/
  offered : Option Nat
  /-- next free node ID -/
  nextId : Nat
  /-- best (TPRIO, node ID) pair of the subtree so far -/
  best : Nat × Nat
  /-- child edges with the ID ranges of their subtrees -/
  children : List (Nat × Nat × Nat)
  /-- ENUMERR in the subtree -/
  err : Bool
  /-- number of the next exchange, and the t1 and SYNC data of the present one -/
  xnum : Nat
  t1 : Nat
  /-- last 16 exchanges: twice the one-way delay, and the offset sample ts - ta -/
  hops : List (Int × Int)
  /-- twice the delay of the exchange under way -/
  cur : Option Int
  /-- a JOIN waits for 16 exchanges -/
  joining : Bool
  /-- publications whose write waits for a freeze (R406): group, subscription, first F-view word, data -/
  late : List (Nat × Nat × Nat × List Byte)
  /-- TPRIO of the master, as the time parent sends it on (R393) -/
  mprio : Nat
deriving DecidableEq, Repr

/-- A CMT record of a group and scan: digest, FLAGS (R411). -/
structure Cmt where
  group : Nat
  scan : Nat
  digest : Nat
  flags : Nat
deriving DecidableEq, Repr

/-- Mirror pairing (R407 to R418). -/
structure Mirror where
  /-- a meeting of R407 left nothing mirrored -/
  void : Bool
  /-- role and TOOK of the peer from its last HELLO -/
  peer : Option (Bool × Bool)
  /-- groups and scans whose FRZ has wholly arrived, the latest of each group -/
  frz : Map Nat Nat
  /-- the primary's ACTIVE of each group -/
  active : Map Nat Nat
  /-- groups whose scan is held for want of its FRZ -/
  heldScan : Map Nat Nat
  /-- own CMTs and the peer's, not yet compared -/
  own : List Cmt
  theirs : List Cmt
  /-- commit instants whose CMT from the peer is awaited -/
  awaiting : List (Nat × Nat)
  /-- digests under way (R411): group, instant, FLAGS, and the commit's Q-dirty lines -/
  digesting : List (Nat × Nat × Nat × List Nat)
  /-- groups whose next freeze is their takeover freeze -/
  takeover : List Nat
  /-- groups under the suppressions of R415 -/
  suppressed : List Nat
  /-- standby: RSREQ is not yet answered -/
  asked : Bool
  /-- standby: the RSDONE commit has arrived -/
  rsdone : Bool
  /-- primary: the bulk pass has been sent and its RSDONE CMT has not -/
  bulk : Bool
  /-- primary: M and H lines written since the previous CMT of the resync (view index 2 M, 3 H) -/
  marks : List (Nat × Nat)
deriving DecidableEq, Repr

/-! ### Test access port -/

/-- The states of the IEEE 1149.1 state machine (R467). -/
inductive TapSt where
  | reset | idle
  | selDr | capDr | shDr | ex1Dr | pauseDr | ex2Dr | updDr
  | selIr | capIr | shIr | ex1Ir | pauseIr | ex2Ir | updIr
deriving DecidableEq, Repr

/-- The TAP (R467, R468). -/
structure Tap where
  st : TapSt
  ir : Nat
  /-- the shift register of the path that is selected -/
  sh : DWord
  tdo : Bool
  /-- outcome of the latest DBGACC access: RESULT, REFUSED cause, read data -/
  result : Nat
  cause : Nat
  data : Word
  /-- an access that GO = 1 has started: write, offset, data -/
  acc : Option (Bool × Nat × Word)
deriving DecidableEq, Repr

/-! ### Firmware chain update -/

/-- An image in the staging area (R459): its TYPE, its byte offset there, its size with the header, and the HOLD of
R465. -/
structure Staged where
  ty : Nat
  off : Nat
  size : Nat
  hold : Bool
deriving DecidableEq, Repr

/-- The update engine (R454 to R466). -/
structure Upd where
  /-- bytes of the UPDATE message being received -/
  rx : List Byte
  /-- an UPDATE message is being received -/
  busy : Bool
  /-- its header passed, and the edges it is forwarded on -/
  edges : Option (List Nat)
  /-- the rest of the message is discarded -/
  drop : Bool
  /-- the message is being staged: offset in the staging area -/
  place : Option Nat
  /-- the last byte has arrived: check 0x8 is due -/
  hashDue : Bool
  staged : List Staged
  /-- a SEND runs -/
  sending : Bool
  /-- bytes of the image of a SEND, or of the store slot, that the host has been asked for (R458, R464) -/
  asked : Nat
  /-- the instant of an accepted ACTIVATE -/
  act : Option Nat
  /-- images that the loader is placing, then those that wait for the confirmation -/
  placed : List Staged
  /-- the loader is placing images -/
  placing : Bool
  /-- management services are paused (R460) -/
  paused : Bool
  /-- engines whose inactive bank was written in the pause (R462) -/
  changed : List (Nat × Nat)
  /-- timebase at the entry of the new firmware (R463) -/
  entered : Nat
deriving DecidableEq, Repr

/-! ### Long-vector unit -/

/-- A context of an LVU (R168, R177, R192, R193): what LV_CSTAT does not show. -/
structure Ctx where
  v : Map Nat VReg
  vl : Nat
  /-- SEW code of VTYPE (R175) -/
  sew : Nat
  vxrm : Nat
  vsat : Bool
  fcsr : Word
  vfidx : Nat
  vfaddr : Word
  vfcause : Nat
  /-- the VBIND that waits for the context: thread, PIN, destination (R170) -/
  await : Option (Nat × Bool × Nat)
  /-- timebase at which it became FREE (R192) -/
  idleSince : Nat
  /-- in WAKE: the ramp has ended and the restore runs (R193) -/
  restoring : Bool
  /-- in WAKE or DOWN: the contents are retained -/
  retained : Bool
deriving DecidableEq, Repr

/-! ### The state -/

/-- Everything the spec gives the machine (INVENTORY.md, '## State'). -/
structure State where
  build : Build
  /-- every 32-bit register and word of `Reg`, a missing one at its reset value (`regReset`) -/
  regs : Map Reg Word
  /-- shared memory, scratchpads and CAN object RAM by block-window offset, in canonical form; a byte that is not
  listed reads 0 (R66) -/
  mem : List Host.Cell
  /-- words whose check bits report an error (R251), by word address -/
  ecc : Map Nat EccState
  /-- words with a write-back pending (R251) -/
  writeBacks : List Nat
  /-- the latest DMA-side write of each shared-memory bank: bank, block-window offset, bytes (R249) -/
  dmaLast : List (Nat × Nat × List Byte)
  clk : Clocks
  /-- power domains by number (R37) -/
  pds : Map Nat Domain
  /-- an entry to SLEEP (6) or OFF (0) is in progress (R449) -/
  entry : Option Nat
  /-- memories whose clear is under way (R66, R253) -/
  clears : List MemUnit
  /-- memory branches open in DOZE (R245, R447) -/
  opened : List MemUnit
  /-- the accepted PWR_BUDGET (R46) -/
  budget : Nat
  /-- waiting Aperture requests in order of arrival (R440) -/
  apWait : List Claim
  /-- grants held (R438), AP_RSV reservations included -/
  apHeld : Map ApUser Nat
  /-- LVU wakes drawn from a reservation: context and group (R444) -/
  apDrawn : List (ApUser × Nat)
  /-- the latest response of each port (0, 1) and of DBGACC (2) -/
  resp : Map Nat Response
  ports : Map Nat PortM
  tiles : Map Nat Tile
  threads : Map (Nat × Nat) Thread
  chans : Map ChanId Chan
  /-- block channels whose freed space is an event of the other tiles later: channel, tile that freed it, timebase (R100) -/
  chanSpaces : List (ChanId × Nat × Nat)
  /-- LVU contexts by tile and number -/
  ctxs : Map (Nat × Nat) Ctx
  gz : Gauze
  timers : Map Nat Timer
  /-- a timebase adjustment that waits for its edge (R351), and the amount left of the step in progress -/
  tbAdj : Option Int
  /-- CONV_START pins that are high (R47) -/
  conv : BitVec 16
  engines : Map (Nat × Nat) Engine
  rings : Map (Nat × Nat) Ring
  cqs : Map (Nat × Nat) Cq
  polls : Map Nat Poll
  groups : Map Nat Group
  /-- SC_OWN entries (R212) by Q-view word -/
  own : Map Nat Byte
  /-- an SC_OWNFILL in progress: entry and count (R223) -/
  fill : Option (Nat × Nat)
  /-- lines of the F and Q views with the dirty mark (R197) -/
  fDirty : List Nat
  qDirty : List Nat
  copies : List CopyJob
  /-- timebase at which the copy engine ended its latest copy (R209) -/
  copyFree : Nat
  edits : Map Nat Edit
  cans : Map Nat Can
  links : Map Nat Link
  fed : Fed
  mirror : Mirror
  upd : Upd
  tap : Tap
  /-- start of the window of a fault record, where one runs (R425) -/
  windows : Map Nat Nat
  /-- what has run of each window while the block is in HALT (R430) -/
  pausedWin : Map Nat Nat
  /-- levels of the FIO_IN pins as Gauze meets them (R333) -/
  fioIn : BitVec 512
  /-- levels of the FAULT_IN pins as Gauze meets them (R44, R333) -/
  finPin : BitVec 16
  /-- levels of the synchronised FAULT_IN pins -/
  faultIn : BitVec 16
  /-- messages of FC_NCFG attempted since reset (R434) -/
  faultSeq : Nat
  /-- the FAULT_OUT_N pin (R35, R436) -/
  faultOut : Bool
  /-- the fault condition, or the time before BLK_BOOTDONE, holds the pin at 0 (R35, R436) -/
  faultHeld : Bool
  /-- wake requests that have not been taken (R448) -/
  wakes : List WakeSrc
  /-- commands that wait, first in first out -/
  pending : List Instr
  /-- the model's own counter for free values -/
  freeCtr : Nat
deriving DecidableEq, Repr

/-- The state of a power domain right after the cold start (R37, table of the power domains). -/
def resetDomain (d : Nat) : Domain :=
  if d = 0 ∨ d = 1 ∨ d = 8 then ⟨true, false, .on, true, false⟩ else ⟨false, true, .off, false, true⟩

/-- No enumeration and no exchange. -/
def fedReset : Fed := ⟨false, [], none, 0, (0, 0), [], false, 0, 0, [], none, false, [], 0⟩
/-- No pairing. -/
def mirrorReset : Mirror := ⟨false, none, [], [], [], [], [], [], [], [], [], false, false, false, []⟩
/-- Nothing received, staged or scheduled. -/
def updReset : Upd := ⟨[], false, none, false, none, false, [], false, 0, none, [], false, false, [], 0⟩
/-- The TAP in Test-Logic-Reset with IDCODE selected (R467). -/
def tapReset : Tap := ⟨.reset, 1, 0, false, 0, 0, 0, none⟩

/-- The block at the end of the cold start: MAIN and TILE[0] have left reset in BOOT, the divided clocks run, and
thread 0 of tile 0 is about to fetch its first boot ROM instruction (cold start table, R87, R482). -/
def State.reset : State where
  build := ⟨3, true, 16⟩
  regs := [(.BLK_READY 3, 0x30), (.TH_STAT 0 0, 1), (.TH_PC 0 0, 0x0F800000), (.TB_STAT, 0)]
  mem := []
  ecc := []
  writeBacks := []
  dmaLast := []
  clk := ⟨false, false, true, true, true, false⟩
  pds := []
  entry := none
  clears := [.tile 0]
  opened := []
  budget := 0
  apWait := []
  apHeld := []
  apDrawn := []
  resp := []
  ports := []
  tiles := []
  threads := []
  chans := []
  chanSpaces := []
  ctxs := []
  gz := ⟨0, 0, 0, [], []⟩
  timers := []
  tbAdj := none
  conv := 0
  engines := []
  rings := []
  cqs := []
  polls := []
  groups := []
  own := []
  fill := none
  fDirty := []
  qDirty := []
  copies := []
  copyFree := 0
  edits := []
  cans := []
  links := []
  fed := fedReset
  mirror := mirrorReset
  upd := updReset
  tap := tapReset
  windows := []
  pausedWin := []
  fioIn := 0
  finPin := 0
  faultIn := 0
  faultSeq := 0
  faultOut := false
  faultHeld := true
  wakes := []
  pending := []
  freeCtr := 0

end Sys2Proof.Machine
end

