-- ==== Sys2Proof/Machine/RegMap.lean ====
section
/-! DEFINITION. The register map: where each register lies in the setup region (R478, R479, file 22), its value at
reset (R482) and the access codes of its fields (R12). -/

namespace Sys2Proof.Machine

/-- The severity a fault source has at reset (R419). -/
def faultResetSev (n : Nat) : Nat :=
  if n < 64 then
    (if n % 8 = 0 then 2 else if n % 8 = 1 then 1 else if n % 8 = 2 then 1 else if n % 8 = 4 then 2 else 0)
  else if n < 88 then 1
  else if n < 120 then 2
  else if n = 120 then 0
  else if n = 121 then 2
  else if n = 122 then 2
  else if n = 123 then 3
  else if n = 124 then 1
  else if n = 125 then 1
  else 2

/-- The offset of a register in the setup region (R478, R479 and the index of file 22); `none` for the words that
no offset shows. -/
def regOffset : Reg → Option Nat
  | .BLK_VERSION => some (0x0)
  | .BLK_CONFIG => some (0x4)
  | .BLK_STATE => some (0x8)
  | .BLK_BOOTDONE => some (0xC)
  | .BLK_BOOTPTR i => some (0x20 + 4 * i)
  | .BLK_READY i => some (0x30 + 4 * i)
  | .BLK_RSTCAUSE => some (0x40)
  | .BLK_PDSTAT => some (0x44)
  | .HP_CTL p => some (0x1000 + 4 * p)
  | .HP_TZ2CFG => some (0x1008)
  | .HP_WRMASK p i => some (0x1010 + 8 * p + 4 * i)
  | .HP_REFSTAT p => some (0x1020 + 4 * p)
  | .HP_REFADDR p => some (0x1028 + 4 * p)
  | .HP_PGBIND i => some (0x1040 + 4 * i)
  | .HP_SEM n => some (0x1100 + 4 * n)
  | .HP_SEMBRK => some (0x1180)
  | .HP_SEMSUM => some (0x1184)
  | .AP_CFG => some (0x2000)
  | .AP_STAT => some (0x2004)
  | .AP_PCTL => some (0x2008)
  | .AP_PSTAT => some (0x200C)
  | .AP_WAKEEN => some (0x2010)
  | .AP_TILEEN => some (0x2014)
  | .AP_RSV g => some (0x2040 + 4 * g)
  | .FC_CFG => some (0x3000)
  | .FC_RSTAT => some (0x3004)
  | .FC_RCTL => some (0x3008)
  | .FC_NCFG => some (0x300C)
  | .FC_NSTAT => some (0x3010)
  | .FC_FIRST => some (0x3020)
  | .FC_FIRSTT i => some (0x3024 + 4 * i)
  | .FC_WIN s => some (0x3030 + 4 * s)
  | .FC_STAT i => some (0x3040 + 4 * i)
  | .FC_ACK i => some (0x3050 + 4 * i)
  | .FC_SAFEENG i => some (0x3080 + 4 * i)
  | .FC_HVEC p i => some (0x30A0 + 0x10 * p + 4 * i)
  | .FC_SCFG n => some (0x3400 + 4 * n)
  | .FC_SSTAT n => some (0x3600 + 4 * n)
  | .GZ_ERR => some (0x4000)
  | .GZ_STORMCFG => some (0x4004)
  | .GZ_CHFLAG i => some (0x4040 + 4 * i)
  | .GZ_CHSTORM i => some (0x4050 + 4 * i)
  | .GZ_CHPROT i => some (0x4080 + 4 * i)
  | .GZ_PINSEL i => some (0x4100 + 4 * i)
  | .GZ_TOVF i => some (0x4200 + 4 * i)
  | .GZ_CH c => some (0x4400 + 4 * c)
  | .GZ_TTGT i => some (0x4600 + 4 * i)
  | .GZ_TASK i => some (0x5000 + 4 * i)
  | .TM_CTL n => some (0x6000 + 0x40 * n + 0x0)
  | .TM_STAT n => some (0x6000 + 0x40 * n + 0x4)
  | .TM_PRESC n => some (0x6000 + 0x40 * n + 0x8)
  | .TM_ROUTE n => some (0x6000 + 0x40 * n + 0xC)
  | .TM_CNT_LO n => some (0x6000 + 0x40 * n + 0x10)
  | .TM_CNT_HI n => some (0x6000 + 0x40 * n + 0x14)
  | .TM_PERIOD n => some (0x6000 + 0x40 * n + 0x18)
  | .TM_MATCH n => some (0x6000 + 0x40 * n + 0x1C)
  | .TM_PMHI n => some (0x6000 + 0x40 * n + 0x20)
  | .TM_CAPRISE n => some (0x6000 + 0x40 * n + 0x24)
  | .TM_CAPFALL n => some (0x6000 + 0x40 * n + 0x28)
  | .TM_PWIDTH n => some (0x6000 + 0x40 * n + 0x2C)
  | .TB_LO => some (0x7000)
  | .TB_HI => some (0x7004)
  | .TB_ADJ => some (0x7008)
  | .TB_STAT => some (0x700C)
  | .TB_CMP n i => some (0x7100 + 0x10 * n + 4 * i)
  | .TM_CONVSEL k => some (0x7200 + 4 * k)
  | .TM_CONVSTAT => some (0x7240)
  | .TM_GSTART i => some (0x7280 + 4 * i)
  | .TM_GSTOP i => some (0x7288 + 4 * i)
  | .SC_IMGBASE => some (0x8000)
  | .SC_IMGSIZE => some (0x8004)
  | .SC_OVRPOL => some (0x8008)
  | .SC_STAT => some (0x800C)
  | .SC_OWNPTR => some (0x8010)
  | .SC_OWNDATA => some (0x8014)
  | .SC_OWNFILL => some (0x8018)
  | .SC_GCTL g => some (0x8100 + 0x80 * g + 0x0)
  | .SC_GSTAT g => some (0x8100 + 0x80 * g + 0x4)
  | .SC_PERIOD g => some (0x8100 + 0x80 * g + 0x8)
  | .SC_OFFSET g => some (0x8100 + 0x80 * g + 0xC)
  | .SC_PHASE g => some (0x8100 + 0x80 * g + 0x10)
  | .SC_FREEZELAT g => some (0x8100 + 0x80 * g + 0x14)
  | .SC_TFREEZE g i => some (0x8100 + 0x80 * g + 0x18 + 4 * i)
  | .SC_SCANNO g => some (0x8100 + 0x80 * g + 0x20)
  | .SC_ISLICE g => some (0x8100 + 0x80 * g + 0x24)
  | .SC_QSLICE g => some (0x8100 + 0x80 * g + 0x28)
  | .SC_MSLICE g => some (0x8100 + 0x80 * g + 0x2C)
  | .SC_MEMBER g i => some (0x8100 + 0x80 * g + 0x30 + 4 * i)
  | .SC_PBASE g => some (0x8100 + 0x80 * g + 0x40)
  | .SC_CPYTIME g => some (0x8100 + 0x80 * g + 0x44)
  | .SC_DETLOST g => some (0x8100 + 0x80 * g + 0x48)
  | .SC_DETSCAN g => some (0x8100 + 0x80 * g + 0x4C)
  | .SC_EDITCTL g => some (0x8100 + 0x80 * g + 0x50)
  | .SC_EDITSTAT g => some (0x8100 + 0x80 * g + 0x54)
  | .SC_EDITTGT g i => some (0x8100 + 0x80 * g + 0x58 + 4 * i)
  | .SC_EDITID g => some (0x8100 + 0x80 * g + 0x60)
  | .SC_PBSIZE g => some (0x8100 + 0x80 * g + 0x64)
  | .SM_PDCTL => some (0xC000)
  | .SM_CLRREQ => some (0xC004)
  | .SM_PDSTAT => some (0xC008)
  | .SM_COLLCNT => some (0xC00C)
  | .SM_ECCSTAT => some (0xC010)
  | .SM_ECCADDR => some (0xC014)
  | .TL_CTL t => some (0x10000 + 0x1000 * t + 0x0)
  | .TL_STAT t => some (0x10000 + 0x1000 * t + 0x4)
  | .TL_DLGRACE t => some (0x10000 + 0x1000 * t + 0x8)
  | .TL_RESETPC t => some (0x10000 + 0x1000 * t + 0xC)
  | .TL_FREC t i => some (0x10000 + 0x1000 * t + 0x10 + 4 * i)
  | .TL_HWROUTE t => some (0x10000 + 0x1000 * t + 0x1C)
  | .TL_SPECC t => some (0x10000 + 0x1000 * t + 0x20)
  | .TL_SPECCADDR t => some (0x10000 + 0x1000 * t + 0x24)
  | .TL_ENGGRP t => some (0x10000 + 0x1000 * t + 0x28)
  | .TL_GZFIRE t => some (0x10000 + 0x1000 * t + 0x2C)
  | .TL_FCACK t => some (0x10000 + 0x1000 * t + 0x30)
  | .TL_SLOTMAP t i => some (0x10000 + 0x1000 * t + 0x40 + 4 * i)
  | .TH_CTL t n => some (0x10400 + 0x1000 * t + 0x40 * n + 0x0)
  | .TH_STAT t n => some (0x10400 + 0x1000 * t + 0x40 * n + 0x4)
  | .TH_PC t n => some (0x10400 + 0x1000 * t + 0x40 * n + 0x8)
  | .TH_EVPEND t n => some (0x10400 + 0x1000 * t + 0x40 * n + 0xC)
  | .TH_EVIE t n => some (0x10400 + 0x1000 * t + 0x40 * n + 0x10)
  | .TH_EVWE t n => some (0x10400 + 0x1000 * t + 0x40 * n + 0x14)
  | .TH_EVSEL t n => some (0x10400 + 0x1000 * t + 0x40 * n + 0x18)
  | .TH_VBASE t n => some (0x10400 + 0x1000 * t + 0x40 * n + 0x1C)
  | .TH_EPC t n i => some (0x10400 + 0x1000 * t + 0x40 * n + 0x20 + 4 * i)
  | .TH_WPERM t n => some (0x10400 + 0x1000 * t + 0x40 * n + 0x28)
  | .TH_HWINHI t n => some (0x10400 + 0x1000 * t + 0x40 * n + 0x2C)
  | .TH_HWIN t n w => some (0x10400 + 0x1000 * t + 0x40 * n + 0x30 + 4 * w)
  | .LV_CTL t => some (0x18000 + 0x1000 * t + 0x0)
  | .LV_STAT t => some (0x18000 + 0x1000 * t + 0x4)
  | .LV_IDLE t => some (0x18000 + 0x1000 * t + 0x8)
  | .LV_CSTAT t c => some (0x18000 + 0x1000 * t + 0x10 + 4 * c)
  | .FE_CTL t e => some (0x20000 + 0x1000 * t + 0x40 * e + 0x0)
  | .FE_STAT t e => some (0x20000 + 0x1000 * t + 0x40 * e + 0x4)
  | .FE_CFG t e => some (0x20000 + 0x1000 * t + 0x40 * e + 0x8)
  | .FE_PINS t e => some (0x20000 + 0x1000 * t + 0x40 * e + 0xC)
  | .FE_CLK t e => some (0x20000 + 0x1000 * t + 0x40 * e + 0x10)
  | .FE_CMP t e => some (0x20000 + 0x1000 * t + 0x40 * e + 0x14)
  | .FE_CMPMASK t e => some (0x20000 + 0x1000 * t + 0x40 * e + 0x18)
  | .FE_CNT t e => some (0x20000 + 0x1000 * t + 0x40 * e + 0x1C)
  | .FE_IDLEPAT t e => some (0x20000 + 0x1000 * t + 0x40 * e + 0x20)
  | .FE_PAT t e => some (0x20000 + 0x1000 * t + 0x40 * e + 0x24)
  | .FE_SEG t e => some (0x20000 + 0x1000 * t + 0x40 * e + 0x28)
  | .FE_SIO t e => some (0x20000 + 0x1000 * t + 0x40 * e + 0x2C)
  | .FE_PROG t e i => some (0x20800 + 0x1000 * t + 0x40 * e + 4 * i)
  | .RG_BASE p r i => some (0x28000 + 0x2000 * p + 0x20 * r + 4 * i)
  | .RG_CFG p r => some (0x28000 + 0x2000 * p + 0x20 * r + 0x8)
  | .RG_FLOW p r => some (0x28000 + 0x2000 * p + 0x20 * r + 0xC)
  | .RG_TARGET p r => some (0x28000 + 0x2000 * p + 0x20 * r + 0x10)
  | .RG_PI p r => some (0x28000 + 0x2000 * p + 0x20 * r + 0x14)
  | .RG_CI p r => some (0x28000 + 0x2000 * p + 0x20 * r + 0x18)
  | .RG_STAT p r => some (0x28000 + 0x2000 * p + 0x20 * r + 0x1C)
  | .RG_CQBASE p q i => some (0x2C000 + 0x400 * p + 0x10 * q + 4 * i)
  | .RG_CQCFG p q => some (0x2C000 + 0x400 * p + 0x10 * q + 0x8)
  | .RG_CQSTAT p q => some (0x2C000 + 0x400 * p + 0x10 * q + 0xC)
  | .RG_PCTL p => some (0x2C800 + 0x100 * p + 0x0)
  | .RG_PSTAT p => some (0x2C800 + 0x100 * p + 0x4)
  | .RG_SUMADDR p i => some (0x2C800 + 0x100 * p + 0x8 + 4 * i)
  | .RG_DBBASE p i => some (0x2C800 + 0x100 * p + 0x10 + 4 * i)
  | .RG_VECADDR p v i => some (0x2D000 + 0x400 * p + 0x10 * v + 4 * i)
  | .RG_VECDATA p v => some (0x2D000 + 0x400 * p + 0x10 * v + 0x8)
  | .RG_VECCTL p v => some (0x2D000 + 0x400 * p + 0x10 * v + 0xC)
  | .CN_CTL c => some (0x30000 + 0x400 * c + 0x0)
  | .CN_STAT c => some (0x30000 + 0x400 * c + 0x4)
  | .CN_NBT c => some (0x30000 + 0x400 * c + 0x8)
  | .CN_DBT c => some (0x30000 + 0x400 * c + 0xC)
  | .CN_ERR c => some (0x30000 + 0x400 * c + 0x10)
  | .CN_MAPID c => some (0x30000 + 0x400 * c + 0x14)
  | .CN_MAPCMD c => some (0x30000 + 0x400 * c + 0x18)
  | .CN_RXMISS c => some (0x30000 + 0x400 * c + 0x1C)
  | .CN_TXREQ c => some (0x30000 + 0x400 * c + 0x20)
  | .CN_TXABORT c => some (0x30000 + 0x400 * c + 0x24)
  | .CN_TTCFG c => some (0x30000 + 0x400 * c + 0x28)
  | .CN_REFID c => some (0x30000 + 0x400 * c + 0x2C)
  | .CN_TTSTAT c => some (0x30000 + 0x400 * c + 0x30)
  | .CN_GTLO c => some (0x30000 + 0x400 * c + 0x34)
  | .CN_GTHI c => some (0x30000 + 0x400 * c + 0x38)
  | .CN_TUR c => some (0x30000 + 0x400 * c + 0x3C)
  | .CN_TRIG c k => some (0x30000 + 0x400 * c + 0x40 + 4 * k)
  | .CN_DOMCTL => some (0x30300)
  | .FD_CTL => some (0x34000)
  | .FD_STAT => some (0x34004)
  | .FD_RANGE => some (0x34008)
  | .FD_TSTAT => some (0x3400C)
  | .FD_TOFS => some (0x34010)
  | .FD_TCFG => some (0x34014)
  | .FD_LCTL n => some (0x34020 + 4 * n)
  | .FD_LSTAT n => some (0x34030 + 4 * n)
  | .FD_LERR n => some (0x34040 + 4 * n)
  | .FD_HOPDLY n => some (0x34050 + 4 * n)
  | .FD_PUB i w => some (0x34100 + 8 * i + 4 * w)
  | .FD_SUB j w => some (0x34180 + 8 * j + 4 * w)
  | .FD_SUBSTAT => some (0x34200)
  | .MI_CTL => some (0x35000)
  | .MI_PEER => some (0x35004)
  | .MI_STAT => some (0x35008)
  | .MI_DIGEST i => some (0x35010 + 4 * i)
  | .MI_PDIGEST i => some (0x35018 + 4 * i)
  | .MI_DSCAN => some (0x35020)
  | .MI_ENGSHADOW i => some (0x35040 + 4 * i)
  | .UP_CFG => some (0x38000)
  | .UP_SKEWOVR => some (0x38004)
  | .UP_TRUST i => some (0x38010 + 4 * i)
  | .UP_SRCADDR i => some (0x38020 + 4 * i)
  | .UP_RANGE => some (0x38028)
  | .UP_SLOT i => some (0x38030 + 4 * i)
  | .UP_STAGE => some (0x38038)
  | .UP_CMD => some (0x38040)
  | .UP_ACTT i => some (0x38048 + 4 * i)
  | .UP_CONFIRMWIN => some (0x38050)
  | .UP_STAT => some (0x38060)
  | .UP_VER i => some (0x38070 + 4 * i)
  | .UP_IF => some (0x3807C)
  | .UP_MBOX => some (0x38080)
  | .UP_MBOXRD => some (0x38084)
  | .UP_MBOXWR => some (0x38088)
  | .DB_CTL => some (0x39000)
  | .DB_BLK => some (0x39004)
  | .DB_TSEL => some (0x39008)
  | .DB_BITST => some (0x3900C)
  | .DB_VSEL => some (0x39010)
  | .DB_VDATA => some (0x39014)
  | .DB_CHABORT => some (0x39018)
  | .DB_GREG i => some (0x39080 + 4 * i)
  | .DB_THALT t => some (0x39100 + 0x100 * t + 0x0)
  | .DB_TRES t => some (0x39100 + 0x100 * t + 0x4)
  | .DB_TSTEP t => some (0x39100 + 0x100 * t + 0x8)
  | .DB_TILE t => some (0x39100 + 0x100 * t + 0xC)
  | .DB_HSTAT t n => some (0x39100 + 0x100 * t + 0x40 + 4 * n)
  | .DB_BP t i w => some (0x39100 + 0x100 * t + 0x80 + 8 * i + 4 * w)
  | .DB_WP t i w => some (0x39100 + 0x100 * t + 0xC0 + 8 * i + 4 * w)
  | .MB _ i => some (0x3F000 + 4 * i)
  | .G _ _ _ => none
  | .ISTAT _ _ => none
  | .LCOUNT _ _ => none
  | .LSTART _ _ => none
  | .LEND _ _ => none
  | .LCTL _ _ => none
  | .BITST _ _ => none
  | .MBCOUNT _ _ => none

/-- The value a register holds at reset (R482; R419 for the severities, R105, R107, R141, R273 for the words that no
offset shows). -/
def regReset : Reg → Word
  | .BLK_VERSION => 0x30200
  | .BLK_STATE => 0x11
  | .BLK_RSTCAUSE => 0x1
  | .BLK_PDSTAT => 0x103
  | .HP_WRMASK _ _ => 0xFFFFFFFF
  | .AP_CFG => 0x3FF
  | .AP_TILEEN => 0x1
  | .FC_CFG => 0x2
  | .FC_NCFG => 0x13F
  | .FC_WIN s => (if s = 1 then 0x2710 else if s = 2 then 0x3E8 else if s = 3 then 0x64 else 0)
  | .FC_SAFEENG _ => 0xFFFFFFFF
  | .FC_HVEC _ i => (if i = 3 then 1 else 0)
  | .FC_SCFG n => (BitVec.ofNat 32 (faultResetSev n))
  | .GZ_STORMCFG => 0x4000C8
  | .GZ_CHPROT _ => 0x60606060
  | .TM_PRESC _ => 0x10000
  | .TB_STAT => 0x1
  | .SC_PERIOD _ => 0x9C40
  | .SC_OFFSET _ => 0x9C40
  | .SC_FREEZELAT _ => 0x78
  | .TL_DLGRACE _ => 0x4000
  | .TL_RESETPC t => (if t = 0 then 0x0F800000 else 0)
  | .TH_WPERM _ _ => 0x3FFF
  | .LV_IDLE _ => 0x3E8
  | .FE_CTL _ _ => 0x4
  | .FE_CLK _ _ => 0x20000400
  | .FE_CNT _ _ => 0x10001
  | .FE_IDLEPAT _ _ => 0xFFFFFFFF
  | .FE_SEG _ e => (BitVec.ofNat 32 (0x200180 + 4 * e))
  | .RG_CFG _ _ => 0x40000
  | .RG_FLOW _ _ => 0x200001
  | .RG_STAT _ _ => 0x80000000
  | .RG_CQCFG _ _ => 0x40000
  | .RG_CQSTAT _ _ => 0x20000000
  | .RG_PCTL _ => 0x400A07D0
  | .RG_VECCTL _ _ => 0x1
  | .CN_CTL _ => 0x1
  | .CN_NBT _ => 0x1E7C3C00
  | .CN_DBT _ => 0x13080000
  | .CN_TUR _ => 0x40000000
  | .FD_TCFG => 0x80040064
  | .MI_PEER => 0x32
  | .UP_CFG => 0x10000
  | .UP_CONFIRMWIN => 0x7D0
  | .UP_IF => 0x3
  | .UP_MBOX => 0x4000000
  | _ => 0

/-- The bits of a register that carry the access codes RW, RWB and W1C (R12), from its field table; every other bit
keeps its value on a write (RO, reserved) or acts as its chapter says (W1S, WO). -/
structure Access where
  rw : Word := 0
  rwb : Word := 0
  w1c : Word := 0
deriving DecidableEq, Repr

/-- The access codes of every register (R12 and the field tables of each chapter). -/
def regAccess : Reg → Access
  | .BLK_STATE => ⟨0, 0, 0x100⟩
  | .BLK_BOOTPTR i => ⟨(if i = 0 then 0xFFFFF001 else 0xFFFFFFFF), 0, 0⟩
  | .BLK_RSTCAUSE => ⟨0, 0, 0xFF07⟩
  | .BLK_PDSTAT => ⟨0, 0, 0x80000000⟩
  | .HP_CTL _ => ⟨0x1, 0, 0⟩
  | .HP_TZ2CFG => ⟨0, 0xFFFF, 0⟩
  | .HP_WRMASK _ _ => ⟨0, 0xFFFFFFFF, 0⟩
  | .HP_REFSTAT _ => ⟨0, 0, 0xC0000000⟩
  | .HP_PGBIND _ => ⟨0, 0x9F9F9F9F, 0⟩
  | .AP_CFG => ⟨0x3FF, 0, 0⟩
  | .AP_STAT => ⟨0, 0, 0x60000000⟩
  | .AP_PSTAT => ⟨0, 0, 0x100⟩
  | .AP_WAKEEN => ⟨0x3FF, 0, 0⟩
  | .AP_TILEEN => ⟨0xFF, 0, 0⟩
  | .AP_RSV _ => ⟨0x800003FF, 0, 0⟩
  | .FC_CFG => ⟨0x3, 0x100, 0⟩
  | .FC_RSTAT => ⟨0, 0, 0x4⟩
  | .FC_NCFG => ⟨0x8000033F, 0, 0⟩
  | .FC_NSTAT => ⟨0xFFFF, 0, 0x80000000⟩
  | .FC_FIRST => ⟨0, 0, 0xC0000000⟩
  | .FC_WIN _ => ⟨0xFFFFFF, 0, 0⟩
  | .FC_SAFEENG _ => ⟨0xFFFFFFFF, 0, 0⟩
  | .FC_HVEC _ i => ⟨(if i = 0 then 0xFFFFFFFC else if i = 3 then 0x80000001 else 0xFFFFFFFF), 0, 0⟩
  | .FC_SCFG _ => ⟨0x113, 0, 0⟩
  | .GZ_ERR => ⟨0, 0, 0xF0000000⟩
  | .GZ_STORMCFG => ⟨0xFFFFFFFF, 0, 0⟩
  | .GZ_CHFLAG _ => ⟨0, 0, 0xFFFFFFFF⟩
  | .GZ_CHSTORM _ => ⟨0, 0, 0xFFFFFFFF⟩
  | .GZ_CHPROT _ => ⟨0, 0xE7E7E7E7, 0⟩
  | .GZ_PINSEL _ => ⟨0x1FF01FF, 0, 0⟩
  | .GZ_TOVF _ => ⟨0, 0, 0xFFFFFFFF⟩
  | .GZ_CH _ => ⟨0xF3FF03FF, 0, 0⟩
  | .GZ_TTGT _ => ⟨0xFFFFFFFF, 0, 0⟩
  | .GZ_TASK _ => ⟨0xFFFFFFFF, 0, 0⟩
  | .TM_CTL _ => ⟨0xFFFFC07F, 0, 0⟩
  | .TM_STAT _ => ⟨0, 0, 0x4F⟩
  | .TM_PRESC _ => ⟨0xFFFFFFFF, 0, 0⟩
  | .TM_ROUTE _ => ⟨0xFFFFFF80, 0, 0⟩
  | .TM_CNT_LO _ => ⟨0xFFFFFFFF, 0, 0⟩
  | .TM_CNT_HI _ => ⟨0xFFFF, 0, 0⟩
  | .TM_PERIOD _ => ⟨0xFFFFFFFF, 0, 0⟩
  | .TM_MATCH _ => ⟨0xFFFFFFFF, 0, 0⟩
  | .TM_PMHI _ => ⟨0xFFFFFFFF, 0, 0⟩
  | .TB_CMP _ i => ⟨(if i = 3 then 0xE0000000 else 0xFFFFFFFF), 0, (if i = 3 then 3 else 0)⟩
  | .TM_CONVSEL _ => ⟨0x8000033F, 0, 0⟩
  | .TM_CONVSTAT => ⟨0, 0, 0xFFFF⟩
  | .SC_IMGBASE => ⟨0x7FF000, 0, 0⟩
  | .SC_IMGSIZE => ⟨0xFFFFFFFF, 0, 0⟩
  | .SC_OVRPOL => ⟨0xFF, 0, 0⟩
  | .SC_STAT => ⟨0, 0, 0x3⟩
  | .SC_OWNPTR => ⟨0x3FFFF, 0, 0⟩
  | .SC_GCTL _ => ⟨0x2, 0, 0⟩
  | .SC_GSTAT _ => ⟨0, 0, 0xF0⟩
  | .SC_PERIOD _ => ⟨0x1FFFFFFF, 0, 0⟩
  | .SC_OFFSET _ => ⟨0x1FFFFFFF, 0, 0⟩
  | .SC_PHASE _ => ⟨0x1FFFFFFF, 0, 0⟩
  | .SC_FREEZELAT _ => ⟨0xFFFF, 0, 0⟩
  | .SC_ISLICE _ => ⟨0x7FFF3FFF, 0, 0⟩
  | .SC_QSLICE _ => ⟨0x7FFF3FFF, 0, 0⟩
  | .SC_MSLICE _ => ⟨0x3FFF1FFF, 0, 0⟩
  | .SC_MEMBER _ _ => ⟨0xFFFFFFFF, 0, 0⟩
  | .SC_PBASE _ => ⟨0x1FFF1FFF, 0, 0⟩
  | .SC_CPYTIME _ => ⟨0xFFFF0000, 0, 0⟩
  | .SC_DETLOST _ => ⟨0, 0, 0x1FFF⟩
  | .SC_EDITTGT _ _ => ⟨0xFFFFFFFF, 0, 0⟩
  | .SC_PBSIZE _ => ⟨0x1FFF, 0, 0⟩
  | .SM_PDCTL => ⟨0xF, 0, 0⟩
  | .SM_PDSTAT => ⟨0, 0, 0x1⟩
  | .SM_COLLCNT => ⟨0xFFFFFFFF, 0, 0⟩
  | .SM_ECCSTAT => ⟨0xFFFF, 0, 0xC0000000⟩
  | .SM_ECCADDR => ⟨0, 0, 0x80000000⟩
  | .TL_CTL _ => ⟨0x1, 0, 0⟩
  | .TL_STAT _ => ⟨0, 0, 0x80000001⟩
  | .TL_DLGRACE _ => ⟨0xFFFFFF, 0, 0⟩
  | .TL_RESETPC _ => ⟨0xFFFFFFFC, 0, 0⟩
  | .TL_HWROUTE _ => ⟨0xF, 0, 0⟩
  | .TL_SPECC _ => ⟨0xFFFF, 0, 0xC0000000⟩
  | .TL_SPECCADDR _ => ⟨0, 0, 0x80000000⟩
  | .TL_ENGGRP _ => ⟨0xF, 0, 0⟩
  | .TL_SLOTMAP _ _ => ⟨0xCF, 0, 0⟩
  | .TH_CTL _ _ => ⟨0x1F13, 0, 0⟩
  | .TH_STAT _ _ => ⟨0, 0, 0x100⟩
  | .TH_PC _ _ => ⟨0xFFFFFFFC, 0, 0⟩
  | .TH_EVPEND _ _ => ⟨0, 0, 0xFFFFFFFF⟩
  | .TH_EVIE _ _ => ⟨0xFFFFFFFF, 0, 0⟩
  | .TH_EVWE _ _ => ⟨0xFFFFFFFF, 0, 0⟩
  | .TH_EVSEL _ _ => ⟨0xFFFFFFFF, 0, 0⟩
  | .TH_VBASE _ _ => ⟨0xFFFFFC00, 0, 0⟩
  | .TH_EPC _ _ _ => ⟨0xFFFFFFFC, 0, 0⟩
  | .TH_WPERM _ _ => ⟨0, 0x7FFF, 0⟩
  | .TH_HWINHI _ _ => ⟨0xFFFFF, 0, 0⟩
  | .TH_HWIN _ _ _ => ⟨0xFFFFFC03, 0, 0⟩
  | .LV_CTL _ => ⟨0x1010F, 0, 0⟩
  | .LV_STAT _ => ⟨0, 0, 0x1⟩
  | .LV_IDLE _ => ⟨0xFFFF, 0, 0⟩
  | .FE_CTL _ _ => ⟨0x4, 0, 0⟩
  | .FE_STAT _ _ => ⟨0, 0, 0x7E⟩
  | .FE_CFG _ _ => ⟨0xE7F00000, 0, 0⟩
  | .FE_PINS _ _ => ⟨0xFF003F0F, 0, 0⟩
  | .FE_CLK _ _ => ⟨0xFFFFFFFF, 0, 0⟩
  | .FE_CMP _ _ => ⟨0xFFFFFFFF, 0, 0⟩
  | .FE_CMPMASK _ _ => ⟨0xFFFFFFFF, 0, 0⟩
  | .FE_CNT _ _ => ⟨0xFFFFFFFF, 0, 0⟩
  | .FE_IDLEPAT _ _ => ⟨0xFFFFFFFF, 0, 0⟩
  | .FE_PAT _ _ => ⟨0xFFFFFFFF, 0, 0⟩
  | .FE_SEG _ _ => ⟨0xE3F81FFF, 0, 0⟩
  | .FE_SIO _ _ => ⟨0xC003FFFF, 0, 0⟩
  | .RG_BASE _ _ i => ⟨(if i = 0 then 0xFFFFFFE0 else 0xFFFFFFFF), 0, 0⟩
  | .RG_CFG _ _ => ⟨0xC71F3F07, 0, 0⟩
  | .RG_FLOW _ _ => ⟨0xFFFF0F, 0, 0⟩
  | .RG_TARGET _ _ => ⟨0xFF, 0, 0⟩
  | .RG_CI _ _ => ⟨0x1FFFF, 0, 0⟩
  | .RG_STAT _ _ => ⟨0, 0, 0x10000000⟩
  | .RG_CQBASE _ _ i => ⟨(if i = 0 then 0xFFFFFFF0 else 0xFFFFFFFF), 0, 0⟩
  | .RG_CQCFG _ _ => ⟨0xC01FFF7F, 0, 0⟩
  | .RG_CQSTAT _ _ => ⟨0, 0, 0x80000000⟩
  | .RG_PCTL _ => ⟨0xFFFFFFFF, 0, 0⟩
  | .RG_PSTAT _ => ⟨0, 0, 0x80000000⟩
  | .RG_SUMADDR _ i => ⟨(if i = 0 then 0xFFFFFFC0 else 0xFFFFFFFF), 0, 0⟩
  | .RG_DBBASE _ i => ⟨(if i = 0 then 0xFFFFF000 else 0xFFFFFFFF), 0, 0⟩
  | .RG_VECADDR _ _ i => ⟨(if i = 0 then 0xFFFFFFFC else 0xFFFFFFFF), 0, 0⟩
  | .RG_VECDATA _ _ => ⟨0xFFFFFFFF, 0, 0⟩
  | .RG_VECCTL _ _ => ⟨0x1, 0, 0⟩
  | .CN_CTL _ => ⟨0xEF, 0, 0⟩
  | .CN_STAT _ => ⟨0, 0, 0x7B⟩
  | .CN_NBT _ => ⟨0xFFFFFCFF, 0, 0⟩
  | .CN_DBT _ => ⟨0xFFFFFFC0, 0, 0⟩
  | .CN_MAPID _ => ⟨0x3FFFFFFF, 0, 0⟩
  | .CN_RXMISS _ => ⟨0xFFFFFFFF, 0, 0⟩
  | .CN_TTCFG _ => ⟨0xF81FFFFF, 0, 0⟩
  | .CN_REFID _ => ⟨0x3FFFFFFF, 0, 0⟩
  | .CN_TTSTAT _ => ⟨0, 0, 0x8⟩
  | .CN_TRIG _ _ => ⟨0x80FF3FFF, 0, 0⟩
  | .CN_DOMCTL => ⟨0x1, 0, 0⟩
  | .FD_CTL => ⟨0x80000101, 0, 0⟩
  | .FD_STAT => ⟨0, 0, 0x40000000⟩
  | .FD_TSTAT => ⟨0, 0, 0x10000000⟩
  | .FD_TCFG => ⟨0xFFFFFFFF, 0, 0⟩
  | .FD_LCTL _ => ⟨0x80000007, 0, 0⟩
  | .FD_LSTAT _ => ⟨0, 0, 0x1C000000⟩
  | .FD_LERR _ => ⟨0xFFFFFFFF, 0, 0⟩
  | .FD_PUB _ w => ⟨(if w = 0 then 0xF003FFFF else 0x3FFF03FF), 0, 0⟩
  | .FD_SUB _ w => ⟨(if w = 0 then 0x8003FFFF else 0x3FFF000F), 0, 0⟩
  | .FD_SUBSTAT => ⟨0, 0, 0xFFFFFFFF⟩
  | .MI_CTL => ⟨0xE00000FF, 0, 0⟩
  | .MI_PEER => ⟨0x3FFF003F, 0, 0⟩
  | .MI_STAT => ⟨0, 0, 0x1E800000⟩
  | .MI_ENGSHADOW _ => ⟨0xFFFFFFFF, 0, 0⟩
  | .UP_CFG => ⟨0x1, 0xFFFE0100, 0⟩
  | .UP_SKEWOVR => ⟨0, 0x1, 0⟩
  | .UP_TRUST _ => ⟨0, 0xFFFFFFFF, 0⟩
  | .UP_SRCADDR i => ⟨(if i = 0 then 0xFFFFF000 else 0xFFFFFFFF), 0, 0⟩
  | .UP_RANGE => ⟨0x3FFF3FFF, 0, 0⟩
  | .UP_SLOT i => ⟨(if i = 0 then 0xFFFFF000 else 0xFFFFFFFF), 0, 0⟩
  | .UP_STAGE => ⟨0x700000, 0, 0⟩
  | .UP_ACTT _ => ⟨0xFFFFFFFF, 0, 0⟩
  | .UP_CONFIRMWIN => ⟨0xFFFF, 0, 0⟩
  | .UP_STAT => ⟨0, 0, 0x3F00⟩
  | .UP_MBOX => ⟨0xFF7FFC00, 0, 0⟩
  | .UP_MBOXRD => ⟨0xFFFFFFFF, 0, 0⟩
  | .DB_CTL => ⟨0x3, 0, 0⟩
  | .DB_TSEL => ⟨0x7F, 0, 0⟩
  | .DB_VSEL => ⟨0x7FF, 0, 0⟩
  | .DB_BP _ _ w => ⟨(if w = 0 then 0xFFFFFFFC else 0x8000FFFF), 0, 0⟩
  | .DB_WP _ _ w => ⟨(if w = 0 then 0xFFFFFFFF else 0xE01FFFFF), 0, 0⟩
  | _ => ⟨0, 0, 0⟩

/-- The index of an offset in a table of `n` entries of `step` bytes at `base`, when it is the start of an entry. -/
def slot (o base step n : Nat) : Option Nat :=
  if base ≤ o ∧ (o - base) % step = 0 ∧ (o - base) / step < n then some ((o - base) / step) else none

/-- The first of several candidates that names a register. -/
def firstReg : List (Option Reg) → Option Reg
  | [] => none
  | some r :: _ => some r
  | none :: l => firstReg l

/-- The register at an offset of the BLK page. -/
def regBLK (o : Nat) : Option Reg :=
  if o = 0x0 then some .BLK_VERSION else if o = 0x4 then some .BLK_CONFIG else if o = 0x8 then some .BLK_STATE
  else if o = 0xC then some .BLK_BOOTDONE else if o = 0x40 then some .BLK_RSTCAUSE
  else if o = 0x44 then some .BLK_PDSTAT
  else firstReg [(slot o 0x20 4 2).map .BLK_BOOTPTR, (slot o 0x30 4 4).map .BLK_READY]

/-- The register at an offset of the HP page. -/
def regHP (o : Nat) : Option Reg :=
  if o = 0x8 then some .HP_TZ2CFG else if o = 0x180 then some .HP_SEMBRK else if o = 0x184 then some .HP_SEMSUM
  else firstReg [(slot o 0x0 4 2).map .HP_CTL, (slot o 0x10 4 4).map (fun i => .HP_WRMASK (i / 2) (i % 2)),
    (slot o 0x20 4 2).map .HP_REFSTAT, (slot o 0x28 4 2).map .HP_REFADDR, (slot o 0x40 4 16).map .HP_PGBIND,
    (slot o 0x100 4 32).map .HP_SEM]

/-- The register at an offset of the AP page. -/
def regAP (o : Nat) : Option Reg :=
  if o = 0x0 then some .AP_CFG else if o = 0x4 then some .AP_STAT else if o = 0x8 then some .AP_PCTL
  else if o = 0xC then some .AP_PSTAT else if o = 0x10 then some .AP_WAKEEN else if o = 0x14 then some .AP_TILEEN
  else (slot o 0x40 4 8).map .AP_RSV

/-- The register at an offset of the FC page; offset 0x30 follows R16. -/
def regFC (o : Nat) : Option Reg :=
  if o = 0x0 then some .FC_CFG else if o = 0x4 then some .FC_RSTAT else if o = 0x8 then some .FC_RCTL
  else if o = 0xC then some .FC_NCFG else if o = 0x10 then some .FC_NSTAT else if o = 0x20 then some .FC_FIRST
  else if o = 0x30 then none
  else firstReg [(slot o 0x24 4 2).map .FC_FIRSTT, (slot o 0x30 4 4).map .FC_WIN, (slot o 0x40 4 4).map .FC_STAT,
    (slot o 0x50 4 4).map .FC_ACK, (slot o 0x80 4 8).map .FC_SAFEENG,
    (slot o 0xA0 4 8).map (fun i => .FC_HVEC (i / 4) (i % 4)), (slot o 0x400 4 128).map .FC_SCFG,
    (slot o 0x600 4 128).map .FC_SSTAT]

/-- The register at an offset of the two GZ pages. -/
def regGZ (o : Nat) : Option Reg :=
  if o = 0x0 then some .GZ_ERR else if o = 0x4 then some .GZ_STORMCFG
  else firstReg [(slot o 0x40 4 4).map .GZ_CHFLAG, (slot o 0x50 4 4).map .GZ_CHSTORM,
    (slot o 0x80 4 32).map .GZ_CHPROT, (slot o 0x100 4 64).map .GZ_PINSEL, (slot o 0x200 4 40).map .GZ_TOVF,
    (slot o 0x400 4 128).map .GZ_CH, (slot o 0x600 4 128).map .GZ_TTGT, (slot o 0x1000 4 640).map .GZ_TASK]

/-- The register of a timer channel at a word offset of its block. -/
def regTMch (n k : Nat) : Option Reg :=
  match k with
  | 0 => some (.TM_CTL n) | 1 => some (.TM_STAT n) | 2 => some (.TM_PRESC n) | 3 => some (.TM_ROUTE n)
  | 4 => some (.TM_CNT_LO n) | 5 => some (.TM_CNT_HI n) | 6 => some (.TM_PERIOD n) | 7 => some (.TM_MATCH n)
  | 8 => some (.TM_PMHI n) | 9 => some (.TM_CAPRISE n) | 10 => some (.TM_CAPFALL n) | 11 => some (.TM_PWIDTH n)
  | _ => none

/-- The register at an offset of the TM and TB pages. -/
def regTM (o : Nat) : Option Reg :=
  if o < 0x1000 then regTMch (o / 0x40) (o % 0x40 / 4)
  else if o = 0x1000 then some .TB_LO else if o = 0x1004 then some .TB_HI else if o = 0x1008 then some .TB_ADJ
  else if o = 0x100C then some .TB_STAT else if o = 0x1240 then some .TM_CONVSTAT
  else firstReg [(slot o 0x1100 4 32).map (fun i => .TB_CMP (i / 4) (i % 4)), (slot o 0x1200 4 16).map .TM_CONVSEL,
    (slot o 0x1280 4 2).map .TM_GSTART, (slot o 0x1288 4 2).map .TM_GSTOP]

/-- The register of a scan group at a word offset of its block. -/
def regSCg (g k : Nat) : Option Reg :=
  match k with
  | 0 => some (.SC_GCTL g) | 1 => some (.SC_GSTAT g) | 2 => some (.SC_PERIOD g) | 3 => some (.SC_OFFSET g)
  | 4 => some (.SC_PHASE g) | 5 => some (.SC_FREEZELAT g) | 6 => some (.SC_TFREEZE g 0) | 7 => some (.SC_TFREEZE g 1)
  | 8 => some (.SC_SCANNO g) | 9 => some (.SC_ISLICE g) | 10 => some (.SC_QSLICE g) | 11 => some (.SC_MSLICE g)
  | 12 => some (.SC_MEMBER g 0) | 13 => some (.SC_MEMBER g 1) | 14 => some (.SC_MEMBER g 2)
  | 15 => some (.SC_MEMBER g 3) | 16 => some (.SC_PBASE g) | 17 => some (.SC_CPYTIME g) | 18 => some (.SC_DETLOST g)
  | 19 => some (.SC_DETSCAN g) | 20 => some (.SC_EDITCTL g) | 21 => some (.SC_EDITSTAT g)
  | 22 => some (.SC_EDITTGT g 0) | 23 => some (.SC_EDITTGT g 1) | 24 => some (.SC_EDITID g) | 25 => some (.SC_PBSIZE g)
  | _ => none

/-- The register at an offset of the SC pages. -/
def regSC (o : Nat) : Option Reg :=
  if o = 0x0 then some .SC_IMGBASE else if o = 0x4 then some .SC_IMGSIZE else if o = 0x8 then some .SC_OVRPOL
  else if o = 0xC then some .SC_STAT else if o = 0x10 then some .SC_OWNPTR else if o = 0x14 then some .SC_OWNDATA
  else if o = 0x18 then some .SC_OWNFILL
  else if 0x100 ≤ o ∧ o < 0x500 then regSCg ((o - 0x100) / 0x80) ((o - 0x100) % 0x80 / 4)
  else none

/-- The register at an offset of the SM pages. -/
def regSM (o : Nat) : Option Reg :=
  if o = 0x0 then some .SM_PDCTL else if o = 0x4 then some .SM_CLRREQ else if o = 0x8 then some .SM_PDSTAT
  else if o = 0xC then some .SM_COLLCNT else if o = 0x10 then some .SM_ECCSTAT else if o = 0x14 then some .SM_ECCADDR
  else none

/-- The register of a thread at a word offset of its block. -/
def regTH (t n k : Nat) : Option Reg :=
  match k with
  | 0 => some (.TH_CTL t n) | 1 => some (.TH_STAT t n) | 2 => some (.TH_PC t n) | 3 => some (.TH_EVPEND t n)
  | 4 => some (.TH_EVIE t n) | 5 => some (.TH_EVWE t n) | 6 => some (.TH_EVSEL t n) | 7 => some (.TH_VBASE t n)
  | 8 => some (.TH_EPC t n 0) | 9 => some (.TH_EPC t n 1) | 10 => some (.TH_WPERM t n) | 11 => some (.TH_HWINHI t n)
  | 12 => some (.TH_HWIN t n 0) | 13 => some (.TH_HWIN t n 1) | 14 => some (.TH_HWIN t n 2)
  | 15 => some (.TH_HWIN t n 3) | _ => none

/-- The register at an offset of the tile page of tile `t`. -/
def regTL (t o : Nat) : Option Reg :=
  if 0x400 ≤ o ∧ o < 0x800 then regTH t ((o - 0x400) / 0x40) ((o - 0x400) % 0x40 / 4)
  else if o = 0x0 then some (.TL_CTL t) else if o = 0x4 then some (.TL_STAT t)
  else if o = 0x8 then some (.TL_DLGRACE t) else if o = 0xC then some (.TL_RESETPC t)
  else if o = 0x1C then some (.TL_HWROUTE t) else if o = 0x20 then some (.TL_SPECC t)
  else if o = 0x24 then some (.TL_SPECCADDR t) else if o = 0x28 then some (.TL_ENGGRP t)
  else if o = 0x2C then some (.TL_GZFIRE t) else if o = 0x30 then some (.TL_FCACK t)
  else firstReg [(slot o 0x10 4 3).map (.TL_FREC t), (slot o 0x40 4 16).map (.TL_SLOTMAP t)]

/-- The register at an offset of the LV page of tile `t`. -/
def regLV (t o : Nat) : Option Reg :=
  if o = 0x0 then some (.LV_CTL t) else if o = 0x4 then some (.LV_STAT t) else if o = 0x8 then some (.LV_IDLE t)
  else (slot o 0x10 4 4).map (.LV_CSTAT t)

/-- The register of an engine at a word offset of its block. -/
def regFEe (t e k : Nat) : Option Reg :=
  match k with
  | 0 => some (.FE_CTL t e) | 1 => some (.FE_STAT t e) | 2 => some (.FE_CFG t e) | 3 => some (.FE_PINS t e)
  | 4 => some (.FE_CLK t e) | 5 => some (.FE_CMP t e) | 6 => some (.FE_CMPMASK t e) | 7 => some (.FE_CNT t e)
  | 8 => some (.FE_IDLEPAT t e) | 9 => some (.FE_PAT t e) | 10 => some (.FE_SEG t e) | 11 => some (.FE_SIO t e)
  | _ => none

/-- The register at an offset of the FE page of tile `t`. -/
def regFE (t o : Nat) : Option Reg :=
  if o < 0x800 then regFEe t (o / 0x40) (o % 0x40 / 4)
  else some (.FE_PROG t ((o - 0x800) / 0x40) ((o - 0x800) % 0x40 / 4))

/-- The register at an offset of the ring pages. -/
def regRG (o : Nat) : Option Reg :=
  let p := o / 0x2000
  let r := o % 0x2000 / 0x20
  match o % 0x20 / 4 with
  | 0 => some (.RG_BASE p r 0) | 1 => some (.RG_BASE p r 1) | 2 => some (.RG_CFG p r) | 3 => some (.RG_FLOW p r)
  | 4 => some (.RG_TARGET p r) | 5 => some (.RG_PI p r) | 6 => some (.RG_CI p r) | _ => some (.RG_STAT p r)

/-- The register at an offset of the queue, port and vector pages. -/
def regRQ (o : Nat) : Option Reg :=
  if o < 0x800 then
    let p := o / 0x400
    let q := o % 0x400 / 0x10
    match o % 0x10 / 4 with
    | 0 => some (.RG_CQBASE p q 0) | 1 => some (.RG_CQBASE p q 1) | 2 => some (.RG_CQCFG p q)
    | _ => some (.RG_CQSTAT p q)
  else if o < 0xA00 then
    let p := (o - 0x800) / 0x100
    match (o - 0x800) % 0x100 / 4 with
    | 0 => some (.RG_PCTL p) | 1 => some (.RG_PSTAT p) | 2 => some (.RG_SUMADDR p 0) | 3 => some (.RG_SUMADDR p 1)
    | 4 => some (.RG_DBBASE p 0) | 5 => some (.RG_DBBASE p 1) | _ => none
  else if 0x1000 ≤ o ∧ o < 0x1800 then
    let p := (o - 0x1000) / 0x400
    let v := (o - 0x1000) % 0x400 / 0x10
    match o % 0x10 / 4 with
    | 0 => some (.RG_VECADDR p v 0) | 1 => some (.RG_VECADDR p v 1) | 2 => some (.RG_VECDATA p v)
    | _ => some (.RG_VECCTL p v)
  else none

/-- The register of a CAN controller at an offset of its 1 KiB region; offset 0x300 of every region shows CN_DOMCTL. -/
def regCN (c o : Nat) : Option Reg :=
  if o = 0x300 then some .CN_DOMCTL
  else if o < 0x40 then
    match o / 4 with
    | 0 => some (.CN_CTL c) | 1 => some (.CN_STAT c) | 2 => some (.CN_NBT c) | 3 => some (.CN_DBT c)
    | 4 => some (.CN_ERR c) | 5 => some (.CN_MAPID c) | 6 => some (.CN_MAPCMD c) | 7 => some (.CN_RXMISS c)
    | 8 => some (.CN_TXREQ c) | 9 => some (.CN_TXABORT c) | 10 => some (.CN_TTCFG c) | 11 => some (.CN_REFID c)
    | 12 => some (.CN_TTSTAT c) | 13 => some (.CN_GTLO c) | 14 => some (.CN_GTHI c) | _ => some (.CN_TUR c)
  else (slot o 0x40 4 4).map (.CN_TRIG c)

/-- The register at an offset of the FD and MI pages. -/
def regFD (o : Nat) : Option Reg :=
  if o = 0x0 then some .FD_CTL else if o = 0x4 then some .FD_STAT else if o = 0x8 then some .FD_RANGE
  else if o = 0xC then some .FD_TSTAT else if o = 0x10 then some .FD_TOFS else if o = 0x14 then some .FD_TCFG
  else if o = 0x200 then some .FD_SUBSTAT else if o = 0x1000 then some .MI_CTL else if o = 0x1004 then some .MI_PEER
  else if o = 0x1008 then some .MI_STAT else if o = 0x1020 then some .MI_DSCAN
  else firstReg [(slot o 0x20 4 4).map .FD_LCTL, (slot o 0x30 4 4).map .FD_LSTAT, (slot o 0x40 4 4).map .FD_LERR,
    (slot o 0x50 4 4).map .FD_HOPDLY, (slot o 0x100 4 32).map (fun i => .FD_PUB (i / 2) (i % 2)),
    (slot o 0x180 4 32).map (fun i => .FD_SUB (i / 2) (i % 2)), (slot o 0x1010 4 2).map .MI_DIGEST,
    (slot o 0x1018 4 2).map .MI_PDIGEST, (slot o 0x1040 4 8).map .MI_ENGSHADOW]

/-- The register at an offset of the UP page. -/
def regUP (o : Nat) : Option Reg :=
  if o = 0x0 then some .UP_CFG else if o = 0x4 then some .UP_SKEWOVR else if o = 0x28 then some .UP_RANGE
  else if o = 0x38 then some .UP_STAGE else if o = 0x40 then some .UP_CMD else if o = 0x50 then some .UP_CONFIRMWIN
  else if o = 0x60 then some .UP_STAT else if o = 0x7C then some .UP_IF else if o = 0x80 then some .UP_MBOX
  else if o = 0x84 then some .UP_MBOXRD else if o = 0x88 then some .UP_MBOXWR
  else firstReg [(slot o 0x10 4 4).map .UP_TRUST, (slot o 0x20 4 2).map .UP_SRCADDR, (slot o 0x30 4 2).map .UP_SLOT,
    (slot o 0x48 4 2).map .UP_ACTT, (slot o 0x70 4 3).map .UP_VER]

/-- The register at an offset of the DB page. -/
def regDB (o : Nat) : Option Reg :=
  if o = 0x0 then some .DB_CTL else if o = 0x4 then some .DB_BLK else if o = 0x8 then some .DB_TSEL
  else if o = 0xC then some .DB_BITST else if o = 0x10 then some .DB_VSEL else if o = 0x14 then some .DB_VDATA
  else if o = 0x18 then some .DB_CHABORT
  else if 0x80 ≤ o ∧ o < 0x100 then some (.DB_GREG ((o - 0x80) / 4))
  else if 0x100 ≤ o ∧ o < 0x900 then
    let t := (o - 0x100) / 0x100
    let k := (o - 0x100) % 0x100
    if k = 0x0 then some (.DB_THALT t) else if k = 0x4 then some (.DB_TRES t) else if k = 0x8 then some (.DB_TSTEP t)
    else if k = 0xC then some (.DB_TILE t)
    else firstReg [(slot k 0x40 4 16).map (.DB_HSTAT t), (slot k 0x80 4 16).map (fun i => .DB_BP t (i / 2) (i % 2)),
      (slot k 0xC0 4 8).map (fun i => .DB_WP t (i / 2) (i % 2))]
  else none

/-- Where an offset of the block window leads (R478, R479, R6, R16). -/
inductive Target where
  /-- no row of R478, no listed page, or a part that the build lacks: DECERR -/
  | decerr
  /-- a listed page, but no register there: reads 0, writes do nothing (R16) -/
  | hole
  | reg (r : Reg)
  /-- the legacy doorbell page of port `p` (R296) -/
  | legacy (p o : Nat)
  /-- a memory; the offset is the block-window offset -/
  | mem (o : Nat)
deriving DecidableEq, Repr

/-- A register, or a hole of its page. -/
def Target.ofReg : Option Reg → Target
  | some r => .reg r
  | none => .hole

/-- Decode a word offset of the setup region for a port (the port counts for the TZ2 window only, R273). -/
def decodeSetup (b : Build) (p o : Nat) : Target :=
  let tiles := 2 ^ b.tilesLog2
  let page := o / 0x1000
  if page = 0x0 then .ofReg (regBLK o)
  else if page = 0x1 then .ofReg (regHP (o - 0x1000))
  else if page = 0x2 then .ofReg (regAP (o - 0x2000))
  else if page = 0x3 then .ofReg (regFC (o - 0x3000))
  else if page < 0x6 then .ofReg (regGZ (o - 0x4000))
  else if page < 0x8 then .ofReg (regTM (o - 0x6000))
  else if page < 0xC then .ofReg (regSC (o - 0x8000))
  else if page < 0x10 then .ofReg (regSM (o - 0xC000))
  else if page < 0x18 then
    (if page - 0x10 < tiles then .ofReg (regTL (page - 0x10) (o % 0x1000)) else .decerr)
  else if page < 0x20 then
    (if page - 0x18 < tiles ∧ b.lvu = true then .ofReg (regLV (page - 0x18) (o % 0x1000)) else .decerr)
  else if page < 0x28 then
    (if page - 0x20 < tiles then .ofReg (regFE (page - 0x20) (o % 0x1000)) else .decerr)
  else if page < 0x2C then .ofReg (regRG (o - 0x28000))
  else if page < 0x30 then .ofReg (regRQ (o - 0x2C000))
  else if page < 0x34 then
    (if (o - 0x30000) / 0x400 < b.can then .ofReg (regCN ((o - 0x30000) / 0x400) (o % 0x400)) else .decerr)
  else if page < 0x36 then .ofReg (regFD (o - 0x34000))
  else if page = 0x38 then .ofReg (regUP (o - 0x38000))
  else if page = 0x39 then
    (if 0x100 ≤ o - 0x39000 ∧ o - 0x39000 < 0x900 ∧ tiles ≤ (o - 0x39100) / 0x100 then .decerr
     else .ofReg (regDB (o - 0x39000)))
  else if page = 0x3F then .ofReg ((slot (o - 0x3F000) 0 4 64).map (.MB p))
  else .decerr

/-- Decode an offset of the block window (R478). -/
def decodeWindow (b : Build) (p o : Nat) : Target :=
  if o < 0x40000 then decodeSetup b p (o / 4 * 4)
  else if 0x100000 ≤ o ∧ o < 0x101000 then .legacy 0 (o - 0x100000)
  else if 0x110000 ≤ o ∧ o < 0x111000 then .legacy 1 (o - 0x110000)
  else if 0x1000000 ≤ o ∧ o < 0x1800000 then .mem o
  else if 0x2000000 ≤ o ∧ o < 0x2400000 then
    (if (o - 0x2000000) / 0x80000 < 2 ^ b.tilesLog2 then .mem o else .decerr)
  else if 0x3000000 ≤ o ∧ o < 0x3140000 then (if b.can = 0 then .decerr else .mem o)
  else .decerr

end Sys2Proof.Machine
end

