-- ==== Sys2Proof/Machine/Ops.lean ====
section
/-! DEFINITION. The named operations over registers, hidden state, memory, time and responses that every family of
commands uses. -/

namespace Sys2Proof.Machine

/-- The outcome of a command. -/
abbrev Out := Host.Outcome State Fault Refusal

/-- The outcome of a command whose operands name a part: the next state, or the fault for a part that does not exist. -/
def guarded (ok : Bool) (s' : State) : Out := if ok then .next s' else .fault .noSuchPart

/-- The outcome of a register write after the checks of R259: the state, and the cause of a refusal, if any. -/
abbrev WriteRes := State × Option Cause

/-- A write that is refused with cause STATE and changes nothing. -/
def State.stateRefused (s : State) : WriteRes := (s, some .state)

/-- `f` applied in turn to each element of a list. -/
def forEach {α : Type} (l : List α) (f : α → State → State) (s : State) : State := l.foldl (fun s a => f a s) s

/-- `s'` if the condition holds, else the state as it was. -/
def onlyIf (c : Bool) (f : State → State) (s : State) : State := if c then f s else s

/-! ### Registers -/

/-- The value of a register. -/
def State.rd (s : State) (r : Reg) : Word := mget s.regs (regReset r) r

/-- Set a register. -/
def State.wr (s : State) (r : Reg) (v : Word) : State := { s with regs := mset s.regs r v }

/-- A field of a register, as a number. -/
def State.field (s : State) (r : Reg) (lo n : Nat) : Nat := fld (s.rd r) lo n

/-- A bit of a register. -/
def State.flag (s : State) (r : Reg) (i : Nat) : Bool := bit (s.rd r) i

/-- Set a field of a register. -/
def State.setField (s : State) (r : Reg) (lo n v : Nat) : State := s.wr r (setFld (s.rd r) lo n v)

/-- Set a bit of a register. -/
def State.setFlag (s : State) (r : Reg) (i : Nat) (b : Bool) : State := s.wr r (setBit (s.rd r) i b)

/-- Reset every register that the predicate names (R33, R42, R96, R482): its pair is dropped, so it reads its reset
value. -/
def State.resetRegs (s : State) (p : Reg → Bool) : State := { s with regs := s.regs.filter (fun x => !p x.1) }

/-! ### Parts of the build (R3 to R9) -/

/-- The number of tiles. -/
def State.nTiles (s : State) : Nat := 2 ^ s.build.tilesLog2

/-- Tile `t` is in the build. -/
def State.hasTile (s : State) (t : Nat) : Bool := t < s.nTiles

/-- Thread `n` of tile `t` is in the build. -/
def State.hasThread (s : State) (t n : Nat) : Bool := s.hasTile t && (n < 16)

/-- Engine `e` of tile `t` is in the build. -/
def State.hasEngine (s : State) (t e : Nat) : Bool := s.hasTile t && (e < 32)

/-- CAN controller `c` is in the build. -/
def State.hasCan (s : State) (c : Nat) : Bool := c < s.build.can

/-- Every tile of the build. -/
def State.allTiles (s : State) : List Nat := List.range s.nTiles

/-- Every thread of the build. -/
def State.allThreads (s : State) : List (Nat × Nat) :=
  s.allTiles.flatMap (fun t => (List.range 16).map (fun n => (t, n)))

/-! ### State that no register shows -/

/-- A manager side with nothing outstanding. -/
def portMReset : PortM := ⟨[], [], false, false, 7, 255, 0, []⟩
/-- A thread after a reset. -/
def threadReset : Thread := ⟨.none, 0, 0, false, false, false, false, false⟩
/-- The map after tile reset: every entry CLAIM (R74). -/
def claimMap : List (Nat × Nat) := List.replicate 16 (0, 0)
/-- A tile after a reset. -/
def tileReset : Tile := ⟨none, none, claimMap, none, true, [], [], [], [], none, [], none, none⟩
/-- An empty channel. -/
def chanReset : Chan := ⟨none, [], []⟩
/-- A timer channel after a reset. -/
def timerReset : Timer := ⟨0, 0, false, false, 0, [], [], none, false, false, false, false⟩
/-- An engine after a reset. -/
def engineReset : Engine :=
  { shr := 0, c0 := 0, c1 := 0, pinout := 0, pinoe := 0, tx := [], rx := [], acc := 0, tickLen := 0, work := .fresh, npc := 0,
    prog := [], shadow := 0, applied := 0, sample := 0, clkMode := 0, clkIdle := false, clkOut := false, txSeg := 0,
    rxSeg := [], txRd := 0, txWr := 0, rxRd := 0, rxWr := 0, winCount := 0 }
/-- A ring after a reset. -/
def ringReset : Ring := ⟨0, [], 0, false, 0, none, false⟩
/-- A poll after a reset. -/
def pollReset : Poll := ⟨List.replicate 20 0, true, false, 0⟩
/-- A scan group after a reset: IDLE, with no swap state. -/
def groupReset : Group :=
  { checking := false, verdict := 0, latest := 0, pend := 0, half := false, begun := false, frozen := none, scan := none, done := [], late := .none,
    restoring := false, owed := false, stopCopies := false, pubs := 0, pubScan := none, left := [], iSwap := false, qSwap := false }
/-- No package in the shadow bank. -/
def editReset : Edit := ⟨[], none, false⟩

/-- A context as a wake from OFF leaves it (R177, R193). -/
def ctxReset : Ctx :=
  { v := [], vl := 0, sew := 0, vxrm := 0, vsat := false, fcsr := 0, vfidx := 0, vfaddr := 0, vfcause := 0, await := none,
    idleSince := 0, restoring := false, retained := false }

/-- Context `c` of tile `t`. -/
def State.ctx (s : State) (t c : Nat) : Ctx := mget s.ctxs ctxReset (t, c)
/-- Set context `c` of tile `t`. -/
def State.setCtx (s : State) (t c : Nat) (x : Ctx) : State := { s with ctxs := mset s.ctxs (t, c) x }
/-- Power domain `d`. -/
def State.pd (s : State) (d : Nat) : Domain := mget s.pds (resetDomain d) d
/-- Set power domain `d`. -/
def State.setPd (s : State) (d : Nat) (x : Domain) : State := { s with pds := mset s.pds d x }
/-- The manager side of port `p`. -/
def State.port (s : State) (p : Nat) : PortM := mget s.ports portMReset p
/-- Set the manager side of port `p`. -/
def State.setPort (s : State) (p : Nat) (x : PortM) : State := { s with ports := mset s.ports p x }
/-- Tile `t`. -/
def State.tile (s : State) (t : Nat) : Tile := mget s.tiles tileReset t
/-- Set tile `t`. -/
def State.setTile (s : State) (t : Nat) (x : Tile) : State := { s with tiles := mset s.tiles t x }
/-- Thread `n` of tile `t`. -/
def State.thread (s : State) (t n : Nat) : Thread := mget s.threads threadReset (t, n)
/-- Set thread `n` of tile `t`. -/
def State.setThread (s : State) (t n : Nat) (x : Thread) : State := { s with threads := mset s.threads (t, n) x }
/-- A channel. -/
def State.chan (s : State) (c : ChanId) : Chan := mget s.chans chanReset c
/-- Set a channel. -/
def State.setChan (s : State) (c : ChanId) (x : Chan) : State := { s with chans := mset s.chans c x }
/-- Timer channel `n`. -/
def State.timer (s : State) (n : Nat) : Timer := mget s.timers timerReset n
/-- Set timer channel `n`. -/
def State.setTimer (s : State) (n : Nat) (x : Timer) : State := { s with timers := mset s.timers n x }
/-- Engine `e` of tile `t`. -/
def State.engine (s : State) (t e : Nat) : Engine := mget s.engines engineReset (t, e)
/-- Set engine `e` of tile `t`. -/
def State.setEngine (s : State) (t e : Nat) (x : Engine) : State := { s with engines := mset s.engines (t, e) x }
/-- Ring `r` of port `p`. -/
def State.ring (s : State) (p r : Nat) : Ring := mget s.rings ringReset (p, r)
/-- Set ring `r` of port `p`. -/
def State.setRing (s : State) (p r : Nat) (x : Ring) : State := { s with rings := mset s.rings (p, r) x }
/-- Completion queue `q` of port `p`. -/
def State.cq (s : State) (p q : Nat) : Cq := mget s.cqs ⟨0, []⟩ (p, q)
/-- Set completion queue `q` of port `p`. -/
def State.setCq (s : State) (p q : Nat) (x : Cq) : State := { s with cqs := mset s.cqs (p, q) x }
/-- The poll of port `p`. -/
def State.poll (s : State) (p : Nat) : Poll := mget s.polls pollReset p
/-- Set the poll of port `p`. -/
def State.setPoll (s : State) (p : Nat) (x : Poll) : State := { s with polls := mset s.polls p x }
/-- Scan group `g`. -/
def State.group (s : State) (g : Nat) : Group := mget s.groups groupReset g
/-- Set scan group `g`. -/
def State.setGroup (s : State) (g : Nat) (x : Group) : State := { s with groups := mset s.groups g x }
/-- A CAN controller after a reset. -/
def canReset : Can := ⟨false, [], [], [], none, false, false, false, 0, none, [], none⟩
/-- CAN controller `c`. -/
def State.can (s : State) (c : Nat) : Can := mget s.cans canReset c
/-- Set CAN controller `c`. -/
def State.setCan (s : State) (c : Nat) (x : Can) : State := { s with cans := mset s.cans c x }
/-- A link after a reset. -/
def linkReset : Link := ⟨false, false, 0, [], [], 0, 0, false, 0, 0, [], [], [], 0, none, none, (0, 0)⟩
/-- Link `n`. -/
def State.link (s : State) (n : Nat) : Link := mget s.links linkReset n
/-- Set link `n`. -/
def State.setLink (s : State) (n : Nat) (x : Link) : State := { s with links := mset s.links n x }
/-- The package of group `g`. -/
def State.edit (s : State) (g : Nat) : Edit := mget s.edits editReset g
/-- Set the package of group `g`. -/
def State.setEdit (s : State) (g : Nat) (x : Edit) : State := { s with edits := mset s.edits g x }
/-- The SC_OWN entry of Q-view word `i` (R212). -/
def State.ownAt (s : State) (i : Nat) : Byte := mget s.own 0 i
/-- Set an SC_OWN entry. -/
def State.setOwn (s : State) (i : Nat) (b : Byte) : State := { s with own := mset s.own i b }

/-! ### Block state (R54) -/

/-- BLK_STATE.STATE: 0 OFF, 1 BOOT, 2 RUN, 3 TEST, 4 RECOVER, 5 DOZE, 6 SLEEP, 7 HALT. -/
def State.blk (s : State) : Nat := s.field .BLK_STATE 0 4

/-- Enter a block state: PREV takes the state before it. -/
def State.enterBlk (s : State) (n : Nat) : State := (s.setField .BLK_STATE 4 4 s.blk).setField .BLK_STATE 0 4 n

/-- The protection lock is open: BOOT, and BLK_BOOTDONE not written (R13, R62). -/
def State.lockOpen (s : State) : Bool := s.blk == 1 && !s.flag .BLK_BOOTDONE 0

/-! ### Time (R349) -/

/-- The timebase, in units of 625 ps. -/
def State.now (s : State) : Nat := (s.rd .TB_HI).toNat * 2 ^ 32 + (s.rd .TB_LO).toNat

/-- Set the timebase, modulo 2^64. -/
def State.setNow (s : State) (t : Nat) : State := (s.wr .TB_LO (word t)).wr .TB_HI (word (t / 2 ^ 32))

/-- TMRCLK is stopped: no divided clock runs, or the block is in HALT (R367, R476). -/
def State.tmrStopped (s : State) : Bool := !s.clk.running || s.blk == 7

/-- What one edge of the clock that the timebase counts from adds: 8 for TMRCLK, 1600 for LFCLK (R349). -/
def State.tbUnit (s : State) : Nat := if s.tmrStopped then 1600 else 8

/-- The timebase counts from LFCLK from the first LFCLK edge after the last TMRCLK edge (R349). -/
def State.lfCounting (s : State) : State := if s.tmrStopped then s.setFlag .TB_STAT 0 true else s

/-- The divided clocks run: the timebase counts from TMRCLK, rounded up to a multiple of 40 where it counted from LFCLK
(R29, R200). -/
def State.tmrCounting (s : State) : State :=
  if s.flag .TB_STAT 0 then (s.setNow (ceilDiv s.now 40 * 40)).setFlag .TB_STAT 0 false else s

/-- The timebase stands at or beyond `t`: a command that happens at an instant which the spec fixes lets the edges pass
that take the timebase there (R349, log entry 4). -/
def State.reach (s : State) (t : Nat) : State :=
  if s.now < t then s.setNow (s.now + ceilDiv (t - s.now) s.tbUnit * s.tbUnit) else s

/-- One passing clock edge with nothing commanded: +8 per TMRCLK edge, +1600 per LFCLK edge while TMRCLK is stopped; the
common edge after the clocks have started again rounds the count up (R200, R349). -/
def State.idleEdge (s : State) : State :=
  if s.clk.porst then s
  else if s.tmrStopped then (s.setNow (s.now + 1600)).lfCounting
  else if s.flag .TB_STAT 0 then s.tmrCounting
  else s.setNow (s.now + 8)

/-! ### Free values -/

/-- A word that the spec leaves open, and the counter moved on. -/
def State.freshWord (s : State) : Word × State := (Config.freeWord s.freeCtr, { s with freeCtr := s.freeCtr + 1 })

/-! ### Memory (R240, R478) -/

/-- Base of shared memory in the block window. -/
def smBase : Nat := 0x1000000
/-- Base of the scratchpad of tile `t` in the block window. -/
def spBase (t : Nat) : Nat := 0x2000000 + 0x80000 * t
/-- Base of the CAN object RAM in the block window. -/
def canBase : Nat := 0x3000000

/-- The byte at an address: 0 where none is listed (R66). -/
def memGet : List Host.Cell → Nat → Byte
  | [], _ => 0
  | (a', b) :: m, a => if a' = a then b else if a < a' then 0 else memGet m a

/-- Write a byte, keeping the addresses rising and no 0 listed. -/
def memSet : List Host.Cell → Nat → Byte → List Host.Cell
  | [], a, b => if b = 0 then [] else [(a, b)]
  | (a', b') :: m, a, b =>
    if a < a' then (if b = 0 then (a', b') :: m else (a, b) :: (a', b') :: m)
    else if a = a' then (if b = 0 then m else (a, b) :: m)
    else (a', b') :: memSet m a b

/-- The canonical form: addresses strictly rising, no byte 0 listed. -/
def Memory.wf : List Host.Cell → Bool
  | [] => true
  | [(_, b)] => b != 0
  | (a, b) :: (a', b') :: m => decide (a < a') && (b != 0) && Memory.wf ((a', b') :: m)

/-- Drop every byte of a range, so that it reads 0. -/
def memClear (m : List Host.Cell) (lo n : Nat) : List Host.Cell := m.filter (fun c => c.1 < lo || lo + n ≤ c.1)

/-- Read `n` bytes. -/
def memBytes (m : List Host.Cell) (a : Nat) : Nat → List Byte
  | 0 => []
  | n + 1 => memGet m a :: memBytes m (a + 1) n

/-- Write bytes at consecutive addresses. -/
def memPut (m : List Host.Cell) (a : Nat) : List Byte → List Host.Cell
  | [] => m
  | b :: bs => memPut (memSet m a b) (a + 1) bs

/-- Read a little-endian number of `n` bytes. -/
def memNum (m : List Host.Cell) (a n : Nat) : Nat := ofLeBytes (memBytes m a n)

/-- The word at a block-window offset. -/
def State.memWord (s : State) (a : Nat) : Word := word (memNum s.mem a 4)

/-- Write a little-endian number of `n` bytes at a block-window offset. -/
def State.putNum (s : State) (a n v : Nat) : State := { s with mem := memPut s.mem a (leBytes n v) }

/-- Write a word at a block-window offset. -/
def State.putWord (s : State) (a : Nat) (v : Word) : State := s.putNum a 4 v.toNat

/-! ### Responses (R257, R259, R260) -/

/-- The code of a refusal cause (R260). -/
def Cause.code : Cause → Nat
  | .locked => 0x01 | .notready => 0x02 | .ecc => 0x03 | .secure => 0x04 | .rights => 0x05 | .bound => 0x06
  | .semaphore => 0x07 | .state => 0x08 | .tz2off => 0x09 | .view => 0x0A | .partialStrobe => 0x0B

/-- The response of port `p` (2: DBGACC). -/
def State.respond (s : State) (p : Nat) (c : RespCode) (d : Option DWord) : State :=
  { s with resp := mset s.resp p ⟨c, d⟩ }

/-- Record a refusal of port `p` in HP_REFSTAT and HP_REFADDR, or set MULTI (R275). -/
def State.recordRefusal (s : State) (p addr : Nat) (write : Bool) (c : Cause) : State :=
  if s.flag (.HP_REFSTAT p) 31 then s.setFlag (.HP_REFSTAT p) 30 true
  else ((s.setField (.HP_REFSTAT p) 0 8 c.code).setFlag (.HP_REFSTAT p) 31 true).wr (.HP_REFADDR p)
    (word (addr / 8 % 2 ^ 23 * 8 + write.toNat * 4))

/-- REFUSED with a cause (R259, R275). -/
def State.refuse (s : State) (p addr : Nat) (write : Bool) (c : Cause) : State :=
  (s.recordRefusal p addr write c).respond p .refused (some (BitVec.ofNat 64 c.code))

/-- DECERR, which is not recorded (R259, R275). -/
def State.decErr (s : State) (p : Nat) : State := s.respond p .decerr (some 0)

end Sys2Proof.Machine
end

