-- ==== Sys2Proof/Machine/Aperture.lean ====
section
/-! DEFINITION. Aperture: the queue of requests, the grants held and the budget (R438 to R444). -/

namespace Sys2Proof.Machine

/-- The class of a request (R440). -/
def ApUser.cls : ApUser → Nat
  | .lvuWake _ _ | .tile _ | .bank _ | .can => 0
  | .engGroup _ | .burst _ | .link _ | .rsv _ => 1
  | .thread _ _ => 2

/-- The effective budget B (R439). -/
def State.apBudget (s : State) : Nat := min s.budget (s.field .AP_CFG 0 10)

/-- The grains in use, U (R439). -/
def State.apUse (s : State) : Nat := (s.apHeld.map (·.2)).sum

/-- The user holds a grant. -/
def State.apHolds (s : State) (u : ApUser) : Bool := s.apHeld.any (fun x => x.1 = u)

/-- The user has a request that waits. -/
def State.apWaits (s : State) (u : ApUser) : Bool := s.apWait.any (fun c => c.user = u)

/-- AP_STAT.OVERSEEN sets while U is above B (R442). -/
def State.apOver (s : State) : State := if s.apBudget < s.apUse then s.setFlag .AP_STAT 30 true else s

/-- Enter a request; every user holds at most one request or grant (R440). -/
def State.apRequest (s : State) (u : ApUser) (g : Nat) : State :=
  if s.apHolds u || s.apWaits u then s else { s with apWait := s.apWait ++ [⟨u, g⟩] }

/-- Give back the grains of a user, or withdraw its request (R438). -/
def State.apRelease (s : State) (u : ApUser) : State :=
  { s with apHeld := s.apHeld.filter (fun x => x.1 ≠ u), apWait := s.apWait.filter (fun c => c.user ≠ u) }

/-- Record a grant. -/
def State.apGrant (s : State) (c : Claim) : State :=
  { s with apHeld := s.apHeld ++ [(c.user, c.grains)], apWait := s.apWait.filter (fun x => x.user ≠ c.user) }

/-- The waiting requests in the order of R440: by class, then by arrival. -/
def State.apOrder (s : State) : List Claim :=
  s.apWait.filter (fun c => c.user.cls = 0) ++ s.apWait.filter (fun c => c.user.cls = 1)
    ++ s.apWait.filter (fun c => c.user.cls = 2)

/-- A request above B is passed over (R440). -/
def State.apExceeds (s : State) : Bool := s.apOrder.any (fun c => s.apBudget < c.grains)

/-- The request that Aperture grants next: the first that does not exceed B, if it fits (R439, R440, R442). -/
def State.apNext (s : State) : Option Claim :=
  match s.apOrder.find? (fun c => c.grains ≤ s.apBudget) with
  | some c => if s.apUse + c.grains ≤ s.apBudget then some c else none
  | none => none

end Sys2Proof.Machine
end

