-- ==== Sys2Proof/Machine/Grid.lean ====
section
/-! DEFINITION. The grid of a scan group: its freezes, releases and commits as timebase values (R199, R201). -/

namespace Sys2Proof.Machine

/-- PERIOD, OFFSET, PHASE and FREEZELAT in timebase units. -/
def State.gPeriod (s : State) (g : Nat) : Nat := 40 * s.field (.SC_PERIOD g) 0 29
/-- Commit offset in timebase units. -/
def State.gOffset (s : State) (g : Nat) : Nat := 40 * s.field (.SC_OFFSET g) 0 29
/-- T_k. -/
def State.freezeAt (s : State) (g k : Nat) : Nat := k * s.gPeriod g + 40 * s.field (.SC_PHASE g) 0 29
/-- C_k. -/
def State.commitAt (s : State) (g k : Nat) : Nat := s.freezeAt g k + s.gOffset g
/-- Release k. -/
def State.releaseAt (s : State) (g k : Nat) : Nat := s.freezeAt g k + 40 * s.field (.SC_FREEZELAT g) 0 16

/-- The number of the first instant of a grid with the given origin and period at or after `t`. -/
def gridFrom (origin period t : Nat) : Nat := if period = 0 then 0 else ceilDiv (t - origin) period

/-- The first freeze at or after `t`. -/
def State.freezeFrom (s : State) (g t : Nat) : Nat := gridFrom (s.freezeAt g 0) (s.gPeriod g) t
/-- The first commit at or after `t`. -/
def State.commitFrom (s : State) (g t : Nat) : Nat := gridFrom (s.commitAt g 0) (s.gPeriod g) t
/-- The first release at or after `t`. -/
def State.releaseFrom (s : State) (g t : Nat) : Nat := gridFrom (s.releaseAt g 0) (s.gPeriod g) t

/-- The first instant of the group's grid after `t`: a freeze, a release or a commit (R199, R201). -/
def State.instantAfter (s : State) (g t : Nat) : Nat :=
  min (s.freezeAt g (s.freezeFrom g (t + 1)))
    (min (s.releaseAt g (s.releaseFrom g (t + 1))) (s.commitAt g (s.commitFrom g (t + 1))))

/-- The number of the next freeze that has not been taken or passed. -/
def State.nextFreeze (s : State) (g : Nat) : Nat := s.freezeFrom g (s.group g).pend
/-- The number of the next commit instant that has not been evaluated or passed. -/
def State.nextCommit (s : State) (g : Nat) : Nat := s.commitFrom g ((s.group g).pend + (s.group g).half.toNat)
/-- The number of the next release that has not been passed. -/
def State.nextRelease (s : State) (g : Nat) : Nat := s.releaseFrom g (s.group g).pend

/-- The pending instant is a freeze. -/
def State.freezeDue (s : State) (g : Nat) : Bool := s.freezeAt g (s.nextFreeze g) == (s.group g).pend
/-- The pending instant is a commit that has not been evaluated. -/
def State.commitDue (s : State) (g : Nat) : Bool := !(s.group g).half && s.commitAt g (s.nextCommit g) == (s.group g).pend
/-- The pending instant is a release. -/
def State.releaseDue (s : State) (g : Nat) : Bool := s.releaseAt g (s.nextRelease g) == (s.group g).pend

end Sys2Proof.Machine
end

