-- ==== Sys2Proof/Machine/Manager.lean ====
section
/-! DEFINITION. The manager side of a host port: requests, their bursts and identifiers, who is granted next, the limits of
burst mode, and the messages that the block writes into host memory (R268 to R272, R289, R303). -/

namespace Sys2Proof.Machine

/-! ### Bursts (R268) -/

/-- Beats of 32 bytes that `n` bytes from address `a` on take. -/
def beatsOf (a n : Nat) : Nat := ceilDiv (a % 32 + n) 32

/-- Beats of a transaction. -/
def Txn.beats (x : Txn) : Nat := beatsOf x.addr x.len
/-- HPx_M_REQ_ADDR. -/
def Txn.reqAddr (x : Txn) : Nat := x.addr / 32 * 32
/-- HPx_M_REQ_LEN: 0 stands for 16 beats. -/
def Txn.lenCode (x : Txn) : Nat := x.beats % 16
/-- WDATA beat `j` of a write: its 32 bytes, `none` where the strobe is 0. -/
def Txn.wdata (x : Txn) (j : Nat) : List (Option Byte) :=
  (List.range 32).map (fun i =>
    let a := x.reqAddr + 32 * j + i
    if x.addr ≤ a ∧ a < x.addr + x.len then x.data[a - x.addr]? else none)

/-- The bytes of a request that its first burst takes: within one aligned 512-byte block and at most `mx` beats. -/
def burstLen (mx a n : Nat) : Nat := min n (min (512 - a % 512) (mx * 32 - a % 32))

/-! ### Limits and identifiers (R269, R271, R476) -/

/-- Burst mode is in force on port `p` (R271). -/
def State.burstOn (s : State) (p : Nat) : Bool := s.flag (.HP_CTL p) 1

/-- The most beats in a burst (R271). -/
def State.maxBeats (s : State) (p : Nat) : Nat := if s.burstOn p then 16 else 4

/-- The most transactions of a direction outstanding (R271). -/
def State.maxOut (s : State) (p : Nat) (write : Bool) : Nat :=
  if s.burstOn p then (if write then 32 else 64) else 16

/-- The outstanding transactions of a direction. -/
def State.mgrOut (s : State) (p : Nat) (write : Bool) : List Txn :=
  (s.port p).out.filter (fun x => x.write == write && x.answer.isNone)

/-- Nothing that the block has issued on its manager sides is outstanding. -/
def State.managersIdle (s : State) : Bool := [0, 1].all (fun p => (s.mgrOut p true).isEmpty && (s.mgrOut p false).isEmpty)

/-- The lowest identifier without an outstanding transaction of the direction (R269). -/
def freeId (out : List Txn) (write : Bool) : Option Nat :=
  (List.range 64).find? (fun i => !out.any (fun x => x.id == i && x.write == write && x.answer.isNone))

/-- The manager sides issue: not while the block drains for a halt, nor in HALT (R476). -/
def State.mgrRuns (s : State) : Bool := !s.flag .DB_BLK 3 && s.field .BLK_STATE 0 4 != 7

/-! ### Who is granted (R136, R272, R303) -/

/-- The tile whose host-window access a transaction is. -/
def TxnUse.tile : TxnUse → Option Nat
  | .store t => some t
  | .threadStore t _ => some t
  | _ => none

/-- The ring whose transfer a transaction is; 256 and 257 stand for messages and update reads, which no ring makes. -/
def TxnUse.ring : TxnUse → Nat
  | .fetch r => r
  | .ringData r => r
  | .word7 r => r
  | .entry _ r => r
  | .message (some r) => r
  | .dropped r => r
  | .update => 257
  | _ => 256

/-- The stream of requests that a transaction belongs to: the requests of one direction in a stream keep their order. -/
def TxnUse.stream : TxnUse → Nat
  | .store t => t
  | .threadStore t _ => t
  | .summary => 8
  | .doorbells _ _ => 9
  | u => 16 + u.ring

/-- Whether the ring is enabled, and its type (R282). -/
def State.rgOn (s : State) (p r : Nat) : Bool := s.flag (.RG_CFG p r) 31
/-- The ring's type (R282). -/
def State.rgType (s : State) (p r : Nat) : Nat := s.field (.RG_CFG p r) 24 3
/-- Its scan group. -/
def State.rgGroup (s : State) (p r : Nat) : Nat := s.field (.RG_CFG p r) 0 3
/-- An enabled IMG ring. -/
def State.imgRing (s : State) (p r : Nat) : Bool := decide (r < 256) && s.rgOn p r && decide (s.rgType p r < 2)

/-- The rings of a port that were ever configured. -/
def State.ringList (s : State) (p : Nat) : List Nat :=
  s.regs.filterMap (fun x => match x.1 with | .RG_CFG p' r => if p' = p then some r else none | _ => none)

/-- S of R303: the sum of SHARE over the port's enabled IMG rings. -/
def State.imgShare (s : State) (p : Nat) : Nat :=
  (((s.ringList p).filter (fun r => s.imgRing p r)).map (fun r => s.field (.RG_FLOW p r) 8 8)).sum

/-- The deadline of an IMG ring, as a timebase value: the freeze that an IMG_IN descriptor must precede, or the next commit
for IMG_OUT (R297, R299, R303). -/
def State.ringDeadline (s : State) (p r : Nat) : Nat :=
  let g := s.rgGroup p r
  if s.rgType p r = 0 then
    s.freezeAt g (max (s.nextFreeze g) (((s.ring p r).pref.head?.bind (fun d => d.deadline)).getD 0))
  else s.commitAt g (s.nextCommit g)

/-- The place in a tile's store buffer of the oldest entry whose write to port `p` waits to be issued. -/
def State.sbWaits (s : State) (t p : Nat) : Option Nat :=
  let w := ((s.port p).wait.filter (fun x => x.use == .store t)).length
  let sb := (s.tile t).sb
  let ps := (List.range sb.length).filter (fun i => (sb[i]?.map (·.port)) == some p)
  if w = 0 then none else ps[ps.length - w]?

/-- The store buffer of a tile sends its entries in order over both ports (R136). -/
def State.storeTurn (s : State) (t p : Nat) : Bool :=
  match s.sbWaits t p, s.sbWaits t (1 - p) with
  | some i, some j => decide (i < j)
  | _, _ => true

/-- Request `i` of those that wait may be issued now: a place and an identifier are free, and nothing goes before it. -/
def State.mayIssueTxn (s : State) (p i : Nat) (x : Txn) : Bool :=
  decide ((s.mgrOut p x.write).length < s.maxOut p x.write) && (freeId (s.port p).out x.write).isSome
    && ((s.port p).wait.take i).all (fun y =>
      !(y.use.stream == x.use.stream && y.write == x.write)
        && !(match x.use, y.use with | .entry q _, .entry q' _ => q == q' | _, _ => false))
    && (match x.use with | .store t => s.storeTurn t p | _ => true)

/-- The waiting requests that may be issued now, by their place in the queue, with what they are for. -/
def State.mgrReady (s : State) (p : Nat) : List (Nat × TxnUse) :=
  let w := (s.port p).wait
  (List.range w.length).filterMap (fun i => w[i]?.bind (fun x => if s.mayIssueTxn p i x then some (i, x.use) else none))

/-- The thread access granted next: round-robin by tile (R272). -/
def State.threadPick (s : State) (p : Nat) (xs : List (Nat × TxnUse)) : Option (Nat × Nat) :=
  (List.range 8).findSome? (fun k =>
    let t := ((s.port p).tileRr + 1 + k) % 8
    (xs.find? (fun x => x.2.tile == some t)).map (fun x => (x.1, t)))

/-- Of the requests of IMG rings, the one with the earliest deadline, ties to the lowest ring number. -/
def State.imgPick (s : State) (p : Nat) (xs : List (Nat × TxnUse)) : Option (Nat × TxnUse) :=
  xs.foldl (fun a x => match a with
    | none => some x
    | some y =>
      let dx := s.ringDeadline p x.2.ring
      let dy := s.ringDeadline p y.2.ring
      if dx < dy ∨ (dx = dy ∧ x.2.ring < y.2.ring) then some x else some y) none

/-- The ring traffic granted next (R303), with the round-robin grant after it. -/
def State.ringPick (s : State) (p : Nat) (xs : List (Nat × TxnUse)) : Option (Nat × Nat × Nat) :=
  let m := s.port p
  let xs := xs.filter (fun x => x.2.tile.isNone)
  match xs.find? (fun x => x.2.stream == 8), xs.find? (fun x => x.2.stream == 9) with
  | some x, _ => some (x.1, m.ringRr, m.ringLeft)
  | none, some x => some (x.1, m.ringRr, m.ringLeft)
  | none, none =>
    let img := s.imgPick p (xs.filter (fun x => s.imgRing p x.2.ring))
    let used := (m.hist.filter id).length
    match (if used < s.imgShare p then img else none) with
    | some x => some (x.1, m.ringRr, m.ringLeft)
    | none =>
      let first := fun (r : Nat) => xs.find? (fun x => x.2.ring == r)
      match (if 0 < m.ringLeft then first m.ringRr else none) with
      | some x => some (x.1, m.ringRr, m.ringLeft - 1)
      | none =>
        (List.range 258).findSome? (fun k =>
          let r := (m.ringRr + 1 + k) % 258
          (first r).map (fun x => (x.1, r, s.field (.RG_FLOW p r) 0 4 - 1)))

/-! ### Issue (R268 to R272) -/

/-- Issue the first burst of waiting request `i`; the rest of the request keeps its place. -/
def State.issueBurst (s : State) (p i : Nat) : State :=
  let m := s.port p
  match m.wait[i]? with
  | none => s
  | some x =>
    match freeId m.out x.write with
    | none => s
    | some n =>
      let c := burstLen (s.maxBeats p) x.addr x.len
      s.setPort p { m with
        out := m.out ++ [{ x with id := n, len := c, data := x.data.take c }]
        wait := if x.len ≤ c then m.wait.eraseIdx i
          else m.wait.set i { x with addr := x.addr + c, len := x.len - c, data := x.data.drop c } }

/-- One REQ transfer of port `p`: thread accesses and ring traffic take turns whenever both wait (R272). -/
def State.mgrGrant (s : State) (p : Nat) : Option State :=
  if !s.mgrRuns then none
  else
    let xs := s.mgrReady p
    let thread := fun (q : Nat × Nat) => let s := s.issueBurst p q.1
      s.setPort p { s.port p with lastThread := true, tileRr := q.2 }
    let ring := fun (q : Nat × Nat × Nat) =>
      let img := ((s.port p).wait[q.1]?.map (fun x => s.imgRing p x.use.ring)).getD false
      let s := s.issueBurst p q.1
      s.setPort p { s.port p with lastThread := false, ringRr := q.2.1, ringLeft := q.2.2, hist := (img :: (s.port p).hist).take 256 }
    match s.threadPick p xs, s.ringPick p xs with
    | none, none => none
    | some q, none => some (thread q)
    | none, some q => some (ring q)
    | some q, some q' => some (if (s.port p).lastThread then ring q' else thread q)

/-- Both ports issue what may be issued. A port has at most 96 transactions outstanding, so 192 grants are all of them. -/
def State.mgrIssueN : Nat → State → State
  | 0, s => s
  | k + 1, s =>
    match s.mgrGrant 0 with
    | some u => State.mgrIssueN k u
    | none => match s.mgrGrant 1 with
      | some u => State.mgrIssueN k u
      | none => s

/-- Both ports issue what may be issued. -/
def State.mgrIssue (s : State) : State := State.mgrIssueN 192 s

/-- Queue a request and issue what may be issued. -/
def State.mgrQueue (s : State) (p : Nat) (x : Txn) : State :=
  (s.setPort p { s.port p with wait := (s.port p).wait ++ [x] }).mgrIssue

/-- A read of `n` bytes. -/
def State.mgrRead (s : State) (p a n : Nat) (u : TxnUse) : State := s.mgrQueue p ⟨false, 0, a, n, [], u, none⟩

/-- A write. -/
def State.mgrWrite (s : State) (p a : Nat) (d : List Byte) (u : TxnUse) : State :=
  s.mgrQueue p ⟨true, 0, a, d.length, d, u, none⟩

/-! ### Responses (R269, R271) -/

/-- A transaction above the lower limits of R271 is outstanding. -/
def State.aboveLimits (s : State) (p : Nat) : Bool :=
  (s.mgrOut p true ++ s.mgrOut p false).any (fun x => 4 < x.beats)
    || decide (16 < (s.mgrOut p true).length) || decide (16 < (s.mgrOut p false).length)

/-- Release the burst-mode grains once nothing above the lower limits is outstanding (R271). -/
def State.burstDrain (s : State) (p : Nat) : State :=
  if (s.port p).leaving && !s.aboveLimits p then
    (s.setPort p { s.port p with leaving := false }).apRelease (.burst p)
  else s

/-- The outstanding transaction with an identifier and a direction. -/
def State.mgrFind (s : State) (p id : Nat) (write : Bool) : Option Txn :=
  (s.mgrOut p write).find? (fun x => x.id == id)

/-- Transactions have completed: waiting ones are issued, and a burst-mode grant that is no longer used goes back. -/
def State.mgrSettle (s : State) (p : Nat) : State := s.mgrIssue.burstDrain p

/-- A transaction completes: its identifier is free (R269). -/
def State.mgrDone (s : State) (p id : Nat) (write : Bool) : State :=
  let m := s.port p
  (s.setPort p { m with out := m.out.filter (fun x => !(x.id == id && x.write == write && x.answer.isNone)) }).mgrSettle p

/-- A read is answered, and its data wait to be used: its identifier is free (R269). -/
def State.mgrAnswer (s : State) (p id : Nat) (err : Bool) : State :=
  let m := s.port p
  (s.setPort p { m with out := m.out.map (fun x =>
    if x.id == id && !x.write && x.answer.isNone then { x with answer := some err } else x) }).mgrSettle p

/-- Bytes that issued reads for a use are still to bring. -/
def State.readIssued (s : State) (p : Nat) (u : TxnUse) : Nat :=
  (((s.port p).out.filter (fun x => !x.write && x.use == u)).map (·.len)).sum

/-- The oldest issued read for a use. -/
def State.readHead (s : State) (p : Nat) (u : TxnUse) : Option Txn := (s.port p).out.find? (fun x => !x.write && x.use == u)

/-- The oldest issued read for a use has received ERR. -/
def State.readFailed (s : State) (p : Nat) (u : TxnUse) : Bool := (s.readHead p u).any (fun x => x.answer == some true)

/-- Of the reads for a use, the oldest `n` bytes are there: bursts that they cover are complete. -/
def takeReads (u : TxnUse) : Nat → List Txn → List Txn
  | _, [] => []
  | n, x :: xs =>
    if x.write || x.use != u || n = 0 then x :: takeReads u n xs
    else if x.len ≤ n then takeReads u (n - x.len) xs
    else { x with addr := x.addr + n, len := x.len - n } :: xs

/-- The oldest `n` bytes of the issued reads for a use have arrived. -/
def State.mgrTake (s : State) (p : Nat) (u : TxnUse) (n : Nat) : State :=
  (s.setPort p { s.port p with out := takeReads u n (s.port p).out }).mgrSettle p

/-- Nobody waits for the oldest `n` bytes of a ring's reads for a use any more: a burst that is outstanding keeps its
identifier until its response, and one that has been answered goes. -/
def dropReads (u : TxnUse) (r : Nat) : Nat → List Txn → Nat × List Txn
  | n, [] => (n, [])
  | n, x :: xs =>
    if x.write || x.use != u || n = 0 then let q := dropReads u r n xs; (q.1, x :: q.2)
    else let q := dropReads u r (n - x.len) xs; (q.1, if x.answer.isSome then q.2 else { x with use := .dropped r } :: q.2)

/-- The oldest `n` bytes of a ring's reads for a use are given up, those not yet issued too. -/
def State.mgrDrop (s : State) (p r : Nat) (u : TxnUse) (n : Nat) : State :=
  let m := s.port p
  let q := dropReads u r n m.out
  (s.setPort p { m with out := q.2, wait := (dropReads u r q.1 m.wait).2.filter (fun x => x.use != .dropped r) }).mgrSettle p

/-- Every read for a use is complete. -/
def State.mgrReadsDone (s : State) (p : Nat) (u : TxnUse) : State :=
  let m := s.port p
  let keep := fun (x : Txn) => x.write || x.use != u
  (s.setPort p { m with out := m.out.filter keep, wait := m.wait.filter keep }).mgrSettle p

/-- A message interrupt of a ring's queue or of no ring: `data` is written to a host address, unless the vector is masked,
when PEND sets (R289, R435). `ctl` holds MASK in bit 0 and PEND in bit 1. -/
def State.sendMessage (s : State) (p : Nat) (ring : Option Nat) (lo hi data ctl : Reg) : State :=
  if s.flag ctl 0 then s.setFlag ctl 1 true
  else s.mgrWrite p ((s.rd hi).toNat * 2 ^ 32 + (s.rd lo).toNat) (leBytes 4 (s.rd data).toNat) (.message ring)

end Sys2Proof.Machine
end

