-- ==== Sys2Proof/Machine/Gauze.lean ====
section
/-! DEFINITION. Gauze: source levels, channels, firings and task inputs (R333 to R346), and the event inputs of threads
(R90). -/

namespace Sys2Proof.Machine

/-- Set EVIN[b] of a thread (R90). -/
def State.setEvent (s : State) (t n b : Nat) : State :=
  if s.hasThread t n then s.setFlag (.TH_EVPEND t n) b true else s

/-- Set EVIN[b] of every thread of the block. -/
def State.allEvents (s : State) (b : Nat) : State := forEach s.allThreads (fun x s => s.setEvent x.1 x.2 b) s

/-- The tile a source belongs to, for sources of tiles and engines (R333). -/
def sourceTile (n : Nat) : Option Nat :=
  if 144 ≤ n ∧ n < 400 then some ((n - 144) / 32) else if 472 ≤ n ∧ n < 504 then some ((n - 472) / 4) else none

/-- The pin that pin source `p` selects (R333). -/
def State.pinSel (s : State) (p : Nat) : Nat := s.field (.GZ_PINSEL (p / 2)) (16 * (p % 2)) 9

/-- The level of a field pin: the block ignores FIO_IN above the build's range (R5). -/
def State.fioLevel (s : State) (k : Nat) : Bool := decide (k < 64 * s.nTiles) && bit s.fioIn k

/-- The level of a source: constants, absent parts, pins, or the latch; under PORST_N every latch is held low (R333,
R334). -/
def State.srcLevel (s : State) (n : Nat) : Bool :=
  if s.clk.porst then false
  else if n < 128 then s.fioLevel (s.pinSel n)
  else if n < 144 then bit s.finPin (n - 128)
  else if n = 509 ∨ n = 510 then false
  else if n = 511 then true
  else match sourceTile n with
    | some t => s.hasTile t && bit s.gz.src n
    | none => bit s.gz.src n

/-- The level that a selector value names (R335). -/
def State.selLevel (s : State) (out : BitVec 128) (v : Nat) : Bool :=
  if v < 512 then s.srcLevel v else if v < 640 then bit out (v - 512) else false

/-- The output of channel `c` under R335, before the hold of R336. -/
def State.chanRaw (s : State) (out : BitVec 128) (c : Nat) : Bool :=
  let w := s.rd (.GZ_CH c)
  bit w 31 && (s.selLevel out (fld w 0 10) ^^ bit w 30)
    && (!bit w 28 || (s.selLevel out (fld w 16 10) ^^ bit w 29))

/-- The channels that have ever been configured: every other channel is disabled. -/
def State.gzChans (s : State) : List Nat :=
  s.regs.filterMap (fun x => match x.1 with | .GZ_CH c => if c < 128 then some c else none | _ => none)

/-- One pass over the channels: outputs, with held channels at 0 until their output has been 0 (R336). -/
def State.gzPass (s : State) (out hold : BitVec 128) : BitVec 128 × BitVec 128 :=
  s.gzChans.foldl (fun oh c =>
    let raw := s.chanRaw oh.1 c
    if bit oh.2 c then (setBit oh.1 c false, setBit oh.2 c raw) else (setBit oh.1 c raw, oh.2)) (out, hold)

/-- The settled outputs: the graph has no cycle (R344), so one pass per channel is enough. -/
def State.gzSettle (s : State) : Nat → BitVec 128 × BitVec 128 → BitVec 128 × BitVec 128
  | 0, oh => oh
  | k + 1, oh => let oh' := s.gzPass oh.1 oh.2; if oh' = oh then oh else State.gzSettle s k oh'

/-- A task input of an absent tile or engine behaves as reserved (R339). -/
def State.taskPresent (s : State) (i : Nat) : Bool :=
  if i < 512 then s.hasTile (i / 64)
  else if i < 768 then s.hasTile ((i - 512) / 32)
  else if i < 1024 then s.hasTile ((i - 768) / 32)
  else decide (i < 1258)

/-- The thread target of a thread task input (R342): enable, thread, EVIN bit. -/
def State.taskTarget (s : State) (i : Nat) : Bool × Nat × Nat :=
  let v := s.field (.GZ_TTGT (i / 4)) (8 * (i % 4)) 8
  (decide (128 ≤ v), v / 8 % 16, v % 8)

/-- A firing enters task input `i` (R340, R342): an override input sets the engine's latch, any other counts up to 3. -/
def State.enterTask (s : State) (i : Nat) : State :=
  if !s.taskPresent i then s
  else if i < 512 ∧ (s.taskTarget i).1 = false then s
  else if 768 ≤ i ∧ i < 1024 then
    (if s.clk.porst || s.clk.sysrst then s else s.setFlag (.FE_STAT ((i - 768) / 32) ((i - 768) % 32)) 8 true)
  else
    let n := mget s.gz.cnt 0 i
    if n < 3 then { s with gz := { s.gz with cnt := mset s.gz.cnt i (n + 1) } }
    else s.setFlag (.GZ_TOVF (i / 32)) (i % 32) true

/-- The task inputs whose enabled selectors name channel `c`, one entry for each selector (R340). -/
def State.tasksOf (s : State) (c : Nat) : List Nat :=
  s.regs.flatMap (fun x => match x.1 with
    | .GZ_TASK i =>
      (if fld x.2 0 8 = 128 + c then [2 * i] else []) ++ (if fld x.2 8 8 = 128 + c then [2 * i] else [])
        ++ (if fld x.2 16 8 = 128 + c then [2 * i + 1] else []) ++ (if fld x.2 24 8 = 128 + c then [2 * i + 1] else [])
    | _ => [])

/-- Channel `c` fires (R335, R337, R340), or is disabled by the storm detector on the firing that exceeds LIM (R346).
The Bool tells of a storm. The count of a channel that the detector disabled stands at 2^16 + 1, above every LIM, and
starts again at the next window. -/
def State.fireChannel (s : State) (c : Nat) : State × Bool :=
  let k := mget s.gz.fires 0 c
  let n := satAdd (2 ^ 16) k 1
  let s := s.setFlag (.GZ_CHFLAG (c / 32)) (c % 32) true
  let lim := s.field .GZ_STORMCFG 16 16
  if lim ≠ 0 ∧ lim < n ∧ k ≤ 2 ^ 16 then
    ((({ s with gz := { s.gz with fires := mset s.gz.fires c (2 ^ 16 + 1) } } : State).setFlag (.GZ_CH c) 31 false).setFlag
      (.GZ_CHSTORM (c / 32)) (c % 32) true, true)
  else
    let s := if k ≤ 2 ^ 16 then { s with gz := { s.gz with fires := mset s.gz.fires c n } } else s
    (forEach (s.tasksOf c) (fun i s => s.enterTask i) s, false)

/-- Settle the channels and deliver the firings of those that rose; a storm disables a channel, so the outputs settle
again. -/
def State.gzRun : Nat → State → State × Bool
  | 0, s => (s, false)
  | k + 1, s =>
    let oh := s.gzSettle 129 (s.gz.out, s.gz.hold)
    let rose := s.gzChans.filter (fun c => bit oh.1 c && !bit s.gz.out c)
    let s := { s with gz := { s.gz with out := oh.1, hold := oh.2 } }
    let r := rose.foldl (fun (x : State × Bool) c => let y := x.1.fireChannel c; (y.1, x.2 || y.2)) (s, false)
    if r.2 then ((State.gzRun k r.1).1, true) else r

/-- Sources of the block's own change to one level together (R334). While PORST_N holds the AO domain, no latch takes
anything. -/
def State.gzEdges (s : State) (l : List Nat) (v : Bool) : State × Bool :=
  if s.clk.porst then (s, false)
  else State.gzRun 130 { s with gz := { s.gz with src := l.foldl (fun x n => setBit x n v) s.gz.src } }

/-- A source of the block's own changes its level. -/
def State.gzEdge (s : State) (n : Nat) (v : Bool) : State × Bool := s.gzEdges [n] v

/-- Sources pulse together: their latches rise and fall (R333, R334). -/
def State.gzPulses (s : State) (l : List Nat) : State × Bool :=
  let a := s.gzEdges l true
  let b := a.1.gzEdges l false
  (b.1, a.2 || b.2)

/-- A field pin or a FAULT_IN pin changes its level as Gauze meets it: every pin source that selects the pin follows (R333,
R334). -/
def State.gzPin (s : State) (p : GzPin) (v : Bool) : State × Bool :=
  let s := match p with
    | .fio k => { s with fioIn := setBit s.fioIn k v }
    | .fin j => { s with finPin := setBit s.finPin j v }
  if s.clk.porst then (s, false) else State.gzRun 130 s

/-- The sources outside the AO domain fall with the registers behind them: engines, timers, threads, faults, the state and
the mailbox (R33, R333). The AO comparators stay. -/
def State.gzDrop (s : State) : State :=
  { s with gz := { s.gz with src := s.gz.src &&& (BitVec.ofNat 512 0xFF <<< 464) } }

/-- Hold the output of the named channels at 0 until their output has been 0 (R336). -/
def State.gzHold (s : State) (cs : List Nat) : State :=
  { s with gz := { s.gz with out := cs.foldl (fun o c => setBit o c false) s.gz.out,
                             hold := cs.foldl (fun h c => setBit h c true) s.gz.hold } }

end Sys2Proof.Machine
end

