-- ==== Sys2Proof/Machine/Threads.lean ====
section
/-! DEFINITION. Thread states, channels and the tile reset (R86 to R101), and the contexts of the LVU that they touch
(R169 to R173). -/

namespace Sys2Proof.Machine

/-- The state code of a thread (R86): 0 HELD, 1 ACTIVE, 2 WFE, 3 CHWAIT, 4 DBGHALT, 5 STOPPED. -/
def State.thState (s : State) (t n : Nat) : Nat := s.field (.TH_STAT t n) 0 3

/-- Set the state code of a thread. -/
def State.setThState (s : State) (t n v : Nat) : State := s.setField (.TH_STAT t n) 0 3 v

/-- The class of a thread (R77): 0 ELASTIC, 1 FIXED, 2 URGENT. -/
def State.thClass (s : State) (t n : Nat) : Nat := s.field (.TH_CTL t n) 0 2

/-- Change the wait of a thread. -/
def State.setWait (s : State) (t n : Nat) (w : Wait) : State := s.setThread t n { s.thread t n with wait := w }

/-- General register `Gi`; G0 always reads 0 (R105). -/
def State.g (s : State) (t n i : Nat) : Word := if i % 32 = 0 then 0 else s.rd (.G t n (i % 32))

/-- Write `Gi`; a write of G0 is discarded (R105). -/
def State.setG (s : State) (t n i : Nat) (v : Word) : State := if i % 32 = 0 then s else s.wr (.G t n (i % 32)) v

/-! ### Channels (R97 to R100) -/

/-- The channel that a thread holds reserved, if any. -/
def State.reserved (s : State) (t n : Nat) : Option ChanId :=
  (s.chans.find? (fun x => x.2.owner = some (t, n))).map (·.1)

/-- A channel has room for one more message: 8 spaces, less the committed messages and a reservation (R97, R99). -/
def Chan.free (c : Chan) : Bool := decide (c.msgs.length + (if c.owner.isSome then 1 else 0) < 8)

/-- The channel of a scope bit and a number, as thread of tile `t` names it (R97, R100). -/
def chanOf (block : Bool) (t c : Nat) : ChanId := if block then .block c else .tile t c

/-- The threads that may see a channel. -/
def State.chanThreads (s : State) (c : ChanId) : List (Nat × Nat) :=
  match c with
  | .tile t _ => (List.range 16).map (fun n => (t, n))
  | .block _ => s.allThreads

/-- Raise the channel events that TH_EVSEL selects, in the threads that see the channel and whose tile `p` names (R100):
`space` for free space, otherwise for committed data. -/
def State.chanEvent (s : State) (c : ChanId) (space : Bool) (p : Nat → Bool) : State :=
  let num := match c with | .tile _ k => k | .block k => k
  let scope := match c with | .tile _ _ => 0 | .block _ => 1
  let sel := space.toNat * 128 + scope * 64 + num
  forEach ((s.chanThreads c).filter (fun x => p x.1)) (fun x s =>
    forEach (List.range 4) (fun i s => if s.field (.TH_EVSEL x.1 x.2) (8 * i) 8 = sel then s.setEvent x.1 x.2 (12 + i) else s) s) s

/-- A thread of tile `t` sees the message (R98). -/
def Msg.seenBy (m : Msg) (t : Nat) : Bool := m.seen || (match m.sender with | some x => x.1 == t | none => false)

/-- The channel holds a message that tile `t` sees. -/
def Chan.dataFor (c : Chan) (t : Nat) : Bool := c.msgs.any (fun m => m.seenBy t)

/-- A change of a channel crosses to the other tiles in 6 FABCLK cycles (R98, R100). -/
def crossTime : Nat := 12

/-- The other tiles learn of a free space in a block channel later. -/
def State.spaceLater (s : State) (c : ChanId) (t : Nat) : State :=
  match c with
  | .tile _ _ => s
  | .block _ => { s with chanSpaces := s.chanSpaces ++ [(c, t, s.now + crossTime)] }

/-- A channel changes by an act of tile `t`, or of the fault collector: committed data, or a free space, that was not
present before is an event, in tile `t` at once and in the other tiles 6 FABCLK cycles later (R100). -/
def State.chanChange (s : State) (c : ChanId) (x : Chan) (by' : Option Nat) : State :=
  let o := s.chan c
  let s := s.setChan c x
  match by' with
  | none => s
  | some t =>
    let s := if !o.dataFor t && x.dataFor t then s.chanEvent c false (· == t) else s
    if !o.free && x.free then (s.chanEvent c true (· == t)).spaceLater c t else s

/-- The messages of a channel that cross to the other tiles by now are seen there, an event where none was seen before. -/
def State.chanCross (s : State) (c : ChanId) : State :=
  let o := s.chan c
  let x := { o with msgs := o.msgs.map (fun m => if decide (m.due ≤ s.now) then { m with seen := true } else m) }
  if x = o then s
  else s.setChan c x |>.chanEvent c false (fun t => !o.dataFor t && x.dataFor t)

/-- What crosses between the tiles by now (R98, R100). -/
def State.chanArrivals (s : State) : State :=
  let s := forEach (s.chans.map (·.1)) (fun c s => s.chanCross c) s
  let now := s.now
  let due := s.chanSpaces.filter (fun x => decide (x.2.2 ≤ now))
  if due.isEmpty then s
  else
    forEach due (fun x s => s.chanEvent x.1 true (· != x.2.1))
      { s with chanSpaces := s.chanSpaces.filter (fun x => decide (now < x.2.2)) }

/-- The timebase steps: what is under way between the tiles keeps its real time. -/
def State.chanShift (s : State) (f : Nat → Nat) : State :=
  { s with chans := s.chans.map (fun (x : ChanId × Chan) =>
             (x.1, { x.2 with msgs := x.2.msgs.map (fun m => { m with due := f m.due }) })),
           chanSpaces := s.chanSpaces.map (fun x => (x.1, x.2.1, f x.2.2)) }

/-- Discard the partial message of a thread and release its reservation (R96, R159, R475). -/
def State.dropReservation (s : State) (t n : Nat) : State :=
  match s.reserved t n with
  | none => s
  | some c => s.chanChange c { s.chan c with owner := none, part := [] } (some t)

/-- Commit a message whole (R97, R434): words that were not written read 0. In a tile channel every thread that sees the
channel is of the sender's tile. -/
def State.commitMsg (s : State) (c : ChanId) (ws : List Word) (sender : Option (Nat × Nat)) : State :=
  s.chanChange c { s.chan c with msgs := (s.chan c).msgs ++ [⟨ws, sender, s.now + crossTime, false⟩] } (sender.map (·.1))

/-! ### LVU contexts -/

/-- The state code of a context (R169). -/
def State.ctxState (s : State) (t c : Nat) : Nat := s.field (.LV_CSTAT t c) 0 3

/-- The context that a thread holds bound (R168). -/
def State.boundCtx (s : State) (t n : Nat) : Option Nat :=
  (List.range 4).find? (fun c => s.ctxState t c == 4 && s.field (.LV_CSTAT t c) 8 4 == n)

/-- Tile `t` is gated (R445). -/
def State.tileGated (s : State) (t : Nat) : Bool :=
  s.hasTile t && (List.range 16).all (fun n => s.thState t n == 0 || s.thState t n == 5)
    && (List.range 4).all (fun c => s.ctxState t c != 4)

/-- Unbind a context and leave it FREE (R172, R173). -/
def State.freeCtx (s : State) (t c : Nat) : State :=
  let s := s.wr (.LV_CSTAT t c) (setFld (setFld (setFld (s.rd (.LV_CSTAT t c)) 0 3 3) 4 1 0) 8 4 0)
  s.setCtx t c (if s.flag (.LV_CTL t) 8 then { ctxReset with idleSince := s.now } else { s.ctx t c with idleSince := s.now })

/-- Every context of a tile returns to OFF, its contents lost (R169, R173). -/
def State.ctxsOff (s : State) (t : Nat) : State :=
  forEach (List.range 4) (fun c s => (s.setField (.LV_CSTAT t c) 0 9 0 |>.setField (.LV_CSTAT t c) 8 4 0).setCtx t c ctxReset) s

/-! ### Tile reset (R87, R96, R105, R107, R141) -/

/-- The registers that a tile reset returns to their reset values: TL_CTL, TL_STAT, TL_FREC, TL_SLOTMAP, every TH
register but TH_WPERM, the general registers and the words of R107 and R141. -/
def tileResetReg (t : Nat) : Reg → Bool
  | .TL_CTL t' | .TL_STAT t' => t' == t
  | .TL_FREC t' _ | .TL_SLOTMAP t' _ => t' == t
  | .TH_CTL t' _ | .TH_STAT t' _ | .TH_PC t' _ | .TH_EVPEND t' _ | .TH_EVIE t' _ | .TH_EVWE t' _ | .TH_EVSEL t' _
  | .TH_VBASE t' _ | .TH_HWINHI t' _ => t' == t
  | .TH_EPC t' _ _ | .TH_HWIN t' _ _ => t' == t
  | .G t' _ _ => t' == t
  | .ISTAT t' _ | .LCOUNT t' _ | .LSTART t' _ | .LEND t' _ | .LCTL t' _ | .BITST t' _ => t' == t
  | _ => false

/-- Thread 0 of tile `t` becomes ACTIVE at TL_RESETPC (R87). -/
def State.startThread0 (s : State) (t : Nat) : State :=
  (s.wr (.TH_PC t 0) (s.rd (.TL_RESETPC t))).setThState t 0 1

/-- The threads of a tile that `p` names and whose VBIND still waited no longer wait: a wake in progress continues
unawaited. -/
def State.dropAwaits (s : State) (t : Nat) (p : Nat → Bool) : State :=
  forEach (List.range 4) (fun c s =>
    match (s.ctx t c).await with
    | some x => if p x.1 then s.setCtx t c { s.ctx t c with await := none } else s
    | none => s) s

/-- Reset a tile (R87, R96): the core and its threads; the scratchpad, the engines and the tile's other registers are
kept. Partial messages are discarded, reservations released, and the tile channels emptied. -/
def State.resetTile (s : State) (t : Nat) : State :=
  let s := forEach (List.range 16) (fun n s => s.dropReservation t n) s
  let s := { s with chans := s.chans.filter (fun x => match x.1 with | .tile t' _ => t' != t | .block _ => true) }
  let s := s.resetRegs (tileResetReg t)
  let s := { s with threads := s.threads.filter (fun x => x.1.1 != t) }
  let s := s.setTile t { tileReset with sb := (s.tile t).sb, hwRoute := (s.tile t).hwRoute }
  let s := forEach (List.range 4) (fun c s => if s.ctxState t c = 4 then s.freeCtx t c else s) s
  let s := s.dropAwaits t (fun _ => true)
  if t = 0 then s.startThread0 0 else s

end Sys2Proof.Machine
end

