-- ==== Sys2Proof/Machine/Faults.lean ====
section
/-! DEFINITION. The fault collector: records, windows, notification and the fault output (R419 to R437), and the core
fault of a tile (R95, R96). -/

namespace Sys2Proof.Machine

/-- The source exists in the build: those of absent tiles and CAN controllers, and the reserved ones, latch only when
forced (R419). -/
def State.faultPresent (s : State) (n : Nat) : Bool :=
  if n < 64 then s.hasTile (n / 8) && decide (n % 8 < 6)
  else if 72 ≤ n ∧ n < 88 then s.hasCan (n - 72)
  else decide (n < 128)

/-- The record of source `n` is latched (R423). -/
def State.latched (s : State) (n : Nat) : Bool := s.flag (.FC_SSTAT n) 31
/-- The present severity of a record. -/
def State.cur (s : State) (n : Nat) : Nat := s.field (.FC_SSTAT n) 28 2
/-- A record is acknowledged. -/
def State.acked (s : State) (n : Nat) : Bool := s.flag (.FC_SSTAT n) 27

/-- Start the window of a record for its severity; an INFO record has none (R425), and in HALT the window starts at the
resume (R430). -/
def State.startWindow (s : State) (n : Nat) : State :=
  if s.cur n = 0 then { s with windows := s.windows.filter (fun x => x.1 ≠ n), pausedWin := s.pausedWin.filter (fun x => x.1 ≠ n) }
  else if s.blk = 7 then { s with pausedWin := mset s.pausedWin n 0 }
  else { s with windows := mset s.windows n s.now }

/-- End the window of a record. -/
def State.endWindow (s : State) (n : Nat) : State :=
  { s with windows := s.windows.filter (fun x => x.1 ≠ n), pausedWin := s.pausedWin.filter (fun x => x.1 ≠ n) }

/-- The message of R434, and the host interrupts of R435, for a change of record `n`. -/
def State.notifyFault (s : State) (n : Nat) (expiry rep : Bool) : State :=
  if s.cur n < s.field .FC_NCFG 8 2 then s
  else
    let s :=
      if s.flag .FC_NCFG 31 then
        let w0 := word ((s.faultSeq % 2 ^ 16) * 2 ^ 16 + (s.flag (.FC_SSTAT n) 26).toNat * 2 ^ 15
          + expiry.toNat * 2 ^ 14 + rep.toNat * 2 ^ 13 + s.cur n * 2 ^ 8 + n)
        let w3 := if n < 64 ∧ n % 8 = 0 then s.rd (.TL_FREC (n / 8) 0) else 0
        let c := ChanId.block (s.field .FC_NCFG 0 6)
        let s := { s with faultSeq := s.faultSeq + 1 }
        if (s.chan c).free then s.commitMsg c [w0, word s.now, word (s.now / 2 ^ 32), w3] none
        else (s.setFlag .FC_NSTAT 31 true).setField .FC_NSTAT 0 16 (satAdd 0xFFFF (s.field .FC_NSTAT 0 16) 1)
      else s
    forEach [0, 1] (fun p s =>
      if s.flag (.FC_HVEC p 3) 31 then s.sendMessage p none (.FC_HVEC p 0) (.FC_HVEC p 1) (.FC_HVEC p 2) (.FC_HVEC p 3) else s) s

/-- FC_FIRST takes the first source to latch, or OVF sets (R424). -/
def State.recordFirst (s : State) (n : Nat) (forced : Bool) : State :=
  if s.flag .FC_FIRST 31 then s.setFlag .FC_FIRST 30 true
  else ((s.wr .FC_FIRST (word (2 ^ 31 + s.field .FC_FIRST 30 1 * 2 ^ 30 + forced.toNat * 2 ^ 29 + n % 128))).wr
    (.FC_FIRSTT 0) (word s.now)).wr (.FC_FIRSTT 1) (word (s.now / 2 ^ 32))

/-- An occurrence of source `n` (R420, R422, R423, R432). While MAIN is held in reset the collector takes nothing. -/
def State.occur (s : State) (n : Nat) (forced : Bool) : State :=
  if s.clk.held then s
  else if !forced && (s.flag (.FC_SCFG n) 8 || !s.faultPresent n) then s
  else if !s.latched n then
    let s := s.wr (.FC_SSTAT n) (word (2 ^ 31 + s.field (.FC_SCFG n) 0 2 * 2 ^ 28 + forced.toNat * 2 ^ 26 + 1))
    ((s.startWindow n).recordFirst n forced).notifyFault n false false
  else
    let s := s.setField (.FC_SSTAT n) 0 16 (satAdd 0xFFFF (s.field (.FC_SSTAT n) 0 16) 1)
    let s := if forced then s.setFlag (.FC_SSTAT n) 26 true else s
    if n < 64 ∧ s.acked n = false ∧ s.cur n < 3 then
      ((s.setField (.FC_SSTAT n) 28 2 (s.cur n + 1)).startWindow n).notifyFault n false true
    else s

/-- Every fault record that a register write or an occurrence ever touched. -/
def State.anyRecord (s : State) (p : Word → Bool) : Bool :=
  s.regs.any (fun x => match x.1 with | .FC_SSTAT n => p (s.rd (.FC_SSTAT n)) | _ => false)

/-- The fault condition of R436. -/
def State.faultCond (s : State) : Bool :=
  s.flag .FC_RSTAT 2 || s.anyRecord (fun w => bit w 31 && decide (s.field .FC_CFG 0 2 ≤ fld w 28 2))

/-- Gauze source 504 (R437). -/
def State.majorUnacked (s : State) : Bool := s.anyRecord (fun w => bit w 31 && !bit w 27 && decide (2 ≤ fld w 28 2))

/-- FAULT_OUT_N after a change of the condition (R35, R436): held at 0 before BLK_BOOTDONE and while the condition
holds; when it ends, STATIC drives 1 and ALIVE starts with a rising edge. -/
def State.syncFaultOut (s : State) : State :=
  if !s.flag .BLK_BOOTDONE 0 || s.faultCond then { s with faultOut := false, faultHeld := true }
  else if s.faultHeld || !s.flag .FC_CFG 8 then { s with faultOut := true, faultHeld := false }
  else s

/-- Bring the level sources 504, 505 and 508 and the fault pin up to date; a storm on the way raises GZ_STORM (R333,
R346, R437). -/
def State.settle : Nat → State → State
  | 0, s => s.syncFaultOut
  | k + 1, s =>
    let a := s.gzEdge 504 s.majorUnacked
    let b := a.1.gzEdge 505 (a.1.flag .FC_RSTAT 2)
    let c := b.1.gzEdge 508 (b.1.blk == 2)
    if a.2 || b.2 || c.2 then State.settle k (c.1.occur 124 false) else c.1.syncFaultOut

/-- An occurrence of a fault source, with everything that follows it. -/
def State.raise (s : State) (n : Nat) : State := (s.occur n false).settle 3

/-- A Gauze source changes, with the storm that may follow. -/
def State.sourceEdge (s : State) (n : Nat) (l : Bool) : State :=
  let r := s.gzEdge n l
  if r.2 then r.1.raise 124 else r.1

/-- Gauze sources pulse together. -/
def State.sourcePulses (s : State) (l : List Nat) : State :=
  let r := s.gzPulses l
  if r.2 then r.1.raise 124 else r.1

/-- A Gauze source pulses. -/
def State.sourcePulse (s : State) (n : Nat) : State := s.sourcePulses [n]

/-- A pin changes, with the storm that may follow. -/
def State.pinEdge (s : State) (p : GzPin) (l : Bool) : State :=
  let r := s.gzPin p l
  if r.2 then r.1.raise 124 else r.1

/-- Acknowledge a latched record (R431). -/
def State.ackRecord (s : State) (n : Nat) : State :=
  if s.latched n then (s.setFlag (.FC_SSTAT n) 27 true).endWindow n else s

/-- Source `n` is a FIN input that is high (R420). -/
def State.finAsserted (s : State) (n : Nat) : Bool := decide (88 ≤ n ∧ n < 104) && bit s.faultIn (n - 88)

/-- Clear a record, unless its FIN input is asserted (R431). -/
def State.clearRecord (s : State) (n : Nat) : State :=
  if s.finAsserted n then s else (s.wr (.FC_SSTAT n) 0).endWindow n

/-- The wait of an instruction that has issued and completes though its tile stops (R95): a host-window store, a VBIND, a
write of TL_HWROUTE. -/
def Wait.completes : Wait → Bool
  | .hostStore _ | .vbind _ | .hwRoute => true
  | _ => false

/-- A core fault (R95, R96): the record, every thread of the tile STOPPED, and the fault source CORE[t]. Instructions that
have issued complete. -/
def State.coreFault (s : State) (t n cause detail refc : Nat) (pc addr : Word) : State :=
  let s := if s.flag (.TL_FREC t 0) 31 then s else
    ((s.wr (.TL_FREC t 0) (word (2 ^ 31 + refc * 2 ^ 20 + n * 2 ^ 16 + cause * 2 ^ 8 + detail))).wr (.TL_FREC t 1) pc).wr
      (.TL_FREC t 2) addr
  let s := forEach (List.range 16) (fun m s =>
    (s.setThState t m 5).setWait t m (if (s.thread t m).wait.completes then (s.thread t m).wait else .none)) s
  (s.setFlag (.TL_STAT t) 1 true).raise (8 * t)

end Sys2Proof.Machine
end

