-- ==== Sys2Proof/Machine/Power.lean ====
section
/-! DEFINITION. Resets, readiness and the power domains (R27 to R43, R65 to R68, R483, R484). -/

namespace Sys2Proof.Machine

/-! ### Readiness (R65, R9) -/

/-- The part behind a BLK_READY bit is in the build (R9). -/
def State.readyPresent (s : State) (i b : Nat) : Bool :=
  if i = 1 then s.hasTile (b / 4)
  else if i = 2 then
    (if b < 8 then s.hasTile b else if b < 16 then s.build.lvu && s.hasTile (b - 8) else s.hasCan (b - 16))
  else if i = 3 then (if b = 6 then decide (0 < s.build.can) else decide (b < 6))
  else true

/-- A BLK_READY bit reads 1. -/
def State.ready (s : State) (i b : Nat) : Bool := s.flag (.BLK_READY i) b

/-- Set or clear a BLK_READY bit; bits of absent parts never set (R9). -/
def State.setReady (s : State) (i b : Nat) (on : Bool) : State :=
  if on && !s.readyPresent i b then s else s.setFlag (.BLK_READY i) b on

/-- The ready bit of a memory (R66). -/
def memReadyBit : MemUnit → Nat × Nat
  | .bank b => (0, b)
  | .tile t => (2, t)
  | .canRam => (3, 6)

/-- The block-window range of a memory. -/
def memRange : MemUnit → Nat × Nat
  | .bank b => (smBase + 0x40000 * b, 0x40000)
  | .tile t => (spBase t, 0x80000)
  | .canRam => (canBase, 0x140000)

/-- The power domain of a memory (R37). -/
def memDomain : MemUnit → Nat
  | .bank b => 4 + b / 8
  | .tile t => 8 + t
  | .canRam => 2

/-- The memory is in the build. -/
def State.hasMem (s : State) : MemUnit → Bool
  | .bank b => decide (b < 32)
  | .tile t => s.hasTile t
  | .canRam => decide (0 < s.build.can)

/-- Zero a memory with valid check bits (R66). -/
def State.zeroMem (s : State) (m : MemUnit) : State :=
  { s with mem := memClear s.mem (memRange m).1 (memRange m).2,
           ecc := s.ecc.filter (fun x => x.1 < (memRange m).1 || (memRange m).1 + (memRange m).2 ≤ x.1),
           writeBacks := s.writeBacks.filter (fun a => a < (memRange m).1 || (memRange m).1 + (memRange m).2 ≤ a) }

/-- The engine groups of a tile leave readiness with its ready bit: their grains are released, and each group that
TL_ENGGRP still names asks again (R328). -/
def State.dropGroups (s : State) (t : Nat) : State :=
  forEach (List.range 4) (fun g s =>
    let s := (s.setReady 1 (4 * t + g) false).apRelease (.engGroup (4 * t + g))
    if s.flag (.TL_ENGGRP t) g then s.apRequest (.engGroup (4 * t + g)) 1 else s) s

/-- The ready bit of an LVU sets once its domain is out of reset and its tile is ready (R65). -/
def State.lvuReady (s : State) (t : Nat) : State :=
  if (s.pd (16 + t)).phase == .on && s.ready 2 t then s.setReady 2 (8 + t) true else s

/-- A memory is ready: its bit sets, its clear is over and its grains are released (R66, R253, R438). With a tile, its LVU
may be ready too, and with the object RAM every CAN controller is (R65). -/
def State.memReady (s : State) (m : MemUnit) : State :=
  let s := { s with clears := s.clears.filter (· ≠ m) }
  let s := s.setReady (memReadyBit m).1 (memReadyBit m).2 true
  match m with
  | .bank b => (s.apRelease (.bank b)).setFlag .SM_CLRREQ b false
  | .tile t => (s.apRelease (.tile t)).lvuReady t
  | .canRam => forEach (List.range 16) (fun c s => s.setReady 2 (16 + c) true) s

/-! ### Domains (R37 to R43, R68) -/

/-- The domain is in the build (R40). -/
def State.hasDomain (s : State) (d : Nat) : Bool :=
  if d < 2 then true
  else if d = 2 then decide (0 < s.build.can)
  else if d < 8 then true
  else if d < 16 then s.hasTile (d - 8)
  else if d < 24 then s.build.lvu && s.hasTile (d - 16)
  else false

/-- The memories of a domain. -/
def domainMems (d : Nat) : List MemUnit :=
  if d = 2 then [.canRam]
  else if 4 ≤ d ∧ d < 8 then (List.range 8).map (fun i => .bank (8 * (d - 4) + i))
  else if 8 ≤ d ∧ d < 16 then [.tile (d - 8)]
  else []

/-- Clear every ready bit of a domain (R42, R68), and those that require one of them (R65). -/
def State.dropReady (s : State) (d : Nat) : State :=
  let s := forEach (domainMems d) (fun m s => s.setReady (memReadyBit m).1 (memReadyBit m).2 false) s
  if d = 0 then s.setReady 3 4 false
  else if d = 2 then forEach (List.range 16) (fun c s => s.setReady 2 (16 + c) false) s
  else if d = 3 then forEach (List.range 4) (fun n s => s.setReady 3 n false) s
  else if 8 ≤ d ∧ d < 16 then (s.dropGroups (d - 8)).setReady 2 d false
  else if 16 ≤ d then s.setReady 2 (8 + (d - 16)) false
  else s

/-- The registers of a tile's pages that the reset of its power domain resets besides those of a tile reset: all but
TH_WPERM, which only a block reset changes (R96), and TL_ENGGRP, whose requests stand (R328). -/
def tileDomainReg (t : Nat) : Reg → Bool
  | .TL_DLGRACE t' | .TL_RESETPC t' | .TL_HWROUTE t' | .TL_SPECC t' | .TL_SPECCADDR t' => t' == t
  | .FE_CTL t' _ | .FE_STAT t' _ | .FE_CFG t' _ | .FE_PINS t' _ | .FE_CLK t' _ | .FE_CMP t' _ | .FE_CMPMASK t' _
  | .FE_CNT t' _ | .FE_IDLEPAT t' _ | .FE_PAT t' _ | .FE_SEG t' _ | .FE_SIO t' _ => t' == t
  | _ => false

/-- The CAN registers that the reset of the CAN domain resets: all but the domain request. -/
def canReg : Reg → Bool
  | .CN_CTL _ | .CN_STAT _ | .CN_NBT _ | .CN_DBT _ | .CN_ERR _ | .CN_MAPID _ | .CN_MAPCMD _ | .CN_RXMISS _ | .CN_TXREQ _
  | .CN_TXABORT _ | .CN_TTCFG _ | .CN_REFID _ | .CN_TTSTAT _ | .CN_GTLO _ | .CN_GTHI _ | .CN_TUR _ => true
  | .CN_TRIG _ _ => true
  | _ => false

/-- The federation and Mirror registers, which lie in the FED domain: all but the domain request (R402, R407). -/
def fedReg : Reg → Bool
  | .FD_STAT | .FD_RANGE | .FD_TSTAT | .FD_TOFS | .FD_TCFG | .FD_SUBSTAT => true
  | .FD_LCTL _ | .FD_LSTAT _ | .FD_LERR _ | .FD_HOPDLY _ => true
  | .FD_PUB _ _ | .FD_SUB _ _ => true
  | .MI_CTL | .MI_PEER | .MI_STAT | .MI_DSCAN => true
  | .MI_DIGEST _ | .MI_PDIGEST _ | .MI_ENGSHADOW _ => true
  | _ => false

/-- The controllers lose their pending transmissions with their reset: TXPEND of every such object clears. -/
def State.dropCans (s : State) : State :=
  let objs := s.cans.flatMap (fun x => x.2.pend)
  let s := forEach objs (fun n s => let a := canBase + 80 * n + 8
    { s with mem := memSet s.mem a (memGet s.mem a &&& 0xFB) }) s
  { s with cans := [] }

/-- The grains of a wake return: to the queue's pool, or to the reservation they were drawn from (R193, R444). -/
def State.endWakeGrains (s : State) (t c : Nat) : State :=
  let u := ApUser.lvuWake t c
  let s := forEach (s.apDrawn.filter (fun x => x.1 = u)) (fun x s =>
    s.setField (.AP_RSV x.2) 16 10 (s.field (.AP_RSV x.2) 16 10 - 8)) s
  ({ s with apDrawn := s.apDrawn.filter (fun x => x.1 ≠ u) } : State).apRelease u

/-- Every context of an LVU loses its power: the wakes under way end, and each context is OFF (R169, R173). -/
def State.lvuOff (s : State) (t : Nat) : State := (forEach (List.range 4) (fun c s => s.endWakeGrains t c) s).ctxsOff t

/-- What a reset leaves of the links: the levels of their FDn_PHYRDY pins. -/
def keptPhy (l : Map Nat Link) : Map Nat Link := (l.filter (fun x => x.2.phy)).map (fun x => (x.1, { linkReset with phy := true }))

/-- The registers of the AO domain, which keep their values through SYSRST_N and SLEEP (R482). -/
def aoReg : Reg → Bool
  | .BLK_RSTCAUSE | .GZ_ERR | .GZ_STORMCFG | .TB_LO | .TB_HI | .TB_STAT | .AP_PSTAT | .AP_WAKEEN => true
  | .GZ_CHFLAG _ | .GZ_CHSTORM _ | .GZ_CHPROT _ | .GZ_PINSEL _ | .GZ_TOVF _ | .GZ_CH _ | .GZ_TTGT _ | .GZ_TASK _ => true
  | .TB_CMP _ _ => true
  | _ => false

/-- The reset of a domain's logic. -/
def State.resetDomainLogic (s : State) (d : Nat) : State :=
  if d = 0 then { s.resetRegs aoReg with gz := ⟨0, 0, 0, [], []⟩, tbAdj := none, wakes := [] }
  else if d = 2 then s.dropCans.resetRegs canReg
  else if d = 3 then { s.resetRegs fedReg with links := keptPhy s.links, fed := fedReset, mirror := mirrorReset }
  else if 8 ≤ d ∧ d < 16 then
    let s := (s.resetRegs (tileDomainReg (d - 8))).resetTile (d - 8)
    let s := s.setTile (d - 8) tileReset
    { s with engines := s.engines.filter (fun x => x.1.1 != d - 8) }
  else if 16 ≤ d then
    (s.resetRegs (fun r => match r with | .LV_STAT t => t == d - 16 | _ => false)).lvuOff (d - 16)
  else s

/-- The grant of a bank clear: the ready bit clears and the clear runs (R253 steps 2 and 3). A bank whose domain is not out
of reset is cleared when it is (R66). -/
def State.startClear (s : State) (b : Nat) : State :=
  if (s.pd (4 + b / 8)).phase == .on then
    { s.setReady 0 b false with clears := if s.clears.contains (.bank b) then s.clears else s.clears ++ [.bank b] }
  else s

/-- The power-up clear of a bank: it runs under the grant that the bank still holds, or is asked for (R66, R438). -/
def State.upClear (s : State) (b : Nat) : State :=
  if s.apHolds (.bank b) then s.startClear b else s.apRequest (.bank b) 2

/-- A domain leaves reset (step 5 of R39, R483): memories whose contents were lost are cleared, kept ones report ready
later (R66); a domain without memory is ready at once, an LVU with its tile (R65). -/
def State.domainUp (s : State) (d : Nat) : State :=
  let x := s.pd d
  let s := s.setPd d { x with phase := .on, lost := false }
  let s := if d = 1 then s else s.resetDomainLogic d
  let s := if 4 ≤ d ∧ d < 8 then { s with dmaLast := s.dmaLast.filter (fun x => x.1 / 8 != d - 4) } else s
  if d = 0 then (let s := s.setReady 3 4 true; if s.clk.running then s.tmrCounting else s)
  else if x.lost then
    (if 4 ≤ d ∧ d < 8 then forEach (List.range 8) (fun i s => s.upClear (8 * (d - 4) + i)) s
     else if 16 ≤ d then s.lvuReady (d - 16)
     else { s with clears := s.clears.filter (fun m => !(domainMems d).contains m) ++ domainMems d })
  else if 16 ≤ d then s.lvuReady (d - 16)
  else s

/-- The clears of a domain end where they stand: what they leave is cleared at the next power-up (R66). -/
def State.stopClears (s : State) (d : Nat) : State :=
  { s with clears := s.clears.filter (fun m => !(domainMems d).contains m) }

/-- A domain begins its power-down: its ready bits clear and accepted accesses drain (R39, R68). A clear that runs or
waits in it is given up with its grains (DESIGN CHOICE, log entry 13). -/
def State.beginDown (s : State) (d : Nat) : State :=
  let s := ((s.setPd d { s.pd d with phase := .draining, want := false }).dropReady d).stopClears d
  forEach (domainMems d) (fun m s => match m with | .bank b => s.apRelease (.bank b) | _ => s) s

/-- A request field asks for a domain: power-up starts from off, and a change waits for a handshake under way (R38). -/
def State.wantUp (s : State) (d : Nat) : State :=
  let x := s.pd d
  if x.phase = .off then s.setPd d { x with req := true, phase := .rampUp, want := true }
  else s.setPd d { x with want := true }

/-- A request field gives a domain up (R38). -/
def State.wantDown (s : State) (d : Nat) : State :=
  let x := s.pd d
  if x.phase = .on then s.beginDown d else s.setPd d { x with want := false }

/-! ### Resets (R33, R36, R483, R484) -/

/-- The part of a register that SYSRST_N keeps as a domain-request field (R484), as a mask. -/
def requestMask : Reg → Word
  | .AP_TILEEN => 0xFF
  | .LV_CTL _ => 0x10000
  | .SM_PDCTL => 0xF
  | .CN_DOMCTL => 0x1
  | .FD_CTL => 0x80000000
  | _ => 0

/-- What a warm reset leaves of the register list. -/
def warmRegs (regs : Map Reg Word) : Map Reg Word :=
  regs.filterMap (fun x =>
    if aoReg x.1 then some x
    else if requestMask x.1 = 0 then none
    else some (x.1, (x.2 &&& requestMask x.1) ||| (regReset x.1 &&& ~~~ requestMask x.1)))

/-- A grant that SYSRST_N keeps (R484): the CAN domain's, and those of power-ups and clears still under way. -/
def keptGrant : ApUser → Bool
  | .can | .tile _ | .bank _ => true
  | _ => false

/-- BLK_PDSTAT.ACK as the domains' handshakes stand (R37). -/
def State.ackBits (s : State) : Word :=
  word ((List.range 24).foldl (fun a d =>
    match (s.pd d).phase with | .off | .rampUp => a | _ => a + 2 ^ d) 0)

/-- The state that the request fields of the registers ask for a domain (R38, R484). -/
def State.asked (s : State) (d : Nat) : Bool :=
  if d < 2 then true
  else if d = 2 then s.flag .CN_DOMCTL 0
  else if d = 3 then s.flag .FD_CTL 31
  else if d < 8 then s.flag .SM_PDCTL (d - 4)
  else if d < 16 then s.flag .AP_TILEEN (d - 8)
  else s.flag (.LV_CTL (d - 16)) 16

/-- The effect of SYSRST_N on everything outside the AO domain (R33, R484). An entry to SLEEP under way ends, and each domain
is wanted as its request field says. A power-up clear that still waits for its
grains is asked for again, since its bank must be cleared before it is ready (R66). -/
def State.warmReset (s : State) : State :=
  let s := s.dropCans
  let r : State := { State.reset with
    build := s.build, regs := warmRegs s.regs, mem := s.mem, ecc := s.ecc, clk := s.clk, pds := s.pds, clears := s.clears,
    budget := s.budget, apWait := s.apWait.filter (fun c => match c.user with | .bank b => !s.ready 0 b | _ => false), apHeld := s.apHeld.filter (fun x => keptGrant x.1), gz := s.gz, tbAdj := s.tbAdj, own := s.own,
    fioIn := s.fioIn, finPin := s.finPin, faultIn := s.faultIn, links := keptPhy s.links, tap := s.tap, pending := s.pending,
    freeCtr := s.freeCtr }
  let r := if s.entry.isSome then forEach (List.range 24) (fun d r => r.setPd d { r.pd d with want := r.asked d }) r else r
  (r.wr .BLK_PDSTAT s.ackBits).gzDrop

/-- The divided clocks run: the divider starts where CLK_REQ and CLK_ACK are 1 (R27, R29). -/
def State.startClocks (s : State) : State :=
  if s.clk.clkReq && s.clk.clkAck && !s.clk.porst then
    ({ s with clk := { s.clk with running := true } } : State).tmrCounting
  else s

/-- MAIN and TILE[0] are asked for once the divided clocks run (R449). -/
def State.powerMain (s : State) : State := if s.clk.running then (s.wantUp 1).wantUp 8 else s

/-- The block is called back from SLEEP: CLK_REQ rises, and with CLK_ACK the clocks start and MAIN and TILE[0] power up
(R27, R449). -/
def State.callBack (s : State) : State :=
  ({ s with clk := { s.clk with clkReq := true } } : State).startClocks.powerMain

/-- The block leaves reset (cold start table, R483): MAIN and every other powered domain but AO, those included whose
handshake reached its reset release meanwhile; thread 0 of tile 0 at the boot ROM in BOOT; TIMERS and GZ are ready. A
power-down that waited for its domain to come up begins (R38). -/
def State.releaseBlock (s : State) : State :=
  let s := { s with clk := { s.clk with held := false } }
  let s := if s.blk = 6 then (s.wr .BLK_STATE 0x111).wr .BLK_PDSTAT s.ackBits else s
  let s := s.setFlag (.BLK_READY 3) 4 true |>.setFlag (.BLK_READY 3) 5 true
  let s := forEach (List.range 24) (fun d s =>
    if s.hasDomain d && decide (d ≠ 0) && ((s.pd d).phase == .on || (s.pd d).phase == .due) then
      let s := s.domainUp d
      if (s.pd d).want then s else s.beginDown d
    else s) s
  s.settle 3

/-- The block may leave reset: no reset is active, the divided clocks run, and MAIN has its power and its handshake has
reached its reset release. -/
def State.mayRelease (s : State) : Bool :=
  !s.clk.porst && !s.clk.sysrst && s.clk.running && s.clk.held
    && ((s.pd 1).phase == .on || (s.pd 1).phase == .due)

/-! ### The entries to SLEEP and OFF (R449) -/

/-- A domain that is off, its contents lost. -/
def domainGone : Domain := ⟨false, true, .off, false, true⟩

/-- MAIN is off: nothing outside the AO domain keeps anything, CLK_REQ falls, and the timebase counts from LFCLK (R56,
R449). OFF gives up the AO domain last (R43). -/
def State.finishEntry (s : State) (target : Nat) : State :=
  let d : State := { State.reset with
    build := s.build, regs := s.regs.filter (fun x => aoReg x.1),
    clk := { s.clk with clkReq := false, running := false, held := true },
    pds := (List.range 23).map (fun d => (d + 1, domainGone)), clears := [], budget := s.budget, gz := s.gz, tbAdj := s.tbAdj,
    faultIn := s.faultIn, fioIn := s.fioIn, finPin := s.finPin, links := keptPhy s.links, tap := s.tap, wakes := s.wakes, pending := s.pending,
    freeCtr := s.freeCtr }
  let d := (d.wr .BLK_STATE (word (16 * s.field .BLK_STATE 4 4 + target))).setFlag .TB_STAT 0 true
  let d := (d.wr (.BLK_READY 3) 0).gzDrop.settle 3
  if target = 0 then d.setPd 0 { d.pd 0 with req := false, iso := true, phase := .rampDown, want := false } else d

/-- The domains that an entry powers down, in the order of R449. -/
def entryOrder : List (List Nat) :=
  [(List.range 8).map (· + 16), (List.range 8).map (· + 8), [2], [3], (List.range 4).map (· + 4), [1]]

/-- An entry goes on: the first domains of R449's order that are not yet off begin their power-down where they are on, and
a handshake under way runs to its end first (R38); with every domain off the entry is complete. -/
def State.entryTurn (s : State) : State :=
  match s.entry with
  | none => s
  | some target =>
    match entryOrder.find? (fun l => l.any (fun d => s.hasDomain d && (s.pd d).phase != .off)) with
    | none => s.finishEntry target
    | some l =>
      forEach l (fun d s =>
        if (s.pd d).phase == .on then s.beginDown d else s.setPd d { s.pd d with want := false }) s

/-- SLEEP (6) or OFF (0) is entered: the host ports accept nothing more, and the power-downs of R449 begin. -/
def State.beginEntry (s : State) (target : Nat) : State :=
  ({ s.enterBlk target with entry := some target, wakes := [] } : State).entryTurn.settle 3

/-- PORST_N goes low (R33): everything is reset, the divider stops and the timebase is cleared. -/
def State.coldReset (s : State) : State :=
  { State.reset with
    build := s.build, regs := [], clk := { s.clk with porst := true, running := false, held := true, clkReq := true },
    pds := [], clears := [], faultIn := s.faultIn, fioIn := s.fioIn, finPin := s.finPin, links := keptPhy s.links, pending := s.pending, freeCtr := s.freeCtr }

/-! ### Commands -/

/-- PORST_N_ASSERT (R33). -/
def execPorstNAssert (s : State) : Out := .next s.coldReset

/-- PORST_N_DEASSERT: the cold start sequence, as far as CLK_ACK and SYSRST_N let it run (R29, R32, cold start table). The
scratchpad of tile 0 comes up lost, so it is cleared. Where SYSRST_N is low already, SYS of BLK_RSTCAUSE stays 0: PORST_N
governed its assertion (R33, DEDUCED, log entry 90). -/
def execPorstNDeassert (s : State) : Out :=
  if !s.clk.porst then .next s
  else
    let s := { s with clk := { s.clk with porst := false, running := s.clk.clkAck } }
    let s := s.setPd 8 { s.pd 8 with lost := true }
    let s := if s.clk.running then s.tmrCounting else s
    .next (if s.mayRelease then s.releaseBlock else s)

/-- SYSRST_N_ASSERT (R33, R36, R37). It ends an entry to SLEEP under way: the domains then follow their request fields
again. In SLEEP it calls the block back, so PD_REQ of MAIN and TILE[0] rise (DESIGN CHOICE, log entry 90); OFF is left
through PORST_N only (R43), and under PORST_N it counts for nothing (R33). -/
def execSysrstNAssert (s : State) : Out :=
  if s.clk.porst || s.blk == 0 then .next { s with clk := { s.clk with sysrst := true } }
  else
    let asleep := s.blk == 6
    let s := { s with clk := { s.clk with sysrst := true, held := true } }
    let s := s.warmReset.setFlag .BLK_RSTCAUSE 1 true
    .next ((if asleep then s.callBack else s).settle 3)

/-- SYSRST_N_DEASSERT (R483). -/
def execSysrstNDeassert (s : State) : Out :=
  let s := { s with clk := { s.clk with sysrst := false } }
  .next (if s.mayRelease then s.releaseBlock else s)

/-- CLK_ACK_RISE (R27, R29, R449): the divided clocks start together, unless PORST_N is low or CLK_REQ is 0; after SLEEP,
MAIN and TILE[0] then power up. -/
def execClkAckRise (s : State) : Out :=
  let s := ({ s with clk := { s.clk with clkAck := true } } : State).startClocks
  let s := if (s.pd 1).phase = .off then s.powerMain else s
  .next (if s.mayRelease then s.releaseBlock else s)

/-- CLK_ACK_FALL (R27): every divided clock stops. -/
def execClkAckFall (s : State) : Out := .next { s with clk := { s.clk with clkAck := false, running := false } }

/-- PD_ACK_RISE (R39 steps 2 to 4, R41, R42): PD_ACK is synchronised and the isolation ends. -/
def execPdAckRise (d : Nat) (s : State) : Out :=
  guarded (decide (d < 24)) (
    if s.hasDomain d && (s.pd d).phase == .rampUp then
      (s.setPd d { s.pd d with iso := false, phase := .inReset }).setFlag .BLK_PDSTAT d true
    else s)

/-- DOMAIN_RESET_RELEASE (R39 step 5, R483): held while a block reset is active, until MAIN leaves reset; a power-down asked
for meanwhile begins now (R38), in an entry to SLEEP or OFF in its turn (R449). -/
def execDomainResetRelease (d : Nat) (s : State) : Out :=
  guarded (decide (d < 24)) (
    if (s.pd d).phase == .inReset then
      if s.clk.held then
        let s := s.setPd d { s.pd d with phase := .due }
        if d = 1 && s.mayRelease then s.releaseBlock else s
      else
        let s := s.domainUp d
        if s.entry.isSome then s.entryTurn else if (s.pd d).want then s else s.beginDown d
    else s)

/-- DOMAIN_DRAIN_END (R39, R68): the clocks stop, the isolation rises and PD_REQ falls. In an entry to SLEEP or OFF,
outstanding manager transactions complete first (R449). -/
def execDomainDrainEnd (d : Nat) (s : State) : Out :=
  guarded (decide (d < 24)) (
    if (s.pd d).phase == .draining && (s.entry.isNone || s.managersIdle) then
      let s := s.setPd d { s.pd d with iso := true, req := false, phase := .rampDown, lost := true }
      if 16 ≤ d then s.lvuOff (d - 16) else s
    else s)

/-- PD_ACK_FALL (R39): the domain is off. The CAN domain gives its grains back, and a power-up asked for meanwhile starts
(R38, R438). -/
def execPdAckFall (d : Nat) (s : State) : Out :=
  guarded (decide (d < 24)) (
    if (s.pd d).phase == .rampDown then
      let s := (s.setPd d { s.pd d with phase := .off }).setFlag .BLK_PDSTAT d false
      let s := if d = 2 && !(s.pd d).want then s.apRelease .can else s
      if (s.pd d).want then s.wantUp d else s.entryTurn
    else s)

/-- PD_ACK_LOST (R42): the domain is isolated and reset, its ready bits clear, PDLOST sets and PD_LOST is raised; its
memories are cleared when it next powers up, and a new wait of R41 starts. A clear under way ends, and its grant stays for
the clear at that power-up (R438). The loss of MAIN resets every domain but AO as SYSRST_N does, since their registers and
requesters stand in MAIN (DESIGN CHOICE, log entry 90), and SC_OWN is 0 when it powers up again (R223). -/
def execPdAckLost (d : Nat) (s : State) : Out :=
  guarded (decide (d < 24)) (
    if s.hasDomain d && (s.pd d).req && [PdPhase.on, .inReset, .due, .draining].contains (s.pd d).phase then
      let s := (s.setPd d { s.pd d with iso := true, phase := .rampUp, lost := true }).setFlag .BLK_PDSTAT d false
      let s := if d = 1 then { s.warmReset with clk := { s.clk with held := true }, own := [] } else s.resetDomainLogic d
      let s := s.stopClears d
      ((s.dropReady d).setFlag .BLK_RSTCAUSE 2 true).raise 123
    else s)

/-- PD_TIMEOUT (R41): PDTO sets and PD_TIMEOUT is raised, with PD_REQ held. -/
def execPdTimeout (d : Nat) (s : State) : Out :=
  guarded (decide (d < 24)) (
    if s.hasDomain d && ((s.pd d).phase == .rampUp || (s.pd d).phase == .rampDown) then
      (s.setFlag .BLK_PDSTAT 31 true).raise 122
    else s)

/-- PWR_BUDGET_ACCEPT (R46, R439, R442): the accepted budget, 10 bits wide. It is sampled on FABCLK edges, so while the
divided clocks run. -/
def execPwrBudgetAccept (g : Nat) (s : State) : Out :=
  guarded (decide (g < 1024)) (if s.clk.running then ({ s with budget := g } : State).apOver else s)

/-- MEMORY_CLEAR_END (R66, R253): a clear ends in a domain that is out of reset. One that SYSRST_N met starts again when the
block leaves reset, so it does not end before (R483). -/
def execMemoryClearEnd (m : MemUnit) (s : State) : Out :=
  guarded (s.hasMem m) (
    if s.clears.contains m && (s.pd (memDomain m)).phase == .on && !s.clk.held then (s.zeroMem m).memReady m else s)

/-- KEPT_MEMORY_READY (R66): a memory kept through the reset reports ready. -/
def execKeptMemoryReady (m : MemUnit) (s : State) : Out :=
  guarded (s.hasMem m) (
    let u := match m with | .bank b => s.apWaits (.bank b) | _ => false
    if (s.pd (memDomain m)).phase == .on && !s.clk.held && !s.clears.contains m && !u
        && !s.ready (memReadyBit m).1 (memReadyBit m).2 then s.memReady m
    else s)

end Sys2Proof.Machine
end

