-- ==== Sys2Proof/Machine/Image.lean ====
section
/-! DEFINITION. The Doublet image: views and banks, dirty marks, the copy engine, group membership and the record of
lost guarantees (R194 to R215, R224 to R230). -/

namespace Sys2Proof.Machine

/-! ### Groups -/

/-- SC_GSTAT.STATE: 0 IDLE, 1 ARMED, 2 RUNNING, 3 STOPPING, 4 DEBUG-HOLD, 5 LATE. -/
def State.gState (s : State) (g : Nat) : Nat := s.field (.SC_GSTAT g) 0 3

/-- Set SC_GSTAT.STATE; SC_GCTL.RUN reads 1 in ARMED, RUNNING, LATE and DEBUG-HOLD. -/
def State.setGState (s : State) (g v : Nat) : State :=
  (s.setField (.SC_GSTAT g) 0 3 v).setFlag (.SC_GCTL g) 0 (decide (v = 1 ∨ v = 2 ∨ v = 4 ∨ v = 5))

/-- The group is IDLE. -/
def State.gIdle (s : State) (g : Nat) : Bool := s.gState g == 0

/-- Every group is IDLE. -/
def State.allIdle (s : State) : Bool := (List.range 8).all s.gIdle

/-- The slices of the group have a swap state: it is not IDLE and its start checks are over (R195, R203). -/
def State.gSwapped (s : State) (g : Nat) : Bool := !s.gIdle g && !(s.group g).checking

/-- Thread `n` of tile `t` is a member of group `g` (SC_MEMBER). -/
def State.isMember (s : State) (g t n : Nat) : Bool := s.flag (.SC_MEMBER g (t / 2)) (16 * (t % 2) + n)

/-- The members of a group in tile and thread order. -/
def State.members (s : State) (g : Nat) : List (Nat × Nat) := s.allThreads.filter (fun x => s.isMember g x.1 x.2)

/-- The groups, not IDLE, of which a thread is a member. -/
def State.groupsOf (s : State) (t n : Nat) : List Nat :=
  (List.range 8).filter (fun g => !s.gIdle g && s.isMember g t n)

/-- A tile holds a member of the group. -/
def State.memberTile (s : State) (g t : Nat) : Bool := (List.range 16).any (fun n => s.isMember g t n)

/-- Record a breach of the guarantee in a group that is not IDLE (R226). -/
def State.detLost (s : State) (g b : Nat) : State :=
  if s.gIdle g then s
  else
    let s := if s.field (.SC_DETLOST g) 0 13 = 0 then
      (s.setField (.SC_DETLOST g) 28 4 b).wr (.SC_DETSCAN g) (s.rd (.SC_SCANNO g)) else s
    s.setFlag (.SC_DETLOST g) b true

/-- Record a breach in every group of which a thread is a member. -/
def State.detLostBy (s : State) (t n b : Nat) : State := forEach (s.groupsOf t n) (fun g s => s.detLost g b) s

/-! ### Views (R194, R195) -/

/-- SC_IMGBASE as a shared-memory offset. -/
def State.imgBase (s : State) : Nat := s.field .SC_IMGBASE 12 11 * 4096

/-- The size of a view in bytes. -/
def State.viewSize (s : State) (v : View) : Nat :=
  4096 * match v with
  | .I | .F => s.field .SC_IMGSIZE 0 9
  | .Q | .P => s.field .SC_IMGSIZE 9 9
  | .M => s.field .SC_IMGSIZE 18 8
  | .H => s.field .SC_IMGSIZE 26 6

/-- The shared-memory offset of a view (R194). -/
def State.viewBase (s : State) (v : View) : Nat :=
  let i := s.viewSize .I
  let q := s.viewSize .Q
  s.imgBase + match v with
  | .I => 0
  | .F => i
  | .Q => 2 * i
  | .P => 2 * i + q
  | .M => 2 * i + 2 * q
  | .H => 2 * i + 2 * q + s.viewSize .M

/-- The view that a shared-memory offset lies in, and the byte offset in it. -/
def State.viewAt (s : State) (o : Nat) : Option (View × Nat) :=
  ([View.I, .F, .Q, .P, .M, .H].find? (fun v => s.viewBase v ≤ o ∧ o < s.viewBase v + s.viewSize v)).map
    (fun v => (v, o - s.viewBase v))

/-- A line lies in a slice whose COUNT is at bit 16 and whose START is at bit 0. -/
def lineIn (w : Word) (cb sb line : Nat) : Bool := fld w 0 sb ≤ line && decide (line < fld w 0 sb + fld w 16 cb)

/-- A line of the input view lies in the group's input slice. -/
def State.inISlice (s : State) (g line : Nat) : Bool := lineIn (s.rd (.SC_ISLICE g)) 15 14 line
/-- A line of the output view lies in the group's output slice. -/
def State.inQSlice (s : State) (g line : Nat) : Bool := lineIn (s.rd (.SC_QSLICE g)) 15 14 line
/-- A line of the M view lies in the group's retentive slice. -/
def State.inMSlice (s : State) (g line : Nat) : Bool := lineIn (s.rd (.SC_MSLICE g)) 14 13 line

/-- The lines of a slice. -/
def sliceLines (w : Word) (cb sb : Nat) : List Nat := (List.range (fld w 16 cb)).map (· + fld w 0 sb)

/-- The group whose input slice has a swap state and holds the line. -/
def State.iGroup (s : State) (line : Nat) : Option Nat :=
  (List.range 8).find? (fun g => s.gSwapped g && s.inISlice g line)
/-- The group whose output slice has a swap state and holds the line. -/
def State.qGroup (s : State) (line : Nat) : Option Nat :=
  (List.range 8).find? (fun g => s.gSwapped g && s.inQSlice g line)

/-- The shared-memory offset that a byte of a view resolves to (R195). -/
def State.resolve (s : State) (v : View) (o : Nat) : Nat :=
  match v with
  | .I => match s.iGroup (o / 64) with
    | some g => s.viewBase (if (s.group g).iSwap then .F else .I) + o
    | none => s.viewBase .I + o
  | .F => match s.iGroup (o / 64) with
    | some g => s.viewBase (if (s.group g).iSwap then .I else .F) + o
    | none => s.viewBase .I + o
  | .Q => match s.qGroup (o / 64) with
    | some g => s.viewBase (if (s.group g).qSwap then .P else .Q) + o
    | none => s.viewBase .Q + o
  | .P => match s.qGroup (o / 64) with
    | some g => s.viewBase (if (s.group g).qSwap then .Q else .P) + o
    | none => s.viewBase .Q + o
  | .M => s.viewBase .M + o
  | .H => s.viewBase .H + o

/-- The block-window offset of the byte that a shared-memory offset reaches, image or not. -/
def State.smPhys (s : State) (o : Nat) : Nat :=
  smBase + match s.viewAt o with
  | some (v, r) => s.resolve v r
  | none => o

/-- The block-window offset of the byte that a block-window memory offset reaches. -/
def State.phys (s : State) (a : Nat) : Nat :=
  if smBase ≤ a ∧ a < smBase + 0x800000 then s.smPhys (a - smBase) else a

/-- Where a copy reads and writes a line: shared-memory offsets. -/
def State.copyEnds (s : State) (j : CopyJob) (line : Nat) : Nat × Nat :=
  let f := match j.kind with | .input | .startIn | .stopIn => View.I | _ => View.Q
  let z := match j.kind with | .input | .startIn | .stopIn => View.F | _ => View.P
  let a := s.viewBase f + 64 * line
  let b := s.viewBase z + 64 * line
  if j.flip then (b, a) else (a, b)

/-- The copy moves the content that its line's bank goes on showing, so an access to the line before its turn waits for it
(R209 to R211). -/
def CopyKind.holds : CopyKind → Bool
  | .stopIn | .stopOut => false
  | _ => true

/-- The copy is one of the input view. -/
def CopyKind.isInput : CopyKind → Bool
  | .input | .startIn | .stopIn => true
  | _ => false

/-- The copy in the queue that still has to move a line of the input or the output view. -/
def State.waitingCopy (s : State) (input : Bool) (line : Nat) : Option CopyJob :=
  s.copies.find? (fun j => j.kind.holds && j.kind.isInput == input && j.lines.contains line)

/-- The block-window offset of the byte that a read of a block-window memory offset returns. A reader of a line that still
waits in the copy queue waits until the line is copied, a thread under R211 and a DMA-side agent under R209, so it reads what
the copy moves there. -/
def State.readPhys (s : State) (a : Nat) : Nat :=
  let p := s.phys a
  if s.copies.isEmpty then p
  else
    match (if smBase ≤ a ∧ a < smBase + 0x800000 then s.viewAt (a - smBase) else none) with
    | none => p
    | some (v, r) =>
      match s.waitingCopy (v == .I || v == .F) (r / 64) with
      | none => p
      | some j =>
        let e := s.copyEnds j (r / 64)
        if v != .M && v != .H && p == smBase + e.2 + r % 64 then smBase + e.1 + r % 64 else p

/-- The view of a block-window offset, and the offset in it. -/
def State.viewOf (s : State) (a : Nat) : Option (View × Nat) :=
  if smBase ≤ a ∧ a < smBase + 0x800000 then s.viewAt (a - smBase) else none

/-- The word of a view. -/
def State.viewWord (s : State) (v : View) (i : Nat) : Word := s.memWord (smBase + s.resolve v (4 * i))

/-! ### Engine shadows (R215, R325) -/

/-- The engines whose static words are word `i`, by the enable bit of FE_SIO (31 output, 30 input). -/
def State.staticEngines (s : State) (b i : Nat) : List (Nat × Nat) :=
  s.regs.filterMap (fun x => match x.1 with
    | .FE_SIO t e => if bit (s.rd (.FE_SIO t e)) b && s.field (.FE_SIO t e) 0 18 == i then some (t, e) else none
    | _ => none)

/-- The static-output shadows of word `i` of the Q view take its value (R215). -/
def State.trackShadow (s : State) (i : Nat) : State :=
  let v := (s.viewWord .Q i).setWidth 16
  forEach (s.staticEngines 31 i) (fun x s =>
    if s.ready 1 (4 * x.1 + x.2 / 8) then s.setEngine x.1 x.2 { s.engine x.1 x.2 with shadow := v } else s) s

/-- The shadows follow every write to their words, through whichever view it came (R195, R215): `n` bytes from a
shared-memory offset on have been written. -/
def State.trackWrite (s : State) (o n : Nat) : State :=
  match s.viewAt o with
  | some (.Q, r) | some (.P, r) =>
    let hit := fun (w : Nat) => (List.range n).any (fun k => s.smPhys (o + k) / 4 == (smBase + s.resolve .Q (4 * w)) / 4)
    forEach ((List.range ((r % 4 + n + 3) / 4)).filter (fun i => hit (r / 4 + i))) (fun i s => s.trackShadow (r / 4 + i)) s
  | _ => s

/-! ### Error correction (R251, R252, R255) -/

/-- The error state of the word at a physical block-window offset. -/
def State.eccOf (s : State) (a : Nat) : Option EccState := (s.ecc.find? (fun x => x.1 = a / 4 * 4)).map (·.2)

/-- The words of `n` bytes from `a` on, each as `f` maps it. -/
def wordsOf (f : Nat → Nat) (a n : Nat) : List Nat :=
  (List.range ((a % 4 + n + 3) / 4)).map (fun i => f (a / 4 * 4 + 4 * i))

/-- A word of the list is uncorrectable. -/
def State.eccBad (s : State) (ws : List Nat) : Bool := ws.any (fun x => s.eccOf x = some .uncorrectable)

/-- Report an error: the status and address registers and the fault source (R252, R255); `dma` tells the port. -/
def State.reportEcc (s : State) (a : Nat) (k : EccState) (dma : Bool) : State :=
  let ue := k == .uncorrectable
  let t := (a - 0x2000000) / 0x80000
  let sm := decide (a < 0x2000000)
  let stat := if sm then Reg.SM_ECCSTAT else .TL_SPECC t
  let adr := if sm then Reg.SM_ECCADDR else .TL_SPECCADDR t
  let off := if sm then (a - smBase) / 4 * 4 else (a - spBase t) / 4 * 4
  let s := s.setFlag stat (if ue then 31 else 30) true
  let s := if ue then s else s.setField stat 0 16 (satAdd 0xFFFF (s.field stat 0 16) 1)
  let s := if s.flag adr 31 && !(ue && !s.flag adr 30) then s
    else s.wr adr (word (2 ^ 31 + ue.toNat * 2 ^ 30 + dma.toNat * 2 ^ 29 + off))
  s.raise (if sm then (if ue then 121 else 120) else (8 * t + if ue then 4 else 3))

/-- Queue the write-back of a corrected word, once (R251). -/
def State.queueWriteBack (s : State) (a : Nat) : State :=
  if s.writeBacks.contains (a / 4 * 4) then s else { s with writeBacks := s.writeBacks ++ [a / 4 * 4] }

/-- A read of physical words meets their errors: each is reported, and a correctable word is written back later. -/
def State.eccRead (s : State) (ws : List Nat) (dma : Bool) : State :=
  if s.ecc.isEmpty then s
  else forEach ws (fun x s =>
    match s.eccOf x with
    | none => s
    | some k => let s := s.reportEcc x k dma
                if k = .correctable then s.queueWriteBack x else s) s

/-! ### The copy engine (R197, R202, R208 to R210) -/

/-- Copy one line, its errors reported and an uncorrectable word's check bits with it (R251), and clear its mark. -/
def State.copyLine (s : State) (j : CopyJob) (line : Nat) : State :=
  let e := s.copyEnds j line
  let s := s.eccRead (wordsOf id (smBase + e.1) 64) true
  let s := { s with mem := memPut s.mem (smBase + e.2) (memBytes s.mem (smBase + e.1) 64) }
  let bad := (List.range 16).filter (fun i => mget s.ecc .correctable (smBase + e.1 + 4 * i) = .uncorrectable)
  let s := { s with ecc := (s.ecc.filter (fun (x : Nat × EccState) => x.1 < smBase + e.2 || smBase + e.2 + 64 ≤ x.1))
                              ++ bad.map (fun i => (smBase + e.2 + 4 * i, EccState.uncorrectable)) }
  match j.kind with
  | .input | .startIn | .stopIn => { s with fDirty := s.fDirty.filter (· ≠ line) }
  | _ => forEach (List.range 16) (fun i s => s.trackShadow (16 * line + i)) { s with qDirty := s.qDirty.filter (· ≠ line) }

/-- Run a whole copy. -/
def State.runCopy (s : State) (j : CopyJob) : State := forEach j.lines (fun l s => s.copyLine j l) s

/-- On one edge, copy `a` is queued ahead of copy `b`: commit copies in ascending group number, then input copies in
ascending group number (R202). -/
def CopyJob.ahead (a b : CopyJob) : Bool :=
  a.edge == b.edge && ((a.kind == .commit && (b.kind == .input || (b.kind == .commit && decide (a.group < b.group))))
    || (a.kind == .input && b.kind == .input && decide (a.group < b.group)))

/-- Queue a copy, of whose lines `sampled` wait for freeze samples; one of no lines ends at once, but for an input copy
behind other copies, whose end SC_CPYTIME records (R209). -/
def State.queueCopy (s : State) (k : CopyKind) (g : Nat) (lines : List Nat) (flip : Bool) (sampled : Nat) : State :=
  let j : CopyJob := ⟨k, g, lines, flip, s.now, lines.length, sampled⟩
  if !lines.isEmpty || (k == .input && !s.copies.isEmpty) then
    { s with copies := s.copies.takeWhile (fun x => !j.ahead x) ++ j :: s.copies.dropWhile (fun x => !j.ahead x) }
  else if k == .input then s.setField (.SC_CPYTIME g) 0 16 0
  else s

/-- An access is about to reach a line that waits in the copy queue: the line is copied first (R210). -/
def State.promote (s : State) (input : Bool) (line : Nat) : State :=
  match s.waitingCopy input line with
  | none => s
  | some j =>
    let s := s.copyLine j line
    { s with copies := s.copies.map (fun k => if k = j then { k with lines := k.lines.filter (· ≠ line) } else k) }

/-- An access is about to write `n` bytes from a block-window offset on: every line of them that waits in the copy queue is
copied first (R210). -/
def State.promoteRange (s : State) (a n : Nat) : State :=
  if s.copies.isEmpty then s
  else forEach (List.range ((a % 64 + n + 63) / 64)) (fun i s =>
    let o := a / 64 * 64 + 64 * i
    match (if smBase ≤ o ∧ o < smBase + 0x800000 then s.viewAt (o - smBase) else none) with
    | some (.F, r) | some (.I, r) => s.promote true (r / 64)
    | some (.Q, r) | some (.P, r) => s.promote false (r / 64)
    | _ => s) s

/-! ### Writes through the views -/

/-- Bytes 0 to 15 of the input slice of a group are its header: writes to them through F are discarded (R205). -/
def State.isHeader (s : State) (o : Nat) : Bool :=
  match s.iGroup (o / 64) with
  | some g => decide (o < 64 * s.field (.SC_ISLICE g) 0 14 + 16)
  | none => false

/-- A word that is written in full has valid check bits again, and a pending write-back of it is dropped (R251). -/
def State.eccGood (s : State) (w : Nat) : State :=
  if s.ecc.isEmpty && s.writeBacks.isEmpty then s
  else { s with ecc := s.ecc.filter (fun x => x.1 ≠ w), writeBacks := s.writeBacks.filter (· ≠ w) }

/-- Write whole words at a physical block-window offset, with valid check bits (R251). -/
def State.putGood (s : State) (a : Nat) (bs : List Byte) : State :=
  forEach (wordsOf id a bs.length) (fun x s => s.eccGood x) { s with mem := memPut s.mem a bs }

/-- While a primary's resync runs, a written line of M (2) or H (3) is marked (R417). -/
def State.markLine (s : State) (v line : Nat) : State :=
  if s.mirror.bulk && !s.mirror.marks.contains (v, line) then
    { s with mirror := { s.mirror with marks := s.mirror.marks ++ [(v, line)] } }
  else s

/-- Write one byte of shared memory at an offset, with the effects of its view: promotion, the header rule, the dirty
mark. -/
def State.smByte (s : State) (o : Nat) (b : Byte) : State :=
  match s.viewAt o with
  | none => { s with mem := memSet s.mem (smBase + o) b }
  | some (v, r) =>
    if v = .F && s.isHeader r then s
    else
      let s := if v = .F || v = .I then s.promote true (r / 64) else if v = .Q || v = .P then s.promote false (r / 64) else s
      let s := { s with mem := memSet s.mem (smBase + s.resolve v r) b }
      if v = .F then { s with fDirty := if s.fDirty.contains (r / 64) then s.fDirty else s.fDirty ++ [r / 64] }
      else if v = .Q then { s with qDirty := if s.qDirty.contains (r / 64) then s.qDirty else s.qDirty ++ [r / 64] }
      else if v = .M then s.markLine 2 (r / 64)
      else if v = .H then s.markLine 3 (r / 64)
      else s

/-- Write bytes of shared memory from an offset on; the shadows of the engines follow (R215). -/
def State.smBytes (s : State) (o : Nat) (bs : List Byte) : State :=
  ((List.range bs.length).foldl (fun s i => s.smByte (o + i) (bs.getD i 0)) s).trackWrite o bs.length

/-- Write bytes of any memory by block-window offset. -/
def State.writeBytes (s : State) (a : Nat) (bs : List Byte) : State :=
  if smBase ≤ a ∧ a < smBase + 0x800000 then s.smBytes (a - smBase) bs else { s with mem := memPut s.mem a bs }

/-- Read bytes of any memory by block-window offset. -/
def State.readBytes (s : State) (a n : Nat) : List Byte := (List.range n).map (fun i => memGet s.mem (s.readPhys (a + i)))

/-- Read a word of any memory. -/
def State.readWord (s : State) (a : Nat) : Word := word (ofLeBytes (s.readBytes a 4))

/-! ### Program banks (R206, R229, R230) -/

/-- The scratchpad range of bank `b` (0 A, 1 B) of a group. -/
def State.bankRange (s : State) (g b : Nat) : Nat × Nat :=
  (64 * s.field (.SC_PBASE g) (16 * b) 13, 64 * s.field (.SC_PBSIZE g) 0 13)

/-- The active bank. -/
def State.activeBank (s : State) (g : Nat) : Nat := s.field (.SC_GCTL g) 8 1

/-- A scratchpad byte of a tile lies in a bank of a group that is not IDLE. -/
def State.inBank (s : State) (g b t o : Nat) : Bool :=
  s.memberTile g t && (s.bankRange g b).1 ≤ o && decide (o < (s.bankRange g b).1 + (s.bankRange g b).2)

/-- A scratchpad byte lies in the active bank of a group that is not IDLE. -/
def State.inActive (s : State) (t o : Nat) : Bool :=
  (List.range 8).any (fun g => !s.gIdle g && s.inBank g (s.activeBank g) t o)

/-- A write into the shadow bank of a group that `p` names refuses a loading, ready or armed edit (R230). -/
def State.touchShadowOf (s : State) (p : Nat → Bool) (t o : Nat) : State :=
  forEach ((List.range 8).filter p) (fun g s =>
    let st := s.field (.SC_EDITSTAT g) 0 3
    if s.inBank g (1 - s.activeBank g) t o && (st == 1 || st == 2 || st == 3) then
      (s.setField (.SC_EDITSTAT g) 0 3 6).setField (.SC_EDITSTAT g) 12 4 0xC
    else s) s

/-- A write into a shadow bank, other than by a loading ring. -/
def State.touchShadow (s : State) (t o : Nat) : State := s.touchShadowOf (fun _ => true) t o

/-- A thread's write into the active bank sets EXTWR (R226, R230). -/
def State.touchActive (s : State) (t o : Nat) : State :=
  forEach (List.range 8) (fun g s => if !s.gIdle g && s.inBank g (s.activeBank g) t o then s.detLost g 9 else s) s

/-! ### What the views admit (R196) -/

/-- A host, DMA, ring, engine, CAN or federation write to a byte of a view is allowed. -/
def State.viewDma (s : State) (v : View) (o : Nat) : Bool :=
  let line := o / 64
  match v with
  | .I => !(List.range 8).any (fun g => !s.gIdle g && s.inISlice g line)
  | .Q | .P => !(List.range 8).any (fun g => !s.gIdle g && s.inQSlice g line)
  | .M => !(List.range 8).any (fun g => !s.gIdle g && s.inMSlice g line)
  | .F | .H => true

/-- What a write to the H view, or by a non-member to an M slice, does to the guarantee (R226). -/
def State.extWrite (s : State) (a : Nat) (who : Option (Nat × Nat)) : State :=
  match s.viewOf a with
  | some (.H, _) => if who.isNone then forEach (List.range 8) (fun g s => s.detLost g 9) s else s
  | some (.M, o) =>
    forEach (List.range 8) (fun g s =>
      if s.inMSlice g (o / 64) && !(match who with | some (t, n) => s.isMember g t n | none => false) then s.detLost g 9
      else s) s
  | _ => s

/-- What a write of `n` bytes does to the guarantee, line by line (R226). -/
def State.extWrites (s : State) (a n : Nat) : State :=
  forEach (List.range ((a % 64 + n + 63) / 64)) (fun i s => s.extWrite (if i = 0 then a else a / 64 * 64 + 64 * i) none) s

end Sys2Proof.Machine
end

