-- ==== Sys2Proof/Machine/Memories.lean ====
section
/-! DEFINITION. Memory accesses of the agents other than threads, error correction, and clears of shared-memory banks
(R249 to R255, R258). -/

namespace Sys2Proof.Machine

/-! ### Readiness of a memory address -/

/-- The memory that a block-window offset lies in. -/
def memUnitOf (a : Nat) : MemUnit :=
  if a < 0x2000000 then .bank ((a - smBase) / 0x40000)
  else if a < 0x3000000 then .tile ((a - 0x2000000) / 0x80000)
  else .canRam

/-- The memory that a block-window offset reaches is ready (R67). -/
def State.memIsReady (s : State) (a : Nat) : Bool :=
  let m := memReadyBit (memUnitOf (s.phys a))
  s.ready m.1 m.2

/-- Every memory that `n` bytes reach is ready: a transfer that crosses into one that is not ends with NOTREADY (R67). -/
def State.rangeReady (s : State) (a n : Nat) : Bool :=
  (List.range ((a % 64 + n + 63) / 64)).all (fun i => s.memIsReady (if i = 0 then a else a / 64 * 64 + 64 * i))

/-- In DOZE, an access opens the memory branch of the bank or scratchpad (R245, R447). -/
def State.openMem (s : State) (a : Nat) : State :=
  if s.blk = 5 ∧ s.opened.contains (memUnitOf a) = false then { s with opened := s.opened ++ [memUnitOf a] } else s

/-! ### Writes and error correction (R251) -/

/-- Words, by physical address, are written: `part` the ones of which only some bytes change, which meet their errors, each
reported once; a full-word write never reads the word (R251). False: an uncorrectable word, and nothing is written. -/
def State.eccTouch (s : State) (part all : List Nat) (dma : Bool) : State × Bool :=
  if s.ecc.isEmpty && s.writeBacks.isEmpty then (s, true)
  else
    let bad := s.eccBad part
    let s := forEach part (fun x s => match s.eccOf x with | some k => s.reportEcc x k dma | none => s) s
    if bad then (s, false) else (forEach all (fun x s => s.eccGood x) s, true)

/-- The words at the ends of a range that the range covers in part only. -/
def partWords (a n : Nat) : List Nat :=
  ((if a % 4 = 0 then [] else [a / 4 * 4]) ++ (if (a + n) % 4 = 0 then [] else [(a + n) / 4 * 4])).eraseDups

/-- A write of `n` bytes from a block-window offset on is about to be made (R210, R251). -/
def State.eccWrite (s : State) (a n : Nat) (dma : Bool) : State × Bool :=
  let s := s.promoteRange a n
  s.eccTouch ((partWords a n).map s.phys) (wordsOf s.phys a n) dma

/-- A partial write of the range meets an uncorrectable word (R251). -/
def State.eccStops (s : State) (a n : Nat) : Bool := s.eccBad ((partWords a n).map s.readPhys)

/-! ### Accesses of DMA-side agents -/

/-- A DMA-side read of `n` bytes within one memory: the bytes, or why there are none. -/
def State.dmaRead (s : State) (a n : Nat) : State × Except Cause (List Byte) :=
  if !s.rangeReady a n then (s, .error .notready)
  else
    let s := s.openMem a
    let ws := wordsOf s.readPhys a n
    (s.eccRead ws true, if s.eccBad ws then .error .ecc else .ok (s.readBytes a n))

/-- A DMA-side read of `n` bytes of one bank by physical offset, whatever its view resolves to: the bytes, or `none` where a
word is uncorrectable (R251). -/
def State.bankRead (s : State) (a n : Nat) : State × Option (List Byte) :=
  let ws := wordsOf id a n
  (s.eccRead ws true, if s.eccBad ws then none else some (memBytes s.mem a n))

/-- Reads of several ranges of banks, one after the other: their bytes joined. -/
def State.bankReads (s : State) : List (Nat × Nat) → State × Option (List Byte)
  | [] => (s, some [])
  | x :: xs =>
    let q := s.bankRead x.1 x.2
    let r := State.bankReads q.1 xs
    (r.1, q.2.bind (fun b => r.2.map (fun c => b ++ c)))

/-- Why a DMA-side write of `n` bytes is refused (R196, R230), if it is. -/
def State.dmaWriteRefusal (s : State) (a n : Nat) : Option Cause :=
  if !s.rangeReady a n then some .notready
  else if (List.range n).any (fun i => match s.viewOf (a + i) with | some (v, o) => !s.viewDma v o | none => false) then some .view
  else if 0x2000000 ≤ a ∧ a < 0x3000000 then
    let t := (a - 0x2000000) / 0x80000
    if (List.range n).any (fun i => s.inActive t (a + i - spBase t)) then some .state else none
  else none

/-- The shared-memory banks that a range of bytes touches. -/
def banksOf (a n : Nat) : List Nat :=
  if smBase ≤ a ∧ a < smBase + 0x800000 then
    (List.range ((a % 0x40000 + n + 0x3FFFF) / 0x40000)).map (fun i => (a - smBase) / 0x40000 + i)
  else []

/-- The latest DMA-side write of a bank is on record: a word of it that met a write of the processor side is owed to its
agent (R248, R249). -/
def State.noteDma (s : State) (a : Nat) (bs : List Byte) : State :=
  { s with dmaLast := s.dmaLast.filter (fun x => !(banksOf a bs.length).contains x.1)
      ++ (banksOf a bs.length).map (fun b => (b, a, bs)) }

/-- The bytes of a DMA-side write go to the memory, with their effects on the image, the guarantee and the edits (R210, R226,
R230). -/
def State.dmaPut (s : State) (a : Nat) (bs : List Byte) : State :=
  let s := ((s.writeBytes a bs).extWrites a bs.length).noteDma a bs
  if 0x2000000 ≤ a ∧ a < 0x3000000 then
    (List.range bs.length).foldl (fun s i => s.touchShadow ((a - 0x2000000) / 0x80000) ((a + i - 0x2000000) % 0x80000)) s else s

/-- A DMA-side write: performed with its effects, or refused (R196, R226, R230, R251). -/
def State.dmaWrite (s : State) (a : Nat) (bs : List Byte) : State × Option Cause :=
  match s.dmaWriteRefusal a bs.length with
  | some c => (s, some c)
  | none =>
    let r := (s.openMem a).eccWrite a bs.length true
    if !r.2 then (r.1, some .ecc) else (r.1.dmaPut a bs, none)

/-! ### Clears and domain power (R253) -/

/-- A bank holds part of the code store (R241). -/
def codeBank (b : Nat) : Bool := decide (b < 4)

/-- A bank holds part of a slice of a group that is not IDLE. -/
def State.sliceBank (s : State) (b : Nat) : Bool :=
  (List.range 8).any (fun g => !s.gIdle g &&
    ([(View.I, Reg.SC_ISLICE g, 15, 14), (.F, .SC_ISLICE g, 15, 14), (.Q, .SC_QSLICE g, 15, 14), (.P, .SC_QSLICE g, 15, 14),
      (.M, .SC_MSLICE g, 14, 13)].any (fun x =>
        let n := fld (s.rd x.2.1) 16 x.2.2.1
        let lo := s.viewBase x.1 + 64 * fld (s.rd x.2.1) 0 x.2.2.2
        decide (0 < n) && decide (lo < 0x40000 * (b + 1)) && decide (0x40000 * b < lo + 64 * n))))

/-- A software clear of a bank is refused (R253). -/
def State.clearRefused (s : State) (b : Nat) : Bool :=
  codeBank b || s.sliceBank b || !((s.pd (4 + b / 8)).phase == .on)

/-- A bit of SM_CLRREQ is asked for: it joins a clear that is requested or running, or enters a request (R253). -/
def State.clearBank (s : State) (b : Nat) : State :=
  let s := s.setFlag .SM_CLRREQ b true
  if s.clears.contains (.bank b) then s else s.apRequest (.bank b) 2

/-- A write of SM_CLRREQ: the whole write is refused if a bank it names may not be cleared. -/
def State.clrReqRefused (s : State) (v : Word) : Bool := (setBits v 32).any s.clearRefused

/-- A write of SM_PDCTL would power down a domain that holds the code store or a slice of a group that is not IDLE. -/
def State.pdCtlRefused (s : State) (v : Word) : Bool :=
  (List.range 4).any (fun q => s.flag .SM_PDCTL q && !bit v q &&
    (List.range 8).any (fun i => codeBank (8 * q + i) || s.sliceBank (8 * q + i)))

/-- The effect of an accepted SM_PDCTL write. -/
def State.pdCtlWrite (s : State) (v : Word) : State :=
  let old := s.rd .SM_PDCTL
  let s := s.setField .SM_PDCTL 0 4 (fld v 0 4)
  forEach (List.range 4) (fun q s =>
    if bit v q && !bit old q then s.wantUp (4 + q) else if !bit v q && bit old q then s.wantDown (4 + q) else s) s

/-! ### Commands -/

/-- The bytes of a word that a strobe names are those of the latest DMA-side write of its bank (R249). -/
def State.replayOwed (s : State) (addr : Nat) (data : Word) (strb : BitVec 4) : Bool :=
  strb != 0 && s.dmaLast.any (fun x => x.1 == (addr - smBase) / 0x40000 && (List.range 4).all (fun i =>
    !bit strb i || (decide (x.2.1 ≤ addr + i) && x.2.2[addr + i - x.2.1]? == some (BitVec.ofNat 8 (fld data (8 * i) 8)))))

/-- The bank that a shared-memory offset reaches is served: its domain is powered, out of reset and not lost, draining
included (R68). -/
def State.bankServed (s : State) (a : Nat) : Bool :=
  let p := (s.pd (4 + (s.phys a - smBase) / 0x200000)).phase
  !s.clk.held && (p == .on || p == .draining)

/-- A word of the image copy of a CAN controller is replayed after the freeze before which the copy was begun: the copy has
crossed that freeze (R381). -/
def State.copyTorn (s : State) (addr : Nat) : State :=
  forEach s.cans (fun x s => match x.2.copied with
    | some (g, k, lo, n) => if lo ≤ addr ∧ addr < lo + n ∧ (s.group g).begun = true ∧ k ≤ (s.group g).latest then s.setFlag (.CN_STAT x.1) 1 true else s
    | none => s) s

/-- COLLISION_REPLAY (R249): a word of a DMA-side write that met a write of the processor side is counted, and its bytes are
written again with the agent's values. -/
def execCollisionReplay (addr : Nat) (data : Word) (strb : BitVec 4) (s : State) : Out :=
  guarded (decide (smBase ≤ addr ∧ addr < smBase + 0x800000 ∧ addr % 4 = 0)) (
    if !s.bankServed addr || !s.replayOwed addr data strb then s
    else
      let s := s.wr .SM_COLLCNT (word (satAdd 0xFFFFFFFF (s.rd .SM_COLLCNT).toNat 1))
      let p := s.phys addr
      let r := s.eccTouch (if strb = 0xF then [] else [p]) [p] true
      if !r.2 then r.1
      else
        let s := (List.range 4).foldl (fun s i =>
          if bit strb i then s.smByte (addr + i - smBase) (BitVec.ofNat 8 (fld data (8 * i) 8)) else s) r.1
        (s.trackWrite (addr - smBase) 4).copyTorn addr)

/-- ECC_WRITE_BACK (R251): the corrected word is written back, and reads of it find no error any more; a write-back that
was dropped because another write came first does nothing. -/
def execEccWriteBack (addr : Nat) (s : State) : Out := .next (if s.writeBacks.contains addr then s.eccGood addr else s)

/-- BANK_RETENTION_RETURN (R245, R447): after 256 idle FABCLK cycles in DOZE the bank returns to retention. -/
def execBankRetentionReturn (m : MemUnit) (s : State) : Out :=
  guarded (s.hasMem m) { s with opened := s.opened.filter (· ≠ m) }

end Sys2Proof.Machine
end

