-- ==== Sys2Proof/Machine/Packages.lean ====
section
/-! DEFINITION. Edit packages: the fields of a package, and the applier of its records (R231 to R234, R237). -/

namespace Sys2Proof.Machine

/-- SC_EDITSTAT.STATE: 0 EMPTY, 1 LOADING, 2 READY, 3 ARMED, 4 APPLIED, 5 MISSED, 6 REFUSED. -/
def State.editState (s : State) (g : Nat) : Nat := s.field (.SC_EDITSTAT g) 0 3
/-- Set SC_EDITSTAT.STATE. -/
def State.setEditState (s : State) (g n : Nat) : State := s.setField (.SC_EDITSTAT g) 0 3 n
/-- Set SC_EDITSTAT.CAUSE. -/
def State.editCause (s : State) (g n : Nat) : State := s.setField (.SC_EDITSTAT g) 12 4 n

/-! ### The package (R231 to R234) -/

/-- A little-endian field of the package. -/
def pkgField (p : List Byte) (o n : Nat) : Nat := ofLeBytes ((p.drop o).take n)
/-- TILEMASK as the tiles it names, ascending. -/
def pkgTiles (p : List Byte) : List Nat := setBits (BitVec.ofNat 8 (pkgField p 5 1)) 8
/-- CODELEN. -/
def pkgCode (p : List Byte) : Nat := pkgField p 20 4
/-- INITCOUNT. -/
def pkgInits (p : List Byte) : Nat := pkgField p 24 4
/-- OWNCOUNT. -/
def pkgOwns (p : List Byte) : Nat := pkgField p 28 4
/-- Offset of the first record in the package. -/
def pkgRecs (p : List Byte) : Nat := 64 + pkgCode p * (pkgTiles p).length
/-- The size of the whole package. -/
def pkgSize (p : List Byte) : Nat := pkgRecs p + 16 * pkgInits p + 4 * pkgOwns p
/-- Word `k` of initialisation record `i`. -/
def initWord (p : List Byte) (i k : Nat) : Word := word (pkgField p (pkgRecs p + 16 * i + 4 * k) 4)
/-- Ownership record `i`. -/
def ownRec (p : List Byte) (i : Nat) : Word := word (pkgField p (pkgRecs p + 16 * pkgInits p + 4 * i) 4)

/-! ### The applier (R233, R237) -/

/-- One initialisation record of group `g`; one with SPACE 0b00 is an access of its tile, and a bank of another group that
it reaches is no longer the one that was checked (R230, R237). -/
def State.applyInit (s : State) (g : Nat) (p : List Byte) (i : Nat) : State :=
  let a := initWord p i 0
  let m := initWord p i 1
  let v := initWord p i 2
  let w := fld a 0 17
  let upd := fun (x : Word) => (x &&& ~~~ m) ||| (v &&& m)
  match fld a 30 2 with
  | 0 =>
    let o := spBase (fld a 27 3) + 4 * w
    forEach (List.range 4) (fun k s => s.touchShadowOf (· != g) (fld a 27 3) (4 * w + k))
      (s.putGood o (leBytes 4 (upd (s.memWord o)).toNat))
  | 1 =>
    let o := s.viewBase .M + 4 * w
    (s.smBytes o (leBytes 4 (upd (s.viewWord .M w)).toNat)).eccGood (smBase + o)
  | 2 =>
    let o := s.viewBase .H + 4 * w
    (s.smBytes o (leBytes 4 (upd (s.viewWord .H w)).toNat)).eccGood (smBase + o)
  | _ => s.setG (fld a 27 3) (fld a 23 4) w (upd (s.g (fld a 27 3) (fld a 23 4) w))

/-- Every record in package order, the initialisation records first. -/
def State.applyRecords (s : State) (g : Nat) : State :=
  let p := (s.edit g).bytes
  let s := forEach (List.range (pkgInits p)) (fun i s => s.applyInit g p i) s
  forEach (List.range (pkgOwns p)) (fun i s => s.setOwn (fld (ownRec p i) 0 18) (BitVec.ofNat 8 (fld (ownRec p i) 24 8))) s

/-- The applier has written every record: STATE becomes APPLIED. -/
def State.applierEnd (s : State) (g : Nat) : State :=
  if (s.edit g).applying then
    let s := s.applyRecords g
    (s.setEdit g { s.edit g with applying := false }).setEditState g 4
  else s

end Sys2Proof.Machine
end

