-- ==== Sys2Proof/Machine/Scan.lean ====
section
/-! DEFINITION. The scan sequencer: the grid, start and stop, freeze, release, commit, overrun and the copy queue
(R198 to R220, R226, R237, R410, R414). -/

namespace Sys2Proof.Machine

/-! ### Mirror pairing as the sequencer sees it (R407, R410, R417, R418) -/

/-- MI_STAT.STATE: 0 OFF, 1 PRIMARY, 2 RESYNC, 3 SYNCED, 4 ORPHAN. -/
def State.miState (s : State) : Nat := s.field .MI_STAT 29 3
/-- Change MI_STAT.STATE; each change sets EVIN[23] of every thread (R407). -/
def State.setMiState (s : State) (n : Nat) : State :=
  if s.miState = n then s else (s.setField .MI_STAT 29 3 n).allEvents 23
/-- The group is mirrored. -/
def State.mirrored (s : State) (g : Nat) : Bool := s.flag .MI_CTL 31 && s.flag .MI_CTL g && !s.mirror.void
/-- The block is a standby (R415). -/
def State.standby (s : State) : Bool := s.miState == 2 || s.miState == 3 || s.miState == 4
/-- The group takes no freeze and no commit because its standby is in RESYNC or ORPHAN (R417, R418). -/
def State.miIdle (s : State) (g : Nat) : Bool := s.mirrored g && (s.miState == 2 || s.miState == 4)
/-- The group's input slice is filled from the primary (R410). -/
def State.miSynced (s : State) (g : Nat) : Bool := s.mirrored g && s.miState == 3
/-- The group's commits make no commit-requested transmission and no publication (R415, R418). -/
def State.suppressedGroup (s : State) (g : Nat) : Bool := s.mirror.suppressed.contains g

/-! ### Who holds the sequencer back -/

/-- A member is in DBGHALT, or steps one instruction out of it (R220, R470). -/
def State.debugHeld (s : State) (g : Nat) : Bool :=
  (s.members g).any (fun x => s.thState x.1 x.2 == 4 || (s.thread x.1 x.2).stepping)

/-- The group takes no freeze and no commit and counts no overrun: DEBUG-HOLD, the commit freeze of fault reaction, or
a resync (R220, R417, R418, R429). -/
def State.seqHeld (s : State) (g : Nat) : Bool := s.debugHeld g || s.flag .FC_RSTAT 1 || s.miIdle g

/-- The state code that a group which is neither IDLE nor STOPPING shows: DEBUG-HOLD, ARMED until freeze 0, LATE, RUNNING
(R203, R220). -/
def State.refreshGState (s : State) (g : Nat) : State :=
  let c := s.gState g
  if c = 0 ∨ c = 3 ∨ (s.group g).checking = true then s
  else s.setGState g (if s.debugHeld g then 4 else if !(s.group g).begun then 1 else if (s.group g).late ≠ .none then 5 else 2)

/-- After DEBUG-HOLD or the commit freeze, the scan in progress is owed: it commits as under HOLD, without counts
(R220, R429). -/
def State.oweScan (s : State) (g : Nat) : State :=
  let x := s.group g
  match x.scan with
  | some k => if s.gIdle g then s else
      (s.setGroup g { x with owed := true, late := if x.late = .none ∧ k < s.nextCommit g then .hold else x.late }).refreshGState g
  | none => s

/-- A member halted for debug: its groups enter DEBUG-HOLD and record DBG (R220, R226, R472). -/
def State.debugHoldEntered (s : State) (t n : Nat) : State :=
  forEach (s.groupsOf t n) (fun g s =>
    (s.detLost g 1).refreshGState g) s

/-- A member was resumed: when it was the last one, the scan in progress is owed (R220). -/
def State.debugHoldLeft (s : State) (t n : Nat) : State :=
  forEach (s.groupsOf t n) (fun g s => if s.debugHeld g then s else (s.oweScan g).refreshGState g) s

/-! ### Start (R203) -/

/-- The grid registers are within the limits of R199. -/
def State.gridOk (s : State) (g : Nat) : Bool :=
  let p := s.field (.SC_PERIOD g) 0 29
  let o := s.field (.SC_OFFSET g) 0 29
  let l := s.field (.SC_FREEZELAT g) 0 16
  decide (400 ≤ p ∧ p ≤ 400000000 ∧ 1 ≤ o ∧ o ≤ p ∧ s.field (.SC_PHASE g) 0 29 < p ∧ 1 ≤ l ∧ l < o)

/-- Two slices have a line in common. -/
def sliceOverlap (a b : Word) (cb sb : Nat) : Bool :=
  decide (0 < fld a 16 cb ∧ 0 < fld b 16 cb ∧ fld a 0 sb < fld b 0 sb + fld b 16 cb ∧ fld b 0 sb < fld a 0 sb + fld a 16 cb)

/-- Check 0x3: every slice lies within its view and overlaps no slice of a group that is not IDLE. -/
def State.slicesOk (s : State) (g : Nat) : Bool :=
  let inView := fun (r : Reg) (cb sb n : Nat) => decide (s.field r 0 sb + s.field r 16 cb ≤ n)
  inView (.SC_ISLICE g) 15 14 (s.viewSize .I / 64) && inView (.SC_QSLICE g) 15 14 (s.viewSize .Q / 64)
    && inView (.SC_MSLICE g) 14 13 (s.viewSize .M / 64)
    && (List.range 8).all (fun h => h == g || s.gIdle h ||
      (!sliceOverlap (s.rd (.SC_ISLICE g)) (s.rd (.SC_ISLICE h)) 15 14
        && !sliceOverlap (s.rd (.SC_QSLICE g)) (s.rd (.SC_QSLICE h)) 15 14
        && !sliceOverlap (s.rd (.SC_MSLICE g)) (s.rd (.SC_MSLICE h)) 14 13))

/-- The active map of a tile has a FIXED entry for a thread (R72). -/
def State.fixedEntry (s : State) (t n : Nat) : Bool := (s.tile t).activeMap.contains (1, n)

/-- Check 0x4 on the members. -/
def State.membersOk (s : State) (g : Nat) : Bool :=
  !(s.members g).isEmpty && (s.members g).all (fun x =>
    s.thState x.1 x.2 == 0 && s.thClass x.1 x.2 == 1 && s.fixedEntry x.1 x.2
      && (List.range 8).all (fun h => h == g || s.gIdle h || !s.isMember h x.1 x.2))

/-- Check 0x5 on the SC_OWN entries of the Q slice. -/
def State.ownersOk (s : State) (g : Nat) : Bool :=
  s.own.all (fun x => let b := s.ownAt x.1
    !(s.inQSlice g (x.1 / 16)) || !bit b 7 || s.isMember g (fld b 4 3) (fld b 0 4))

/-- Check 0x6: the reservation is held, or asks for no grains (R443). -/
def State.rsvOk (s : State) (g : Nat) : Bool := s.flag (.AP_RSV g) 30 || s.field (.AP_RSV g) 0 10 == 0

/-- The outcome of the checks that are judged on the accepting edge. -/
def State.startVerdict (s : State) (g : Nat) : Nat :=
  if !s.gridOk g then 1
  else if s.field .SC_IMGSIZE 0 9 = 0 ∨ s.field (.SC_ISLICE g) 16 15 = 0 then 2
  else if !s.slicesOk g then 3
  else if !s.membersOk g then 4
  else if !s.rsvOk g then 6
  else 0

/-- RUN = 1 on an IDLE group: the checks start, and STATE reads ARMED. -/
def State.scanStart (s : State) (g : Nat) : State :=
  let v := s.startVerdict g
  (s.setGState g 1).setGroup g { groupReset with checking := true, verdict := v, latest := (s.group g).latest, pubs := (s.group g).pubs }

/-- The group becomes IDLE: its slices lose their swap state, their first-view locations holding what the filling and the
published bank hold, and an armed edit returns to READY (R204, R238). -/
def State.becomeIdle (s : State) (g : Nat) : State :=
  let x := s.group g
  let j := fun (k : CopyKind) (r : Reg) => (⟨k, g, sliceLines (s.rd r) 15 14, true, 0, 0, 0⟩ : CopyJob)
  let s := if x.stopCopies && !x.iSwap then s.runCopy (j .stopIn (.SC_ISLICE g)) else s
  let s := if x.stopCopies && !x.qSwap then s.runCopy (j .stopOut (.SC_QSLICE g)) else s
  let s := (s.setGroup g { groupReset with latest := x.latest, pubs := x.pubs }).setGState g 0
  let s := { s with copies := s.copies.filter (fun j => j.group ≠ g) }
  if s.field (.SC_EDITSTAT g) 0 3 = 3 && !(s.edit g).applying then s.setField (.SC_EDITSTAT g) 0 3 2 else s

/-- The timebase at which a copy ends that starts once its edge has come and the engine is free, at eight lines in each
FABCLK cycle; its sampled lines wait `wait` cycles for their samples (R207, R209). -/
def CopyJob.ends (j : CopyJob) (free wait : Nat) : Nat :=
  max (max j.edge free + 2 * ceilDiv j.total 8) (if j.sampled = 0 then 0 else j.edge + 2 * (wait + ceilDiv j.sampled 8))

/-- A copy ends: its lines have moved, and of an input copy SC_CPYTIME records the cycles from the freeze edge (R209). -/
def State.finishCopy (s : State) (j : CopyJob) (wait : Nat) : State :=
  let e := j.ends s.copyFree wait
  let s := { s.runCopy j with copyFree := e }
  if j.kind = .input then
    let n := min 0xFFFF ((e - j.edge) / 2)
    (s.setField (.SC_CPYTIME j.group) 0 16 n).setField (.SC_CPYTIME j.group) 16 16 (max n (s.field (.SC_CPYTIME j.group) 16 16))
  else s

/-- Every copy of a group that still waits ends, in order. -/
def State.flushCopies (s : State) (g : Nat) (p : CopyKind → Bool) : State :=
  let js := s.copies.filter (fun j => j.group == g && p j.kind)
  let s := forEach js (fun j s => s.finishCopy j 0) s
  { s with copies := s.copies.filter (fun j => !(j.group == g && p j.kind)) }

/-- A member waits for the release of R160. -/
def State.toReleaseWait (s : State) (t n : Nat) : State := (s.setThState t n 2).setWait t n .release

/-- The checks end (R203): the group returns to IDLE with the cause, or starts. -/
def State.startChecksEnd (s : State) (g : Nat) : State :=
  let x := s.group g
  if !x.checking then s
  else
    let code := if x.verdict ≠ 0 ∧ x.verdict ≠ 6 then x.verdict else if !s.ownersOk g then 5 else x.verdict
    if code ≠ 0 then
      ((s.becomeIdle g).setField (.SC_GSTAT g) 12 4 code).setFlag (.SC_GSTAT g) 4 true
    else
      let s := s.setGroup g { groupReset with pend := s.freezeAt g (s.freezeFrom g (s.now + 16000)), latest := x.latest, pubs := x.pubs }
      let s := ((s.setField (.SC_GSTAT g) 16 16 0).wr (.SC_DETLOST g) 0).wr (.SC_DETSCAN g) 0
      let s := if s.field (.SC_PERIOD g) 0 29 % 2 = 1 then s.detLost g 11 else s
      let s := s.queueCopy .startIn g (sliceLines (s.rd (.SC_ISLICE g)) 15 14) false 0
      let s := s.queueCopy .startOut g (sliceLines (s.rd (.SC_QSLICE g)) 15 14) false 0
      forEach (s.members g) (fun m s => s.toReleaseWait m.1 m.2) s

/-! ### Stop (R204) -/

/-- The entry address of a member: the base of the active bank plus four times its thread number (R206). -/
def State.entryAddress (s : State) (g n : Nat) : Word := word ((s.bankRange g (s.activeBank g)).1 + 4 * n)


/-- Queue the stop copies: the filling bank of the input slice and the published bank of the output slice move to the
first-view location unless they lie there (R204). With nothing to move the group is IDLE at once. -/
def State.beginStopCopies (s : State) (g : Nat) : State :=
  let s := s.flushCopies g (fun _ => true)
  let x := s.group g
  let il := if x.iSwap then [] else sliceLines (s.rd (.SC_ISLICE g)) 15 14
  let ql := if x.qSwap then [] else sliceLines (s.rd (.SC_QSLICE g)) 15 14
  let s := s.setGroup g { x with stopCopies := true }
  if il.isEmpty && ql.isEmpty then s.becomeIdle g
  else
    let s := if il.isEmpty then s else s.queueCopy .stopIn g il true 0
    if ql.isEmpty then s else s.queueCopy .stopOut g ql true 0

/-- A member of a STOPPING group leaves it if it waits for the release, is HELD or is STOPPED (R204). -/
def State.leaveOne (s : State) (g t n : Nat) : State :=
  let x := s.group g
  if x.left.contains (t, n) then s
  else if s.thState t n = 2 ∧ (s.thread t n).wait = .release then
    ((s.setGroup g { x with left := x.left ++ [(t, n)] }).setThState t n 0 |>.setWait t n .none).wr (.TH_PC t n) (s.entryAddress g n)
  else if s.thState t n = 0 ∨ s.thState t n = 5 then s.setGroup g { x with left := x.left ++ [(t, n)] }
  else s

/-- Every member has left. -/
def State.allLeft (s : State) (g : Nat) : Bool := (s.members g).all (fun m => (s.group g).left.contains m)

/-- What a STOPPING group does after a change of its members: they leave, and with the last one gone and no scan open
the stop copies begin (R204). -/
def State.checkStopping (s : State) (g : Nat) : State :=
  if s.gState g ≠ 3 then s
  else
    let s := forEach (s.members g) (fun m s => s.leaveOne g m.1 m.2) s
    let x := s.group g
    if s.allLeft g && x.scan.isNone && !x.stopCopies then s.beginStopCopies g else s

/-- The groups of a thread after a change of its state (R204, R220). -/
def State.threadChanged (s : State) (t n : Nat) : State :=
  forEach (s.groupsOf t n) (fun g s => (s.checkStopping g).refreshGState g) s

/-- Every group after a change of several threads: one whose halted member is halted no longer leaves DEBUG-HOLD. -/
def State.threadsChanged (s : State) : State := forEach (List.range 8) (fun g s => (s.checkStopping g).refreshGState g) s

/-- RUN = 0 (R204). -/
def State.scanStop (s : State) (g : Nat) : State :=
  let c := s.gState g
  if c = 0 ∨ c = 3 then s
  else if (s.group g).checking then s.becomeIdle g
  else if c = 1 then
    let s := forEach (s.members g) (fun m s => if (s.thread m.1 m.2).wait = .release then
      ((s.setThState m.1 m.2 0).setWait m.1 m.2 .none).wr (.TH_PC m.1 m.2) (s.entryAddress g m.2) else s) s
    (s.setGState g 3).beginStopCopies g
  else
    let x := s.group g
    ((s.setGState g 3).setGroup g { x with frozen := none, left := [] }).checkStopping g

/-- The stop copies have ended. -/
def State.stopCopiesEnd (s : State) (g : Nat) : State :=
  if (s.group g).stopCopies then (s.flushCopies g (fun _ => true)).becomeIdle g else s

/-! ### Engine samples (R207, R325) -/

/-- The engines that sample at a freeze of the group: IEN set, the word in the input slice, the group of engines ready. -/
def State.samplers (s : State) (g : Nat) : List (Nat × Nat) :=
  s.regs.filterMap (fun x => match x.1 with
    | .FE_SIO t e =>
      if s.flag (.FE_SIO t e) 30 && s.inISlice g (s.field (.FE_SIO t e) 0 18 / 16) && s.ready 1 (4 * t + e / 8)
      then some (t, e) else none
    | _ => none)

/-- The levels of the engine's group signals 0 to WIDTH - 1, from the levels of all field signals. -/
def State.groupLevels (s : State) (t e : Nat) (levels : BitVec 512) : Nat :=
  fld levels (64 * t + s.field (.FE_PINS t e) 8 6) (min 8 (s.field (.FE_PINS t e) 0 4))

/-! ### Edits at a freeze (R237) -/

/-- The swap: ABANK flips, ACTIVE takes PKGID, EVIN[22] of every member sets and the applier starts (R237, R238). -/
def State.editSwap (s : State) (g : Nat) : State :=
  let s := s.setFlag (.SC_GCTL g) 8 (s.activeBank g == 0)
  let s := s.setField (.SC_EDITID g) 0 16 (s.field (.SC_EDITID g) 16 16)
  let s := forEach (s.members g) (fun m s => s.setEvent m.1 m.2 22) s
  s.setEdit g { s.edit g with applying := true }

/-- The swap or the miss of an armed edit at freeze `k`. -/
def State.freezeEdit (s : State) (g k : Nat) : State :=
  if s.field (.SC_EDITSTAT g) 0 3 ≠ 3 || (s.edit g).applying then s
  else
    let tgt := (s.rd (.SC_EDITTGT g 1)).toNat * 2 ^ 32 + (s.rd (.SC_EDITTGT g 0)).toNat
    if k = tgt then s.editSwap g
    else if tgt < k then (s.setField (.SC_EDITSTAT g) 0 3 5).detLost g 10
    else s

/-! ### Freeze (R205, R207, R201) -/

/-- A passed instant of the group: TSTEP and PHASE (R201, R226). -/
def State.tstep (s : State) (g : Nat) : State := (s.setFlag (.SC_GSTAT g) 7 true).detLost g 11

/-- The takeover merge of R414: every local-bank line whose dirty mark is clear takes the mirror-bank line. -/
def State.mergeLocal (s : State) (g : Nat) : State :=
  let j : CopyJob := ⟨.input, g, (sliceLines (s.rd (.SC_ISLICE g)) 15 14).filter (fun l => !s.fDirty.contains l), (s.group g).iSwap, 0, 0, 0⟩
  s.runCopy j

/-- Freeze `k` is taken (R205, R207, R237, R410, R414). -/
def State.takeFreeze (s : State) (g k : Nat) (levels : BitVec 512) : State :=
  let s := s.flushCopies g (fun c => c == .startIn || c == .startOut || c == .input)
  let take := s.mirror.takeover.contains g
  let s := if take then s.mergeLocal g else s
  let synced := s.miSynced g && !take
  let x := s.group g
  let x := { x with latest := k, begun := true, iSwap := if synced then x.iSwap else !x.iSwap,
                    frozen := if x.late ≠ .none ∨ x.restoring then none else some k }
  let s := (s.setGroup g x).refreshGState g
  let base := s.resolve .I (64 * s.field (.SC_ISLICE g) 0 14)
  let s := s.putGood (smBase + base) (leBytes 8 (s.freezeAt g k) ++ leBytes 8 k)
  let s := ((s.wr (.SC_TFREEZE g 0) (word (s.freezeAt g k))).wr (.SC_TFREEZE g 1) (word (s.freezeAt g k / 2 ^ 32))).wr
    (.SC_SCANNO g) (word k)
  let view := if synced then View.F else .I
  let sm := s.samplers g
  let s := forEach sm (fun e s =>
    s.putGood (smBase + s.resolve view (4 * s.field (.FE_SIO e.1 e.2) 0 18)) (leBytes 4 (s.groupLevels e.1 e.2 levels))) s
  let s := if synced then
      forEach sm (fun e s => let l := s.field (.FE_SIO e.1 e.2) 0 18 / 16
        { s with fDirty := if s.fDirty.contains l then s.fDirty else s.fDirty ++ [l] }) s
    else
      let sampled := sm.map (fun e => s.field (.FE_SIO e.1 e.2) 0 18 / 16)
      let lines := (sliceLines (s.rd (.SC_ISLICE g)) 15 14).filter (fun l => take || s.fDirty.contains l || sampled.contains l)
      s.queueCopy .input g lines x.iSwap (lines.filter sampled.contains).length
  s.freezeEdit g k

/-- The pending instant is over: the next one is the first of the grid after the present timebase, and any that the
timebase has passed meanwhile are not taken (R201). -/
def State.passInstant (s : State) (g : Nat) : State :=
  let x := s.group g
  let t := s.instantAfter g (max s.now x.pend)
  let s := if s.instantAfter g x.pend < t then s.tstep g else s
  s.setGroup g { s.group g with pend := t, half := false }

/-- The pending instant is reached and over. -/
def State.takeInstant (s : State) (g : Nat) : State := (s.reach (s.group g).pend).passInstant g

/-- The pending instant brings nothing about: a freeze of a group that takes none, a commit instant before freeze 0 or held
back, a release of nothing (R203, R204, R217, R220). -/
def State.instantIdle (s : State) (g : Nat) : Bool :=
  let x := s.group g
  (!s.freezeDue g || s.gState g == 3 || s.seqHeld g || x.late == .hold)
    && (!s.commitDue g || !x.begun || s.seqHeld g) && (!s.releaseDue g || x.frozen.isNone)

/-- The sequencer has instants of the group to judge: it is not IDLE and its start checks are over. -/
def State.onGrid (s : State) (g : Nat) : Bool := !s.gIdle g && !(s.group g).checking

/-- Pending instants that bring nothing about pass, until `due` holds of the pending one. -/
def State.passIdle (due : State → Nat → Bool) : Nat → State → Nat → State
  | 0, s, _ => s
  | n + 1, s, g => if s.onGrid g && !due s g && s.instantIdle g then State.passIdle due n (s.takeInstant g) g else s

/-- The freeze instant of the group that is pending (R201, R207, R217, R218, R410): taken, skipped under HOLD, or not taken.
The Bool tells whether it was taken. -/
def State.scanFreeze (s : State) (g : Nat) (levels : BitVec 512) : State × Bool × Nat :=
  if !s.onGrid g || !s.freezeDue g then (s, false, 0)
  else
    let k := s.nextFreeze g
    let s := s.takeInstant g
    if s.gState g == 3 || s.seqHeld g || (s.group g).late == .hold then (s, false, k) else (s.takeFreeze g k levels, true, k)

/-! ### Release (R211, R217, R219, R410) -/

/-- A commit copy of the group, or a copy ahead of and including its own input copy, still runs (R211). -/
def State.copiesLate (s : State) (g : Nat) : Bool :=
  (List.range s.copies.length).any (fun i => match s.copies[i]? with
    | some j => j.group == g && ((j.kind == .commit && !j.lines.isEmpty)
        || (j.kind == .input && (s.copies.take (i + 1)).any (fun k => !k.lines.isEmpty)))
    | none => false)

/-- A member continues at its entry address (R160, R206). -/
def State.releaseMember (s : State) (g t n : Nat) : State :=
  if (s.thread t n).wait = .release then
    (if s.thState t n = 4 then s else s.setThState t n 1).setWait t n .none |>.wr (.TH_PC t n) (s.entryAddress g n)
  else s

/-- The release instant of the group that is pending: the scan frozen and not yet released, if there is one, is released. No
member runs before the applier of a swap has ended (R237). -/
def State.scanRelease (s : State) (g : Nat) : State :=
  if !s.onGrid g || !s.releaseDue g then s
  else
    let s := (s.takeInstant g).applierEnd g
    let x := s.group g
    match x.frozen with
    | none => s
    | some k =>
      if s.gState g == 3 then s
      else if s.miSynced g && !s.mirror.takeover.contains g && !(mget s.mirror.frz 0 g == k + 1) then
        { s.setGroup g { x with frozen := none } with mirror := { s.mirror with heldScan := mset s.mirror.heldScan g k } }
      else
        let s := s.setGroup g { x with frozen := none, scan := some k, done := [] }
        let s := if s.copiesLate g then (s.setFlag (.SC_GSTAT g) 6 true).detLost g 12 else s
        forEach (s.members g) (fun m s => s.releaseMember g m.1 m.2) s

/-! ### Marks, restore, commit (R213 to R219) -/

/-- Every member has marked the open scan done. -/
def State.allDone (s : State) (g : Nat) : Bool := (s.members g).all (fun m => (s.group g).done.contains m)

/-- The dirty lines of the group's output slice. -/
def State.qDirtyOf (s : State) (g : Nat) : List Nat := s.qDirty.filter (fun l => s.inQSlice g l)

/-- The restore copy of a discarded scan ends, or had nothing to move (R219). -/
def State.restoreEnd (s : State) (g : Nat) : State := s.setGroup g { s.group g with restoring := false }

/-- A discarded scan is finished: the output slice is restored from the published bank (R219). -/
def State.beginRestore (s : State) (g : Nat) : State :=
  let lines := s.qDirtyOf g
  let x := s.group g
  let s := s.setGroup g { x with scan := none, late := .none, restoring := !lines.isEmpty }
  let s := s.refreshGState g
  if lines.isEmpty then s else s.queueCopy .restore g lines (!x.qSwap) 0

/-- SCANEND of a member marks the group's current scan (R160, R213, R219). -/
def State.markDone (s : State) (g t n : Nat) : State :=
  let x := s.group g
  let s := s.setGroup g { x with done := if x.done.contains (t, n) then x.done else x.done ++ [(t, n)] }
  let s := if x.scan.isSome && x.late == .skip && s.allDone g then s.beginRestore g else s
  s.checkStopping g

/-- The engines of the slice apply their shadows (R214, R325). -/
def State.applyShadows (s : State) (g : Nat) : State :=
  forEach (s.regs.filterMap (fun x => match x.1 with | .FE_SIO t e => some (t, e) | _ => none)) (fun e s =>
    if s.flag (.FE_SIO e.1 e.2) 31 && s.inQSlice g (s.field (.FE_SIO e.1 e.2) 0 18 / 16) && s.ready 1 (4 * e.1 + e.2 / 8)
    then s.setEngine e.1 e.2 { s.engine e.1 e.2 with applied := (s.engine e.1 e.2).shadow } else s) s

/-- The commit of the open scan (R214): the banks swap, the copy-forward is queued and the shadows are applied. -/
def State.publish (s : State) (g : Nat) : State :=
  let s := s.flushCopies g (fun c => c == .commit || c == .restore || c == .startOut)
  let x := s.group g
  let lines := s.qDirtyOf g
  let x' : Group := { x with qSwap := !x.qSwap, scan := none, done := [], late := .none, owed := false }
  let s := s.setGroup g { x' with pubs := x.pubs + 1, pubScan := x.scan }
  let s := s.queueCopy .commit g lines x.qSwap 0
  (s.applyShadows g).refreshGState g

/-- The effects of an overrun (R216). -/
def State.overrun (s : State) (g : Nat) : State :=
  let s := s.setField (.SC_GSTAT g) 16 16 (satAdd 0xFFFF (s.field (.SC_GSTAT g) 16 16) 1)
  ((s.setFlag (.SC_GSTAT g) 5 true).detLost g 0).raise (64 + g)

/-- What a commit instant came to (R411): nothing evaluated, a commit, an overrun. -/
inductive CommitKind where
  | none | committed | overrun
deriving DecidableEq, Repr

/-- The open scan of a STOPPING group can no longer be marked by a member that has left (R204). -/
def State.cannotFinish (s : State) (g : Nat) : Bool :=
  s.gState g == 3 && (s.members g).any (fun m => (s.group g).left.contains m && !(s.group g).done.contains m)

/-- The commit instant of a group with an open scan that is not done: the late policies (R204, R216 to R219). -/
def State.lateScan (s : State) (g : Nat) : State × CommitKind :=
  let x := s.group g
  if s.cannotFinish g then
    (((s.setGroup g { x with scan := none, late := .none, owed := false }).overrun g).checkStopping g, .overrun)
  else if x.owed then ((s.setGroup g { x with late := .hold }).refreshGState g, .none)
  else
    let pol := if x.late ≠ .none then x.late else if s.flag .SC_OVRPOL g then .skip else .hold
    (((s.setGroup g { x with late := pol }).overrun g).refreshGState g, .overrun)

/-- The commit instant that is pending is reached; a freeze on the same edge is then pending still (R202). -/
def State.takeCommit (s : State) (g : Nat) : State :=
  if s.freezeDue g then
    let s := s.reach (s.group g).pend
    s.setGroup g { s.group g with half := true }
  else s.takeInstant g

/-- The commit instant of the group that is pending (R201, R214, R216 to R220, R429), with its kind and its scan number. -/
def State.scanCommit (s : State) (g : Nat) : State × CommitKind × Nat :=
  if !s.onGrid g || !s.commitDue g then (s, .none, 0)
  else
    let c := s.gState g
    let k := s.nextCommit g
    let s := s.takeCommit g
    let x := s.group g
    if s.seqHeld g || !x.begun then (s, .none, k)
    else match x.scan with
    | some j =>
      if s.allDone g && x.late ≠ .skip then ((s.publish g).checkStopping g, .committed, j)
      else let r := s.lateScan g; (r.1, r.2, j)
    | none =>
      let held := mget s.mirror.heldScan 0 g == k && s.miSynced g
      let s := { s with mirror := { s.mirror with heldScan := s.mirror.heldScan.filter (fun y => y.1 ≠ g) } }
      if c = 3 || held || x.latest ≠ k then (s, .none, k) else (s.overrun g, .overrun, k)

/-! ### The copy queue (R209) -/

/-- The copy at the head of the queue ends; its freeze samples, if it has any, were written `wait` FABCLK cycles after the
freeze edge (R207, R209). -/
def State.copyEnd (s : State) (wait : Nat) : State :=
  match s.copies with
  | [] => s
  | j :: rest =>
    let s := { (s.finishCopy j wait) with copies := rest }
    let g := j.group
    match j.kind with
    | .restore => s.restoreEnd g
    | .stopIn | .stopOut => if rest.any (fun k => k.group == g) then s else s.becomeIdle g
    | _ => s

/-! ### Steps of the timebase (R201, R226, R351) -/

/-- The timebase steps from its present value to `t`, an adjustment by `amount`: a group that is not IDLE records an
instant stepped across, or any backward step; an amount that is not a multiple of 16 units breaks the slot phase. -/
def State.stepTimebase (s : State) (t : Nat) (amount : Int) : State :=
  let old := s.now
  let shift := fun (e : Nat) => e + t - old
  let s := { (s.setNow t).chanShift shift with copyFree := shift s.copyFree, copies := s.copies.map (fun j => { j with edge := shift j.edge }) }
  forEach (List.range 8) (fun g s =>
    if s.gIdle g then s
    else
      let across := s.onGrid g && decide ((s.group g).pend < t)
      let s := if t < old || across then s.tstep g else s
      if amount % 16 ≠ 0 then s.detLost g 11 else s) s

end Sys2Proof.Machine
end

