-- ==== Sys2Proof/Machine/Edits.lean ====
section
/-! DEFINITION. Online edits: the checks and the loading of packages, and arming (R229 to R238). -/

namespace Sys2Proof.Machine

/-- Check 0x1 of R235 on the header. -/
def headerOk (p : List Byte) : Bool :=
  pkgField p 0 4 == 0x54444945 && decide (pkgField p 4 1 < 8) && pkgField p 6 2 == 0 && pkgField p 16 2 != 0
    && pkgField p 18 2 == 0 && pkgField p 36 28 == 0 && pkgCode p % 64 == 0 && decide (64 ≤ pkgCode p)

/-- A record is valid under R233. -/
def State.initOk (s : State) (g : Nat) (p : List Byte) (i : Nat) : Bool :=
  let a := initWord p i 0
  let w := fld a 0 17
  fld a 17 6 == 0 && initWord p i 3 == 0 &&
  match fld a 30 2 with
  | 0 => s.memberTile g (fld a 27 3)
  | 1 => s.inMSlice g (w / 16)
  | 2 => decide (4 * w < s.viewSize .H)
  | _ => s.isMember g (fld a 27 3) (fld a 23 4)

/-- An ownership record is valid under R234. -/
def State.ownRecOk (s : State) (g : Nat) (r : Word) : Bool :=
  fld r 18 6 == 0 && s.inQSlice g (fld r 0 18 / 16) && (!bit r 31 || s.isMember g (fld r 28 3) (fld r 24 4))

/-- The first failing check of R235 on the header. -/
def State.headFailure (s : State) (g : Nat) (p : List Byte) : Option Nat :=
  if p.length < 64 then none
  else if !headerOk p then some 0x1
  else if pkgField p 4 1 ≠ g then some 0xA
  else if (pkgTiles p).isEmpty || (pkgTiles p).any (fun t => !s.memberTile g t) then some 0x4
  else if 4096 < pkgInits p ∨ 262144 < pkgOwns p ∨ (s.bankRange g 0).2 < pkgCode p
      ∨ (s.bankRange g 0).2 < pkgCode p + 16 * pkgInits p + 4 * pkgOwns p then some 0x3
  else none

/-- The first failing check of R235 on the records and the CRC, as far as the bytes have arrived. -/
def State.pkgFailure (s : State) (g : Nat) (p : List Byte) : Option Nat :=
  if p.length < 64 then none
  else
    let ni := min (pkgInits p) ((p.length - pkgRecs p) / 16)
    let no := min (pkgOwns p) ((p.length - pkgRecs p - 16 * pkgInits p) / 4)
    if (List.range ni).any (fun i => !s.initOk g p i) then some 0x5
    else if (List.range no).any (fun i => !s.ownRecOk g (ownRec p i)) then some 0x6
    else if pkgSize p ≤ p.length && crc32 ((p.take 32 ++ [0, 0, 0, 0] ++ p.drop 36).take (pkgSize p)) != word (pkgField p 32 4)
    then some 0x2
    else none

/-- Where byte `i` of the package lies in the shadow banks: its block-window offset (R232). -/
def State.pkgDest (s : State) (g : Nat) (p : List Byte) (i : Nat) : Nat :=
  let base := (s.bankRange g (1 - s.activeBank g)).1
  if i < pkgRecs p then
    spBase ((pkgTiles p).getD ((i - 64) / pkgCode p) 0) + base + (i - 64) % pkgCode p
  else spBase ((pkgTiles p).headD 0) + base + pkgCode p + (i - pkgRecs p)

/-- The indices of the package bytes from `lo` on that go to a shadow bank. -/
def pkgIdx (p : List Byte) (lo : Nat) : List Nat := (List.range (p.length - max lo 64)).map (fun k => max lo 64 + k)

/-- A byte of the package would go to the active bank of a group that is not IDLE: the write of the ring is refused (R230). -/
def State.pkgBlocked (s : State) (g : Nat) (p : List Byte) (lo : Nat) : Bool :=
  (pkgIdx p lo).any (fun i => let a := s.pkgDest g p i - 0x2000000; s.inActive (a / 0x80000) (a % 0x80000))

/-- Write the package bytes from index `lo` on to the shadow banks; where they lie in the shadow bank of another group too,
that group's edit is refused (R230). -/
def State.pkgStore (s : State) (g : Nat) (p : List Byte) (lo : Nat) : State :=
  forEach (pkgIdx p lo) (fun i s =>
    let d := s.pkgDest g p i
    let a := d - 0x2000000
    ({ s with mem := memSet s.mem d (p.getD i 0) }.eccGood (d / 4 * 4)).touchShadowOf (· != g) (a / 0x80000) (a % 0x80000)) s

/-- The load is refused with a cause. -/
def State.pkgRefuse (s : State) (g c : Nat) : State × Bool := ((s.editCause g c).setEditState g 6, true)

/-- Bytes of a package arrive (R235). `first`: they begin it; `last`: nothing follows, so a package that its header gives
another size fails as a malformed one (R284). The bytes that arrived are in the shadow bank when a record fails. The Bool
tells whether the package was refused now. -/
def State.loadPackage (s : State) (g : Nat) (ring : Nat × Nat) (first last : Bool) (bs : List Byte) : State × Bool :=
  if first && s.editState g == 3 then (s.editCause g 0xB, true)
  else
    let e := if first then { editReset with ring := some ring } else s.edit g
    let s := if first then s.setEditState g 1 else s
    if s.editState g ≠ 1 then (s, true)
    else
      let old := e.bytes.length
      let p := e.bytes ++ bs
      let s := s.setEdit g { e with bytes := p }
      match s.headFailure g p with
      | some c => s.pkgRefuse g c
      | none =>
        if 64 ≤ p.length && decide (pkgSize p < p.length) then s.pkgRefuse g 1
        else if 64 ≤ p.length && s.pkgBlocked g p old then s.pkgRefuse g 0xC
        else
          let s := if 64 ≤ p.length then s.pkgStore g p old else s
          match s.pkgFailure g p with
          | some c => s.pkgRefuse g c
          | none =>
            if 64 ≤ p.length && p.length == pkgSize p then
              let s := s.setEditState g 2
              let s := (s.wr (.SC_EDITTGT g 0) (word (pkgField p 8 4))).wr (.SC_EDITTGT g 1) (word (pkgField p 12 4))
              (s.setField (.SC_EDITID g) 16 16 (pkgField p 16 2), false)
            else if last then s.pkgRefuse g 1
            else (s, false)

/-! ### Arming (R236, R238) -/

/-- The applier time A of R236 in FABCLK cycles. -/
def applierTime (p : List Byte) : Nat :=
  pkgInits p + 7 * ((List.range (pkgInits p)).filter (fun i => fld (initWord p i 0) 30 2 == 0)).length + ceilDiv (pkgOwns p) 8

/-- SC_EDITTGT as a number. -/
def State.editTarget (s : State) (g : Nat) : Nat := (s.rd (.SC_EDITTGT g 1)).toNat * 2 ^ 32 + (s.rd (.SC_EDITTGT g 0)).toNat

/-- EDIT_ARM. -/
def State.armEdit (s : State) (g : Nat) : WriteRes :=
  let c := s.gState g
  if s.editState g ≠ 2 || c == 3 then (s.editCause g 9, some .state)
  else if c = 0 then ((s.setEditState g 3).editSwap g, none)
  else if s.editTarget g ≤ (s.group g).latest then (s.editCause g 7, some .state)
  else if 20 * s.field (.SC_FREEZELAT g) 0 16 ≤ applierTime (s.edit g).bytes then (s.editCause g 8, some .state)
  else (s.setEditState g 3, none)

/-- CANCEL: an armed edit whose swap has not taken place returns to READY. -/
def State.cancelEdit (s : State) (g : Nat) : State :=
  if s.editState g = 3 && !(s.edit g).applying then s.setEditState g 2 else s

/-- A write of SC_EDITCTL. With both fields 1, CANCEL acts on the armed edit and ARM on the state before. -/
def State.editCtlWrite (s : State) (g : Nat) (v : Word) : WriteRes :=
  if bit v 1 && s.editState g == 3 then (s.cancelEdit g, none)
  else if bit v 0 then s.armEdit g
  else (s, none)

/-- A write of SC_EDITTGT (R236). -/
def State.editTgtWrite (s : State) (g i : Nat) (v : Word) : WriteRes :=
  if s.editState g = 2 then (s.wr (.SC_EDITTGT g i) v, none)
  else if s.editState g = 5 then ((s.wr (.SC_EDITTGT g i) v).setEditState g 2, none)
  else (s, some .state)

/-! ### Commands -/

/-- EDIT_APPLIER_END (R237). -/
def execEditApplierEnd (g : Nat) (s : State) : Out := guarded (decide (g < 8)) (s.applierEnd g)

end Sys2Proof.Machine
end

