-- ==== Sys2Proof/Machine/Timers.lean ====
section
/-! DEFINITION. Timebase adjustment, always-on comparators and timer channels (R349 to R370), converter starts (R47,
R360) and pacing requests (R361). -/

namespace Sys2Proof.Machine

/-! ### Timebase (R349, R351) -/

/-- Round up to a multiple of 40, for signed amounts: 40 ceil(a / 40). -/
def ceil40 (a : Int) : Int := -((-a) / 40) * 40

/-- A written adjustment, as a signed number. -/
def signed32 (v : Word) : Int := v.toInt

/-- A time modulo 2^64. -/
def modTime (t : Int) : Nat := (t % (2 ^ 64 : Nat)).toNat

/-- A write of TB_ADJ (R351). -/
def State.tbAdjWrite (s : State) (v : Word) : WriteRes :=
  if s.flag .TB_STAT 2 || s.tbAdj.isSome then s.stateRefused
  else (({ s with tbAdj := some (signed32 v) } : State).setFlag .TB_STAT 1 true, none)

/-- The pending adjustment is applied (R351): on the next common edge while TMRCLK runs, otherwise with the next LFCLK
edge. -/
def State.tbAdjApply (s : State) : State :=
  match s.tbAdj with
  | none => s
  | some a =>
    let s := ({ s with tbAdj := none } : State).setFlag .TB_STAT 1 false
    if s.tmrStopped then s.lfCounting.stepTimebase (modTime (s.now + 1600 + a)) a
    else s.tmrCounting.stepTimebase (modTime ((ceilDiv s.now 40 * 40 : Nat) + ceil40 a)) a

/-! ### Comparators (R369, R370) -/

/-- The compare value of comparator `n`. -/
def State.cmpValue (s : State) (n : Nat) : Nat := (s.rd (.TB_CMP n 1)).toNat * 2 ^ 32 + (s.rd (.TB_CMP n 0)).toNat

/-- A wake source fires: in DOZE and SLEEP the request is kept until it is taken (R448). -/
def State.requestWake (s : State) (w : WakeSrc) : State :=
  if (s.blk = 5 ∨ s.blk = 6) && !s.wakes.contains w then { s with wakes := s.wakes ++ [w] } else s

/-- Comparator `n` fires, if it is armed. -/
def State.cmpFire (s : State) (n : Nat) : State :=
  if s.clk.porst || !s.flag (.TB_CMP n 3) 31 then s
  else
    let s := s.reach (s.cmpValue n)
    let s := (s.setFlag (.TB_CMP n 3) 0 true).sourcePulse (464 + n)
    let s := if s.flag (.TB_CMP n 3) 29 then s.requestWake (.comparator n) else s
    if s.flag (.TB_CMP n 3) 30 then
      let step := (s.rd (.TB_CMP n 2)).toNat * 1600
      let c := s.cmpValue n
      if step = 0 then s
      else
        let k := (s.now - c) / step + 1
        let s := (s.wr (.TB_CMP n 0) (word (c + k * step))).wr (.TB_CMP n 1) (word ((c + k * step) / 2 ^ 32))
        if 1 < k then s.setFlag (.TB_CMP n 3) 1 true else s
    else s.setFlag (.TB_CMP n 3) 31 false

/-- A write of a comparator word (R370). -/
def State.cmpWrite (s : State) (n i : Nat) (v : Word) : WriteRes :=
  if i < 2 ∧ s.flag (.TB_CMP n 3) 31 = true then s.stateRefused else (s.wr (.TB_CMP n i) v, none)

/-! ### Converter starts (R47, R360) -/

/-- A start of CONV_START[k]: the pin rises, or a running pulse is extended and MERGED sets. -/
def State.convStart (s : State) (k : Nat) : State :=
  if bit s.conv k then s.setFlag .TM_CONVSTAT k true else { s with conv := setBit s.conv k true }

/-! ### Channels (R352 to R358) -/

/-- The count of a channel. -/
def State.tmCount (s : State) (n : Nat) : Nat := s.field (.TM_CNT_HI n) 0 16 * 2 ^ 32 + (s.rd (.TM_CNT_LO n)).toNat
/-- Set the count of a channel. -/
def State.setTmCount (s : State) (n c : Nat) : State := (s.wr (.TM_CNT_LO n) (word c)).wr (.TM_CNT_HI n) (word (c / 2 ^ 32 % 2 ^ 16))
/-- The active PERIOD; 0 counts as 2^48 - 1 (R355). -/
def State.tmPeriod (s : State) (n : Nat) : Nat := if (s.timer n).period = 0 then 2 ^ 48 - 1 else (s.timer n).period
/-- The shadow of PERIOD. -/
def State.shadowPeriod (s : State) (n : Nat) : Nat := s.field (.TM_PMHI n) 16 16 * 2 ^ 32 + (s.rd (.TM_PERIOD n)).toNat
/-- The shadow of MATCH. -/
def State.shadowMatch (s : State) (n : Nat) : Nat := s.field (.TM_PMHI n) 0 16 * 2 ^ 32 + (s.rd (.TM_MATCH n)).toNat

/-- The compare level (R358). -/
def State.tmLevel (s : State) (n : Nat) : Bool := decide (s.tmCount n < (s.timer n).mtch)

/-- The channel counts: EN, RUN and its gate are 1 (R354, R362). -/
def State.tmCounting (s : State) (n : Nat) : Bool :=
  s.flag (.TM_CTL n) 31 && s.flag (.TM_CTL n) 30 && (s.field (.TM_CTL n) 21 2 != 1 || (s.timer n).gate)

/-- With GZSEL = 3 the Gauze source follows the compare level (R359). -/
def State.tmSyncLevel (s : State) (n : Nat) : State :=
  if s.field (.TM_ROUTE n) 30 2 = 3 then s.sourceEdge (400 + n) (s.tmLevel n) else s

/-- The armed values become active (R356). -/
def State.tmTransfer (s : State) (n : Nat) : State :=
  let x := s.timer n
  s.setTimer n { x with period := if x.armP then s.shadowPeriod n else x.period,
                        mtch := if x.armM then s.shadowMatch n else x.mtch, armP := false, armM := false }

/-- The update event: with PRELOAD the armed values become active (R355, R356). -/
def State.tmUev (s : State) (n : Nat) : State :=
  let s := s.setFlag (.TM_STAT n) 0 true
  if s.flag (.TM_CTL n) 25 then s.tmTransfer n else s

/-- The rising-edge width counter moves with each tick, saturating (R365). -/
def State.tmWidthTick (s : State) (n : Nat) : State :=
  let x := s.timer n
  s.setTimer n { x with sinceRise := x.sinceRise.map (fun k => min 0xFFFFFFFF (k + 1)) }

/-- One tick: the count moves (R355, R357) and a match shows (R358). The Bools are match and UEV. -/
def State.tmTick (s : State) (n : Nat) : State × Bool × Bool :=
  let s := if s.flag (.TM_CTL n) 25 then s else s.tmTransfer n
  let s := s.tmWidthTick n
  let c := s.tmCount n
  let p := s.tmPeriod n
  let mode := s.field (.TM_CTL n) 28 2
  let r : State × Bool :=
    if mode = 0 then
      (if p < c then ((s.setFlag (.TM_STAT n) 2 true).tmUev n |>.setTmCount n 0, true)
       else if c = p then ((s.tmUev n).setTmCount n 0, true)
       else (s.setTmCount n (c + 1), false))
    else if mode = 1 then
      let s := s.setFlag (.TM_STAT n) 8 true
      (if p < c then ((s.setFlag (.TM_STAT n) 2 true).setTmCount n p, false)
       else if c = 0 then (let s := s.tmUev n; s.setTmCount n (s.tmPeriod n), true)
       else (s.setTmCount n (c - 1), false))
    else
      (if p < c then (((s.setFlag (.TM_STAT n) 2 true).setFlag (.TM_STAT n) 8 true).setTmCount n p, false)
       else if s.flag (.TM_STAT n) 8 || c = p then
         (if c ≤ 1 then (((s.setFlag (.TM_STAT n) 8 false).tmUev n).setTmCount n 0, true)
          else ((s.setFlag (.TM_STAT n) 8 true).setTmCount n (c - 1), false))
       else ((s.setFlag (.TM_STAT n) 8 (decide (c + 1 = p))).setTmCount n (c + 1), false))
  let m := decide (r.1.tmCount n = (r.1.timer n).mtch)
  (if m then r.1.setFlag (.TM_STAT n) 1 true else r.1, m, r.2)

/-- Source cycles enter the prescaler; each tick that results is taken (R353). The numbers of matches and UEVs are
returned. -/
def State.tmFeed : Nat → State → Nat → State × Nat × Nat
  | 0, s, _ => (s, 0, 0)
  | k + 1, s, n =>
    let x := s.timer n
    let p := (s.rd (.TM_PRESC n)).toNat
    let acc := x.acc + 0x10000
    if p ≤ acc then
      let t := (s.setTimer n { x with acc := acc - p }).tmTick n
      let r := State.tmFeed k t.1 n
      (r.1, r.2.1 + t.2.1.toNat, r.2.2 + t.2.2.toNat)
    else State.tmFeed k (s.setTimer n { x with acc := acc }) n

/-- A master's event reaches its slaves on their next edge (R362, R363). -/
def State.tmNotifySlaves (s : State) (n : Nat) (m u : Bool) : State :=
  forEach (List.range 64) (fun k s =>
    let w := s.rd (.TM_CTL k)
    if bit w 31 && fld w 14 6 == n && decide (2 ≤ fld w 21 2) && (if bit w 20 then m else u) then
      s.setTimer k { s.timer k with linkPend := true }
    else s) s

/-- The ring that a channel paces, if its route is enabled (R361). -/
def State.pacesRing (s : State) (n p r : Nat) : Bool :=
  let w := s.rd (.TM_ROUTE n)
  s.flag (.TM_CTL n) 31 && fld w 16 2 != 0 && fld w 8 8 == r && fld w 7 1 == p

/-- Ring `r` of port `p` is paced (R361). -/
def State.paced (s : State) (p r : Nat) : Bool := (List.range 64).any (fun n => s.pacesRing n p r)

/-- A pacing request: counted up to 255, or discarded when the ring is not enabled. -/
def State.paceRequest (s : State) (p r : Nat) : State :=
  if s.flag (.RG_CFG p r) 31 then s.setRing p r { s.ring p r with pace := satAdd 255 (s.ring p r).pace 1 } else s

/-- The requests of a ring that no enabled route names any longer are cleared. -/
def State.dropPacing (s : State) : State :=
  { s with rings := s.rings.map (fun x => if s.paced x.1.1 x.1.2 then x else (x.1, { x.2 with pace := 0 })) }

/-- The routes of recorded events (R359 to R361): Gauze, thread event, pacing, and, unless in LFCLK mode, converter
starts. -/
def State.tmRoutes (s : State) (n : Nat) (m u conv : Bool) : State :=
  let w := s.rd (.TM_ROUTE n)
  let hit := fun (sel : Nat) => (sel % 2 == 1 && m) || (decide (2 ≤ sel) && u)
  let s := if fld w 30 2 = 3 then s else if hit (fld w 30 2) then s.sourcePulse (400 + n) else s
  let s := if hit (fld w 28 2) then s.setEvent (fld w 25 3) (fld w 21 4) (24 + fld w 18 3) else s
  let s := if hit (fld w 16 2) then s.paceRequest (fld w 7 1) (fld w 8 8) else s
  let s := if conv then
    forEach (List.range 16) (fun k s =>
      let v := s.rd (.TM_CONVSEL k)
      if bit v 31 && fld v 0 6 == n && hit (fld v 8 2) then s.convStart k else s) s
    else s
  (if m || u then s.tmNotifySlaves n m u else s).tmSyncLevel n

/-- The source cycles of LFCLK mode (R367). -/
def lfCycles (clksrc : Nat) : Nat := match clksrc with | 0 => 200 | 1 => 800 | 2 => 1 | _ => 0

/-- RESET of a slave: count 0 or PERIOD, with UEV; it counts as a tick that gives that value (R358, R362). -/
def State.tmLinkReset (s : State) (n : Nat) : State × Bool × Bool :=
  let s := s.tmUev n
  let s := if s.field (.TM_CTL n) 28 2 = 1 then s.setTmCount n (s.tmPeriod n)
    else (s.setFlag (.TM_STAT n) 8 false).setTmCount n 0
  let m := decide (s.tmCount n = (s.timer n).mtch)
  (if m then s.setFlag (.TM_STAT n) 1 true else s, m, true)

/-- The master's compare level as its slave sees it: 0 while the master is not enabled (R363). -/
def State.masterLevel (s : State) (n : Nat) : Bool :=
  let m := s.field (.TM_CTL n) 14 6
  s.flag (.TM_CTL m) 31 && s.tmLevel m

/-! ### Capture (R364, R365) -/

/-- A capture enters a FIFO of 2: OVCAP if it held an entry; with both full the newer one is replaced. -/
def enterCapture {α : Type} (l : List α) (a : α) : List α := if l.length < 2 then l ++ [a] else l.take 1 ++ [a]

/-- The channel captures an edge. -/
def State.tmCapture (s : State) (n : Nat) (rising : Bool) : State :=
  if !s.flag (.TM_CTL n) 24 then s
  else
    let x := s.timer n
    let c := word (s.tmCount n)
    let full := if rising then !x.rise.isEmpty else !x.fall.isEmpty
    let s := if rising then s.setTimer n { x with rise := enterCapture x.rise c, sinceRise := some 0 }
      else s.setTimer n { x with fall := enterCapture x.fall (c, word (x.sinceRise.getD 0xFFFFFFFF)) }
    if full then s.setFlag (.TM_STAT n) 6 true else s

/-- A read of TM_CAPRISE: the oldest entry, removed; 0 when empty. -/
def State.popRise (s : State) (n : Nat) : State × Word :=
  match (s.timer n).rise with
  | [] => (s, 0)
  | c :: r => (s.setTimer n { s.timer n with rise := r }, c)

/-- A read of TM_CAPFALL: the oldest entry, removed, its width loaded into TM_PWIDTH. -/
def State.popFall (s : State) (n : Nat) : State × Word :=
  match (s.timer n).fall with
  | [] => (s, 0)
  | c :: r => ((s.setTimer n { s.timer n with fall := r }).wr (.TM_PWIDTH n) c.2, c.1)

/-! ### Register writes -/

/-- EN of a channel rises (R354). -/
def State.tmEnRise (s : State) (n : Nat) : State :=
  let s := s.setTimer n { s.timer n with acc := 0, armP := true, armM := true, sinceRise := none }
  (s.tmTransfer n).setFlag (.TM_STAT n) 8 false

/-- A write of TM_CTL (R354, R355). -/
def State.tmCtlWrite (s : State) (n : Nat) (v : Word) : WriteRes :=
  let old := s.rd (.TM_CTL n)
  if fld v 28 2 = 3 then s.stateRefused
  else if bit old 31 && fld old 0 30 != fld v 0 30 then s.stateRefused
  else
    let s := s.wr (.TM_CTL n) v
    let s := if bit v 31 && !bit old 31 then s.tmEnRise n else s
    ((if bit old 31 && !bit v 31 then s.dropPacing else s).tmSyncLevel n, none)

/-- A write of TM_PRESC (R353, R354). -/
def State.tmPrescWrite (s : State) (n : Nat) (v : Word) : WriteRes :=
  if s.flag (.TM_CTL n) 31 || decide (v.toNat < (if s.field (.TM_CTL n) 26 2 = 1 then 0x40000 else 0x10000)) then s.stateRefused
  else (s.wr (.TM_PRESC n) v, none)

/-- A write of TM_ROUTE. A source that no longer follows the compare level is low between its pulses (R359). -/
def State.tmRouteWrite (s : State) (n : Nat) (v : Word) : WriteRes :=
  let s := if s.field (.TM_ROUTE n) 30 2 = 3 ∧ fld v 30 2 ≠ 3 then s.sourceEdge (400 + n) false else s
  (((s.wr (.TM_ROUTE n) v).dropPacing).tmSyncLevel n, none)

/-- A write of a counter register (R354). -/
def State.tmCntWrite (s : State) (n : Nat) (hi : Bool) (v : Word) : WriteRes :=
  if s.tmCounting n then s.stateRefused
  else ((s.wr (if hi then .TM_CNT_HI n else .TM_CNT_LO n) v).tmSyncLevel n, none)

/-- A write of the low word of a shadow arms its transfer (R356). -/
def State.tmShadowWrite (s : State) (n : Nat) (isMatch : Bool) (v : Word) : WriteRes :=
  let x := s.timer n
  if isMatch then ((s.wr (.TM_MATCH n) v).setTimer n { x with armM := true }, none)
  else ((s.wr (.TM_PERIOD n) v).setTimer n { x with armP := true }, none)

/-- TM_GSTART or TM_GSTOP: RUN of every named channel; a stop also ends a start request of the same edge (R354). -/
def State.tmGroupRun (s : State) (i : Nat) (start : Bool) (v : Word) : WriteRes :=
  (forEach (setBits v 32) (fun j s =>
    let n := 32 * i + j
    let s := s.setFlag (.TM_CTL n) 30 start
    if start then s else s.setTimer n { s.timer n with startReq := false }) s, none)

/-- The start and stop requests of one edge, resolved: a stop wins (R354). -/
def State.tmResolve (s : State) (n : Nat) : State :=
  let x := s.timer n
  let s := s.setTimer n { x with startReq := false, stopReq := false }
  if x.stopReq then s.setFlag (.TM_CTL n) 30 false else if x.startReq then s.setFlag (.TM_CTL n) 30 true else s

/-! ### Commands -/

/-- TIMEBASE_MODE_CHANGE (R200, R349): to LFCLK once TMRCLK has stopped; back on the first common edge, rounded up to a
multiple of 40. -/
def execTimebaseModeChange (lf : Bool) (s : State) : Out :=
  .next (if lf then s.lfCounting else if s.tmrStopped then s else s.tmrCounting)

/-- TIMEBASE_ADJUST_APPLY (R351). -/
def execTimebaseAdjustApply (s : State) : Out := .next s.tbAdjApply

/-- AO_COMPARATOR_FIRE (R369). -/
def execAoComparatorFire (n : Nat) (s : State) : Out := guarded (decide (n < 8)) (s.cmpFire n)

/-- TIMER_START_STOP (R354). -/
def execTimerStartStop (n : Nat) (s : State) : Out := guarded (decide (n < 64)) (s.tmResolve n)

/-- TIMER_SHADOW_TRANSFER (R356, R357): with PRELOAD = 0 the armed values become active. -/
def execTimerShadowTransfer (n : Nat) (s : State) : Out :=
  guarded (decide (n < 64)) (if s.flag (.TM_CTL n) 25 then s else (s.tmTransfer n).tmSyncLevel n)

/-- TIMER_CAPTURE (R364): with the capture task as source, only its firing counts, as a rising edge. -/
def execTimerCapture (n : Nat) (rising : Bool) (s : State) : Out :=
  guarded (decide (n < 64)) (if s.flag (.TM_CTL n) 23 && !rising then s else s.tmCapture n rising)

/-- CONV_START_PULSE_END (R47). -/
def execConvStartPulseEnd (k : Nat) (s : State) : Out :=
  guarded (decide (k < 16)) { s with conv := setBit s.conv k false }

end Sys2Proof.Machine
end

