-- ==== Sys2Proof/Machine/Can.lean ====
section
/-! DEFINITION. The CAN controllers: objects, lookup, reception, transmission, time services and error states
(R371 to R389). -/

namespace Sys2Proof.Machine

/-! ### Controllers and objects (R372, R373, R375) -/

/-- The controller is in the build and ready. -/
def State.canOn (s : State) (c : Nat) : Bool := s.hasCan c && s.ready 2 (16 + c)
/-- CN_CTL.INIT. -/
def State.canInit (s : State) (c : Nat) : Bool := s.flag (.CN_CTL c) 0
/-- CN_CTL.MON. -/
def State.canMon (s : State) (c : Nat) : Bool := s.flag (.CN_CTL c) 1
/-- CN_ERR.STATE: 0 error-active, 1 error-passive, 2 bus-off. -/
def State.canErr (s : State) (c : Nat) : Nat := s.field (.CN_ERR c) 30 2
/-- The controller is ready and CANCLK runs: it stops in DOZE and HALT (R447, R476). -/
def State.canRuns (s : State) (c : Nat) : Bool := s.canOn c && s.clk.running && !s.clk.held && s.blk != 5 && s.blk != 7
/-- The controller takes part in bus traffic (R373, R389). -/
def State.canBus (s : State) (c : Nat) : Bool :=
  s.canRuns c && !s.canInit c && (s.can c).joined && s.canErr c != 2

/-- Block-window offset of word `k` of object `n`. -/
def objAddr (n k : Nat) : Nat := canBase + 80 * n + 4 * k
/-- Word `k` of object `n`. -/
def State.objWord (s : State) (n k : Nat) : Word := s.memWord (objAddr n k)
/-- Write word `k` of object `n`. -/
def State.setObjWord (s : State) (n k : Nat) (v : Word) : State := s.putWord (objAddr n k) v

/-- Data bytes that a length code gives (R375). -/
def dlcBytes (fd : Bool) (dlc : Nat) : Nat :=
  if dlc ≤ 8 then dlc
  else if !fd then 8
  else match dlc with | 9 => 12 | 10 => 16 | 11 => 20 | 12 => 24 | 13 => 32 | 14 => 48 | _ => 64

/-- Object `n` is a transmit object of controller `c`: VALID, with DIR = 1 and CTL = c (R282, R375). -/
def State.txObject (s : State) (c n : Nat) : Bool :=
  let w := s.objWord n 1
  bit w 31 && bit w 30 && fld w 26 4 == c

/-- The object is mapped by some controller (R376, R378). -/
def State.objMapped (s : State) (n : Nat) : Bool := s.cans.any (fun x => x.2.table.any (fun e => e.2 == n))

/-- The little-endian data words of a list of bytes, the last one filled with zeros. -/
def dataWords (bs : List Byte) : List Word :=
  (List.range (ceilDiv bs.length 4)).map (fun i => word (ofLeBytes ((bs.drop (4 * i)).take 4)))

/-! ### Host writes of objects (R375, R376) -/

/-- The bits of word `k` of an object that a host write changes, and those that it clears with a 1. -/
def objMasks (tx : Bool) (k : Nat) : Word × Word :=
  if k = 0 then (if tx then 0xFFFFFFFF else 0, 0)
  else if k = 1 then (0xFFFFFFFF, 0)
  else if k = 2 then (if tx then 0x1F00 else 0, 0x1B)
  else if k = 3 then (0, 0)
  else (if tx then 0xFFFFFFFF else 0, 0)

/-- A write of word `k` of object `n` is refused (R376). -/
def State.objRefused (s : State) (n k : Nat) (v m : Word) : Bool :=
  let pend := bit (s.objWord n 2) 2
  let tx := bit (s.objWord n 1) 30
  if k < 2 then s.objMapped n || pend
  else tx && pend && !(k == 2 && (v &&& m &&& 0x1F00) == (s.objWord n 2 &&& m &&& 0x1F00))

/-- The effect of a write of word `k` of object `n` on the bits of `m`. -/
def State.objWrite (s : State) (n k : Nat) (v m : Word) : State :=
  let old := s.objWord n k
  let x := objMasks (bit (s.objWord n 1) 30) k
  s.setObjWord n k (((old &&& ~~~ (x.1 &&& m)) ||| (v &&& x.1 &&& m)) &&& ~~~ (x.2 &&& m &&& v))

/-- The bits of a word that four strobes select. -/
def strobeMask (st : Nat) : Word :=
  word ((List.range 4).foldl (fun a i => if st / 2 ^ i % 2 = 1 then a + 0xFF * 2 ^ (8 * i) else a) 0)

/-- A host write of a beat of the object RAM: both words, or neither. -/
def State.canObjWrite (s : State) (addr : Nat) (data : DWord) (strb : BitVec 8) : WriteRes :=
  let a := (addr - canBase) / 8 * 8
  let part := fun (i : Nat) => ((a + 4 * i) / 80, (a + 4 * i) % 80 / 4, word (fld data (32 * i) 32), strobeMask (fld strb (4 * i) 4))
  let bad := [0, 1].any (fun i => let x := part i; x.2.2.2 != 0 && s.objRefused x.1 x.2.1 x.2.2.1 x.2.2.2)
  if bad then s.stateRefused
  else ([0, 1].foldl (fun s i => let x := part i; if x.2.2.2 = 0 then s else s.objWrite x.1 x.2.1 x.2.2.1 x.2.2.2) s, none)

/-! ### Lookup (R377, R378) -/

/-- The key of an identifier. -/
def canKey (ext : Bool) (id : Nat) : Nat := (if ext then 2 ^ 29 else 0) + id % 2 ^ 29
/-- The set of a key. -/
def canSet (k : Nat) : Nat := (k % 512) ^^^ (k / 2 ^ 9 % 512) ^^^ (k / 2 ^ 18 % 512) ^^^ (k / 2 ^ 27 % 8)

/-- A refused map command: MAPERR sets. -/
def State.mapErr (s : State) (c : Nat) : WriteRes := (s.setFlag (.CN_STAT c) 5 true, some .state)

/-- CN_MAPCMD with OP map. -/
def State.canMap (s : State) (c n : Nat) : WriteRes :=
  let k := (s.rd (.CN_MAPID c)).toNat % 2 ^ 30
  let w := s.objWord n 1
  let t := (s.can c).table
  if !bit w 31 || bit w 30 || fld w 26 4 != c || s.objMapped n || t.any (fun e => e.1 == k)
    || decide (2 ≤ (t.filter (fun e => canSet e.1 == canSet k)).length) then s.mapErr c
  else (s.setCan c { s.can c with table := t ++ [(k, n)] }, none)

/-- CN_MAPCMD with OP unmap. -/
def State.canUnmap (s : State) (c : Nat) : WriteRes :=
  let k := (s.rd (.CN_MAPID c)).toNat % 2 ^ 30
  let t := (s.can c).table
  if t.any (fun e => e.1 == k) then (s.setCan c { s.can c with table := t.filter (fun e => e.1 != k) }, none) else s.mapErr c

/-- A write of CN_MAPCMD. -/
def State.mapCmdWrite (s : State) (c : Nat) (v : Word) : WriteRes :=
  match fld v 30 2 with
  | 1 => s.canMap c (fld v 0 14)
  | 2 => s.canUnmap c
  | _ => (s, none)

/-! ### Records for MSG_RX rings (R382) -/

/-- An enabled MSG_RX ring of the port names the controller. -/
def State.msgRxRing (s : State) (p c : Nat) : Bool :=
  s.regs.any (fun x => match x.1 with
    | .RG_CFG p' r => p' == p && s.flag (.RG_CFG p r) 31 && s.field (.RG_CFG p r) 24 3 == 5 && s.field (.RG_TARGET p r) 0 8 == c
    | _ => false)

/-- A record leaves the queue once every ring that is to have it has taken it. -/
def State.pruneRecords (s : State) (c : Nat) : State :=
  let x := s.can c
  let x := { x with records := x.records.filter (fun r => r.2.isEmpty || [0, 1].any (fun p => s.msgRxRing p c && !r.2.contains p)) }
  (s.setCan c x).setField (.CN_STAT c) 8 6 x.records.length

/-- A record enters the queue, or is discarded. -/
def State.addRecord (s : State) (c : Nat) (bs : List Byte) : State :=
  let x := s.can c
  if 32 ≤ x.records.length then s.setFlag (.CN_STAT c) 0 true
  else (s.setCan c { x with records := x.records ++ [(bs, [])] }).pruneRecords c

/-- The bytes of a record. -/
def recordOf (w0 w1 w2 w3 : Word) (data : List Byte) : List Byte :=
  [w0, w1, w2, w3].flatMap (fun w => leBytes 4 w.toNat) ++ (dataWords data).flatMap (fun w => leBytes 4 w.toNat)

/-! ### Image copies (R381) -/

/-- The group whose input slice holds word `i` of the F view, while the group takes freezes. -/
def State.copyGroup (s : State) (i : Nat) : Option Nat :=
  (List.range 8).find? (fun g => !s.gIdle g && s.gState g != 3 && s.inISlice g (i / 16))

/-- The copy of an update, as far as the F view reaches: a copy of word 2, and the data after it. -/
def State.canCopy (s : State) (c i : Nat) (data : List Byte) (w2 : Word) : State :=
  let a := smBase + s.viewBase .F + 4 * i
  let bs := ((w2 :: dataWords data).flatMap (fun w => leBytes 4 w.toNat)).take (s.viewSize .F - 4 * i)
  let s := s.setCan c { s.can c with copied := (s.copyGroup i).map (fun g => (g, s.nextFreeze g, a, bs.length)) }
  if bs.isEmpty then s else (s.dmaWrite a bs).1

/-- The group whose next freeze the copy would cross, if there is one. -/
def State.copyCrosses (s : State) (i n : Nat) : Option Nat :=
  let rows := (i + n) / 4 - i / 4 + 1
  (s.copyGroup i).filter (fun g => decide (s.freezeAt g (s.nextFreeze g) < s.now + 2 * (rows + 16)))

/-- The copy begins now, or waits for the freeze. -/
def State.canImage (s : State) (c i : Nat) (data : List Byte) (w2 : Word) : State :=
  match s.copyCrosses i (ceilDiv data.length 4) with
  | some g => s.setCan c { s.can c with late := (s.can c).late ++ [(g, i, data, w2)] }
  | none => s.canCopy c i data w2

/-- On the freeze edge of a group, the copies that wait for it are made. -/
def State.canFreeze (s : State) (g : Nat) : State :=
  forEach (s.cans.map (·.1)) (fun c s =>
    let due := (s.can c).late.filter (fun x => x.1 == g)
    let s := s.setCan c { s.can c with late := (s.can c).late.filter (fun x => x.1 != g) }
    forEach due (fun x s => s.canCopy c x.2.1 x.2.2.1 x.2.2.2) s) s

/-! ### Requests (R383, R384) -/

/-- Why a request is refused: `mon` for MON and INIT. -/
inductive TxRefusal where
  | mon | other
deriving DecidableEq, Repr

/-- The check of a request with words 0, 1 and 2 of the object. -/
def State.txRefusal (s : State) (c n : Nat) (w0 w1 w2 : Word) : Option TxRefusal :=
  if !bit w1 31 || !bit w1 30 || fld w1 26 4 != c || (bit w0 30 && bit w0 31) || (bit w2 12 && !s.flag (.CN_CTL c) 3) then some .other
  else if s.canMon c || s.canInit c then some .mon
  else if (s.can c).pend.contains n then none
  else if 64 ≤ (s.can c).pend.length then some .other
  else none

/-- An accepted request: TXPEND sets; a pending object stays as it is. -/
def State.txPend (s : State) (c n : Nat) : State :=
  if (s.can c).pend.contains n then s
  else (s.setObjWord n 2 (setBit (s.objWord n 2) 2 true)).setCan c { s.can c with pend := (s.can c).pend ++ [n] }

/-- The check of a request for the object as it stands; one that is pending adds nothing. -/
def State.txCheck (s : State) (c n : Nat) : Option TxRefusal :=
  if (s.can c).pend.contains n then none else s.txRefusal c n (s.objWord n 0) (s.objWord n 1) (s.objWord n 2)

/-- A refused request that is no register write. -/
def State.txRefused (s : State) (c : Nat) (r : TxRefusal) : State :=
  s.setFlag (.CN_STAT c) (match r with | .mon => 6 | .other => 3) true

/-- A request that is no register write. -/
def State.txRequest (s : State) (c n : Nat) : State :=
  if !s.canOn c then s else
  match s.txCheck c n with
  | some r => s.txRefused c r
  | none => s.txPend c n

/-- A write of CN_TXREQ. -/
def State.txReqWrite (s : State) (c n : Nat) : WriteRes :=
  match s.txCheck c n with
  | some _ => s.stateRefused
  | none => (s.txPend c n, none)

/-- TXPEND clears and TXABORT sets. -/
def State.txWithdraw (s : State) (c n : Nat) : State :=
  (s.setObjWord n 2 (setBit (setBit (s.objWord n 2) 2 false) 4 true)).setCan c
    { s.can c with pend := (s.can c).pend.filter (· ≠ n) }

/-- A write of CN_TXABORT (R385). -/
def State.txAbortWrite (s : State) (c n : Nat) : WriteRes :=
  let x := s.can c
  if !x.pend.contains n then (s, none)
  else if (match x.buf with | some b => b.obj == some n | none => false) then (s.setCan c { x with abort := true }, none)
  else (s.txWithdraw c n, none)

/-- The valid transmit objects with IMG = 1, ascending. -/
def State.imgObjects (s : State) : List Nat :=
  s.mem.filterMap (fun x =>
    if canBase ≤ x.1 ∧ x.1 < canBase + 0x140000 ∧ (x.1 - canBase) % 80 = 7 ∧ 0xC0 ≤ x.2.toNat ∧ x.2.toNat % 2 = 1
    then some ((x.1 - canBase) / 80) else none)

/-- `k` words of the P view from word `i` on, as far as the view reaches; `none` where a word is uncorrectable or its bank is
not ready (R67, R251). -/
def State.pWords (s : State) (i k : Nat) : State × Option (List Word) :=
  let n := min (4 * k) (s.viewSize .P - 4 * i)
  if n = 0 then (s, some [])
  else
    let r := s.dmaRead (smBase + s.viewBase .P + 4 * i) n
    (r.1, match r.2 with | .ok bs => some (dataWords bs) | .error _ => none)

/-- The request of a commit for object `n`, of which word 1 of the P view is `pw` (R384). -/
def State.commitRequest (s : State) (n i : Nat) (pw : Word) : State :=
  let w1 := s.objWord n 1
  let c := fld w1 26 4
  let w2 := setBit (setFld (s.objWord n 2) 8 4 (fld pw 8 4)) 12 (bit pw 12)
  match s.txRefusal c n (s.objWord n 0) w1 w2 with
  | some r => s.txRefused c r
  | none =>
    let q := s.pWords (i + 1) (ceilDiv (dlcBytes (bit (s.objWord n 0) 31) (fld pw 8 4)) 4)
    match q.2 with
    | none => q.1
    | some ws =>
      let s := if (q.1.can c).pend.contains n then q.1.setFlag (.CN_STAT c) 4 true else q.1
      ((List.range ws.length).foldl (fun s j => s.setObjWord n (4 + j) (ws.getD j 0)) (s.setObjWord n 2 w2)).txPend c n

/-- The requests of a commit of group `g` (R384), unless the group's transmissions are suppressed (R415). -/
def State.canCommit (s : State) (g : Nat) : State :=
  if s.suppressedGroup g then s
  else forEach s.imgObjects (fun n s =>
    let w1 := s.objWord n 1
    let i := fld w1 0 18
    if !s.canOn (fld w1 26 4) || !s.inQSlice g (i / 16) then s
    else
      let q := s.pWords i 1
      match q.2 with
      | some (pw :: _) => if bit pw 0 then q.1.commitRequest n i pw else q.1
      | _ => q.1) s

/-- The triggers of a timer channel's events (R384). -/
def State.canTriggers (s : State) (n : Nat) (m u : Bool) : State :=
  forEach (List.range 16) (fun c s => forEach (List.range 4) (fun k s =>
    let w := s.rd (.CN_TRIG c k)
    if bit w 31 && fld w 16 6 == n && ((bit w 22 && m) || (bit w 23 && u)) then s.txRequest c (fld w 0 14) else s) s) s

/-! ### Arbitration and attempts (R385) -/

/-- The arbitration fields of a frame as one number: the smaller wins. Base identifier, then RTR or SRR, then IDE, then
the rest of an extended identifier and its RTR. -/
def arbKey (w0 : Word) : Nat :=
  let id := fld w0 0 29
  let rtr := (bit w0 30).toNat
  if bit w0 29 then id / 2 ^ 18 * 2 ^ 21 + 2 ^ 20 + 2 ^ 19 + id % 2 ^ 18 * 2 + rtr
  else id % 2 ^ 11 * 2 ^ 21 + rtr * 2 ^ 20

/-- Word 0 of the controller's reference message (R386): its priority in the low identifier bits. -/
def State.refWord (s : State) (c : Nat) : Word := setFld (s.rd (.CN_REFID c) &&& 0x3FFFFFFF) 0 3 (s.field (.CN_TTCFG c) 27 3)

/-- The pending object that wins, if there is one: the lowest key, then the lowest number. -/
def State.txWinner (s : State) (c : Nat) : Option Nat :=
  (s.can c).pend.foldl (fun b n => match b with
    | none => some n
    | some m => let a := arbKey (s.objWord n 0); let z := arbKey (s.objWord m 0)
                if a < z ∨ (a = z ∧ n < m) then some n else some m) none

/-- An attempt ended without success: an object that was to be withdrawn is not tried again (R385). -/
def State.txFailed (s : State) (c : Nat) : State :=
  let x := s.can c
  match x.buf with
  | none => s
  | some b =>
    let s := s.setCan c { x with buf := none, abort := false }
    match b.obj with
    | some n => if x.abort then s.txWithdraw c n else s
    | none => s

/-- The controller's 48-bit global time as a master (R386). -/
def State.masterTime (s : State) (c : Nat) : Nat := s.now / 2 ^ s.field (.CN_TTCFG c) 16 5 % 2 ^ 48

/-- A start of frame (R385, R386). -/
def State.txAttempt (s : State) (c : Nat) : State :=
  if !s.canBus c || s.canMon c then s
  else
    let s := s.txFailed c
    let x := s.can c
    let win := s.txWinner c
    let ref := x.refReq && (match win with | some n => decide (arbKey (s.refWord c) ≤ arbKey (s.objWord n 0)) | none => true)
    if ref then
      let f := s.freshWord
      f.2.setCan c { x with buf := some ⟨none, s.refWord c, word 0x800,
        BitVec.ofNat 8 (fld f.1 0 6) :: 0 :: leBytes 6 (s.masterTime c), s.now⟩ }
    else match win with
      | none => s
      | some n =>
        let w0 := s.objWord n 0
        let w2 := s.objWord n 2
        let k := if bit w0 30 then 0 else dlcBytes (bit w0 31) (fld w2 8 4)
        s.setCan c { x with buf := some ⟨some n, w0, w2, memBytes s.mem (objAddr n 4) k, s.now⟩ }

/-- Success (R385, R387): the object, or the reference message that makes a potential master the master. -/
def State.txSuccess (s : State) (c : Nat) : State :=
  let x := s.can c
  match x.buf with
  | none => s
  | some b =>
    let s := s.setCan c { x with buf := none, abort := false }
    match b.obj with
    | some n =>
      let s := s.setObjWord n 3 (word (b.sof / 32))
      let w := s.objWord n 2
      let s := s.setObjWord n 2 (setFld (setBit (setBit w 3 true) 2 false) 16 16 (fld w 16 16 + 1))
      s.setCan c { s.can c with pend := (s.can c).pend.filter (· ≠ n) }
    | none =>
      let s := s.setCan c { s.can c with refReq := false, refAt := s.now, mark := none }
      if s.field (.CN_TTCFG c) 30 2 = 2 then s.setField (.CN_TTSTAT c) 0 3 6 else s

/-! ### Time services (R386 to R388) -/

/-- The frame is a reference message of the controller: its priority. -/
def State.refPrio (s : State) (c : Nat) (f : CanFrame) : Option Nat :=
  let r := s.rd (.CN_REFID c)
  if !f.fd && !f.remote && f.dlc == 8 && f.extended == bit r 29 && f.ident / 8 == fld r 0 29 / 8 then some (f.ident % 8) else none

/-- The TUR of two reference messages in 2.30 fixed point (R388). -/
def turOf (dm ds sh : Nat) : Nat := if ds = 0 then 0 else dm * 2 ^ sh * 2 ^ 30 / ds

/-- A reference message arrives (R387, R388). -/
def State.refReceived (s : State) (c prio sof : Nat) (data : List Byte) : State :=
  let role := s.field (.CN_TTCFG c) 30 2
  if role = 0 then s
  else
    let s := s.setCan c { s.can c with refAt := s.now, refReq := (s.can c).refReq && decide (s.field (.CN_TTCFG c) 27 3 ≤ prio) }
    let s := if role = 2 ∧ s.field (.CN_TTSTAT c) 0 2 = 2 ∧ prio < s.field (.CN_TTCFG c) 27 3 then s.setField (.CN_TTSTAT c) 0 2 1 else s
    if s.field (.CN_TTSTAT c) 0 2 = 2 then s
    else
      let m := ofLeBytes ((data.drop 2).take 6)
      let s' := (s.setCan c { s.can c with mark := some (sof, m) }).setFlag (.CN_TTSTAT c) 2 true
      match (s.can c).mark with
      | none => s'
      | some (sof0, m0) =>
        let tur := turOf ((m + 2 ^ 48 - m0) % 2 ^ 48) ((sof + 2 ^ 64 - sof0) % 2 ^ 64) (s.field (.CN_TTCFG c) 16 5)
        if 2 ^ 30 - 2 ^ 20 ≤ tur ∧ tur ≤ 2 ^ 30 + 2 ^ 20 then s'.wr (.CN_TUR c) (word tur) else s'.setFlag (.CN_TTSTAT c) 3 true

/-- CN_GTHI and CN_GTLO as one number, computed on the read edge (R386, R388). -/
def State.canGlobal (s : State) (c : Nat) : Nat :=
  if s.field (.CN_TTSTAT c) 0 2 = 2 then s.masterTime c
  else if !s.flag (.CN_TTSTAT c) 2 then 0
  else match (s.can c).mark with
    | none => 0
    | some (sof, m) =>
      (m + (s.now + 2 ^ 64 - sof) % 2 ^ 64 * (s.rd (.CN_TUR c)).toNat / 2 ^ 30 / 2 ^ s.field (.CN_TTCFG c) 16 5) % 2 ^ 48

/-- CYCLE in timebase units. -/
def State.canCycle (s : State) (c : Nat) : Nat := s.field (.CN_TTCFG c) 0 16 * 2 ^ s.field (.CN_TTCFG c) 16 5

/-- A request for a reference message, refused in MON as any other (R383, R387). -/
def State.refRequest (s : State) (c : Nat) : State :=
  if s.field (.CN_TTCFG c) 30 2 ≠ 2 ∨ s.canCycle c = 0 then s
  else if s.canMon c || s.canInit c then s.setFlag (.CN_STAT c) 6 true
  else s.setCan c { s.can c with refReq := true }

/-- The next instant at which a reference message is due: a multiple of CYCLE for the master, else the end of a silence
of 1.5 CYCLE (R387). -/
def State.refDue (s : State) (c : Nat) : Nat :=
  if s.field (.CN_TTSTAT c) 0 2 = 2 then ceilDiv s.now (s.canCycle c) * s.canCycle c
  else (s.can c).refAt + s.canCycle c * 3 / 2

/-- A write of CN_TTCFG. -/
def State.ttCfgWrite (s : State) (c : Nat) (v : Word) : WriteRes :=
  if fld v 30 2 = 3 ∨ 16 < fld v 16 5 then s.stateRefused
  else
    let old := s.field (.CN_TTCFG c) 30 2
    let s := s.wr (.CN_TTCFG c) v
    if fld v 30 2 = old then (s, none)
    else if fld v 30 2 = 0 then
      ((s.setField (.CN_TTSTAT c) 0 3 0).setCan c { s.can c with refReq := false, mark := none }, none)
    else (s.setField (.CN_TTSTAT c) 0 2 1, none)

/-! ### Reception (R379, R381, R382) -/

/-- Word 0 of a received frame. -/
def frameWord0 (f : CanFrame) : Word :=
  word (f.fd.toNat * 2 ^ 31 + f.remote.toNat * 2 ^ 30 + f.extended.toNat * 2 ^ 29 + f.ident % 2 ^ 29)

/-- The data bytes of a received frame: as many as its length code gives, none for a remote frame. -/
def frameData (f : CanFrame) : List Byte :=
  let k := if f.remote then 0 else dlcBytes f.fd f.dlc
  (List.range k).map (fun i => f.data.getD i 0)

/-- ESI, BRS and DLC of word 2. -/
def frameBits (f : CanFrame) : Nat := f.esi.toNat * 2 ^ 13 + f.brs.toNat * 2 ^ 12 + f.dlc % 16 * 2 ^ 8

/-- The update of a receive object. -/
def State.objUpdate (s : State) (c n : Nat) (f : CanFrame) (sof : Nat) : State :=
  let data := frameData f
  let ws := dataWords data
  let w1 := s.objWord n 1
  let old := s.objWord n 2
  let s := (List.range 16).foldl (fun s j => s.setObjWord n (4 + j) (ws.getD j 0)) s
  let s := (s.setObjWord n 0 (frameWord0 f)).setObjWord n 3 (word (sof / 32))
  let w2 := word ((fld old 16 16 + 1) % 2 ^ 16 * 2 ^ 16 + frameBits f + fld old 2 3 * 4 + (bit old 1 || bit old 0).toNat * 2 + 1)
  let s := s.setObjWord n 2 w2
  let s := if bit w1 24 then s.canImage c (fld w1 0 18) data w2 else s
  if bit w1 25 then s.addRecord c (recordOf (frameWord0 f) (word (c * 2 ^ 26 + n)) w2 (word (sof / 32)) data) else s

/-- A frame for which the table has no key. SEQ, LOST and NEW of its record belong to no object: they are free. -/
def State.frameMissed (s : State) (c : Nat) (f : CanFrame) (sof : Nat) : State :=
  let s := s.wr (.CN_RXMISS c) (word (satAdd 0xFFFFFFFF (s.rd (.CN_RXMISS c)).toNat 1))
  if s.flag (.CN_CTL c) 2 then
    let q := s.freshWord
    let w2 := (q.1 &&& 0xFFFF0003) ||| word (frameBits f)
    q.2.addRecord c (recordOf (frameWord0 f) (word (2 ^ 31 + c * 2 ^ 26)) w2 (word (sof / 32)) (frameData f))
  else s

/-- A valid frame of another node (R379, R388). -/
def State.canReceive (s : State) (c : Nat) (f : CanFrame) (sof : Nat) : State :=
  if !s.canBus c then s
  else
    let s := s.txFailed c
    let s := match s.refPrio c f with | some p => s.refReceived c p sof (frameData f) | none => s
    match (s.can c).table.find? (fun e => e.1 == canKey f.extended f.ident) with
    | some e => s.objUpdate c e.2 f sof
    | none => s.frameMissed c f sof

/-! ### Modes, timing and errors (R372 to R374, R389) -/

/-- A write of CN_CTL (R373). -/
def State.canCtlWrite (s : State) (c : Nat) (v : Word) : WriteRes :=
  let was := s.canInit c
  let s := s.wr (.CN_CTL c) v
  if was && !bit v 0 then
    ((s.setCan c { s.can c with joined := false, refAt := s.now, recover := s.canErr c == 2 }).refRequest c, none)
  else if !was && bit v 0 then
    let s := s.txFailed c
    (s.setCan c { s.can c with joined := false, recover := false, refReq := false }, none)
  else (s, none)

/-- A nominal or data bit time, from the fields less one, is within the limits of R374. -/
def bitTimingOk (data : Bool) (v : Word) : Bool :=
  if data then
    let brp := fld v 14 5 + 1
    let s1 := fld v 23 5 + 1
    let s2 := fld v 19 4 + 1
    let n := brp * (1 + s1 + s2)
    decide (10 ≤ n) && decide (fld v 28 4 + 1 ≤ s2)
  else
    let brp := fld v 0 8 + 1
    let s1 := fld v 17 8 + 1
    let s2 := fld v 10 7 + 1
    decide (80 ≤ brp * (1 + s1 + s2)) && decide (2 ≤ s1) && decide (fld v 25 7 + 1 ≤ s2)

/-- A write of CN_NBT or CN_DBT (R373, R374). -/
def State.bitTimingWrite (s : State) (c : Nat) (data : Bool) (v : Word) : WriteRes :=
  if !s.canInit c || !bitTimingOk data v then s.stateRefused else (s.wr (if data then .CN_DBT c else .CN_NBT c) v, none)

/-- New error counters (R389). -/
def State.canErrors (s : State) (c tec rec lec : Nat) : State :=
  if !s.canBus c || s.canMon c then s
  else
    let st := if 256 ≤ tec then 2 else if 128 ≤ tec ∨ 128 ≤ rec then 1 else 0
    let old := s.canErr c
    let s := if 1 ≤ lec ∧ lec ≤ 6 then s.txFailed c else s
    let s := s.wr (.CN_ERR c) (word (st * 2 ^ 30 + lec % 8 * 2 ^ 27 + min 255 tec * 2 ^ 16 + (decide (128 ≤ rec)).toNat * 2 ^ 15
      + min 127 rec * 2 ^ 8))
    if st = 2 then ((s.txFailed c).setCan c { (s.txFailed c).can c with joined := false, recover := false }).raise (72 + c)
    else if st = 1 ∧ old = 0 ∧ s.flag (.CN_CTL c) 7 = true then s.raise (72 + c)
    else s

/-- The 128 occurrences of 11 recessive bits (R389). -/
def State.canRecover (s : State) (c : Nat) : State :=
  if s.canRuns c && !s.canInit c && s.canErr c == 2 && (s.flag (.CN_CTL c) 5 || (s.can c).recover) then
    (s.wr (.CN_ERR c) (setFld (setFld (setFld (s.rd (.CN_ERR c)) 30 2 0) 16 8 0) 8 8 0)).setCan c
      { s.can c with joined := true, recover := false }
  else s

/-- Some enabled message ring names a controller. -/
def State.msgRings (s : State) : Bool :=
  s.regs.any (fun x => match x.1 with
    | .RG_CFG p r => s.flag (.RG_CFG p r) 31 && (s.field (.RG_CFG p r) 24 3 == 4 || s.field (.RG_CFG p r) 24 3 == 5)
    | _ => false)

/-- A write of CN_DOMCTL (R372, R38). -/
def State.domCtlWrite (s : State) (v : Word) : WriteRes :=
  let was := s.flag .CN_DOMCTL 0
  if was && !bit v 0 && (s.msgRings || (List.range 16).any (fun c => s.canOn c && !s.canInit c)) then s.stateRefused
  else
    let s := s.wr .CN_DOMCTL v
    if bit v 0 && !was then (if s.apHolds .can then (s.wantUp 2, none) else (s.apRequest .can 3, none))
    else if !bit v 0 && was then
      (if s.apHolds .can then
        (let s := s.wantDown 2; if (s.pd 2).phase == .off then s.apRelease .can else s, none)
       else (s.apRelease .can, none))
    else (s, none)

/-! ### Commands -/

/-- CAN_BUS_JOIN (R373). -/
def execCanBusJoin (c : Nat) (s : State) : Out :=
  guarded (s.hasCan c)
    (if s.canRuns c && !s.canInit c && s.canErr c != 2 then s.setCan c { s.can c with joined := true } else s)

/-- CAN_FRAME_RECEIVED (R377, R379, R381, R382, R388). -/
def execCanFrameReceived (c : Nat) (f : CanFrame) (sof : Nat) (s : State) : Out := guarded (s.hasCan c) (s.canReceive c f sof)

/-- CAN_TRANSMIT_ATTEMPT (R385, R386). -/
def execCanTransmitAttempt (c : Nat) (s : State) : Out := guarded (s.hasCan c) (s.txAttempt c)

/-- CAN_FRAME_TRANSMITTED (R385, R387). -/
def execCanFrameTransmitted (c : Nat) (s : State) : Out := guarded (s.hasCan c) (if s.canBus c then s.txSuccess c else s)

/-- CAN_ERROR_STATE_CHANGE (R389): new counters and the last error code. -/
def execCanErrorStateChange (c tec rec lec : Nat) (s : State) : Out := guarded (s.hasCan c) (s.canErrors c tec rec lec)

/-- CAN_BUS_OFF_RECOVERY (R389). -/
def execCanBusOffRecovery (c : Nat) (s : State) : Out := guarded (s.hasCan c) (s.canRecover c)

/-- CAN_REFERENCE_DUE (R387). -/
def execCanReferenceDue (c : Nat) (s : State) : Out :=
  guarded (s.hasCan c)
    (if s.canRuns c && s.field (.CN_TTCFG c) 30 2 == 2 && s.canCycle c != 0 then (s.reach (s.refDue c)).refRequest c else s)

end Sys2Proof.Machine
end

