-- ==== Sys2Proof/Machine/GauzeCfg.lean ====
section
/-! DEFINITION. The configuration of Gauze: protection, the checks of R343 to R345, and the writes of its registers
(R336 to R346). -/

namespace Sys2Proof.Machine

/-! ### Protection (R338) -/

/-- The protection byte of channel `c`. -/
def State.chProt (s : State) (c : Nat) : Nat := s.field (.GZ_CHPROT (c / 4)) (8 * (c % 4)) 8
/-- The channel is secure. -/
def State.chSecure (s : State) (c : Nat) : Bool := decide (128 ≤ s.chProt c)
/-- The owner code: 0 port A, 1 port B, 2 tile, 3 SHARED. -/
def State.chOwner (s : State) (c : Nat) : Nat := s.chProt c / 32 % 4
/-- The owning tile. -/
def State.chTile (s : State) (c : Nat) : Nat := s.chProt c % 8

/-- A port-owned channel admits its own port only; `port` is `none` for a sender that is no port. -/
def State.chAdmits (s : State) (c : Nat) (port : Option Nat) : Bool := decide (2 ≤ s.chOwner c) || port == some (s.chOwner c)

/-- The channels that the four selectors of a GZ_TASK word name, enabled or not (R340). -/
def taskNames (w : Word) : List Nat := [0, 8, 16, 24].map (fun b => fld w b 7)

/-- The enabled selectors of a GZ_TASK word, as pairs of task input and channel. -/
def taskSelectors (i : Nat) (w : Word) : List (Nat × Nat) :=
  [(2 * i, 0), (2 * i, 8), (2 * i + 1, 16), (2 * i + 1, 24)].filterMap (fun x =>
    if 128 ≤ fld w x.2 8 then some (x.1, fld w x.2 8 - 128) else none)

/-! ### The graph (R344, R345) -/

/-- The selector values that channel `c` uses: SRC, and GATE when GEN is 1. -/
def State.chInputs (s : State) (c : Nat) : List Nat :=
  let w := s.rd (.GZ_CH c)
  fld w 0 10 :: (if bit w 28 then [fld w 16 10] else [])

/-- The channels whose outputs channel `c` uses. -/
def State.chFeeders (s : State) (c : Nat) : List Nat :=
  (s.chInputs c).filterMap (fun v => if 512 ≤ v ∧ v < 640 then some (v - 512) else none)

/-- Every channel that reaches the channels of a list, within `k` cascades, the list included. -/
def State.chClosure (s : State) : Nat → List Nat → List Nat
  | 0, l => l
  | k + 1, l =>
    let new := (l.flatMap s.chFeeders).filter (fun c => !l.contains c)
    if new.isEmpty then l else State.chClosure s k (l ++ new.eraseDups)

/-- A channel lies on a cycle (R344). -/
def State.onCycle (s : State) (c : Nat) : Bool := (s.chClosure 128 (s.chFeeders c)).contains c

/-- An engine source reaches the channel (R345). -/
def State.engineFed (s : State) (c : Nat) : Bool :=
  (s.chClosure 128 [c]).any (fun a => (s.chInputs a).any (fun v => decide (144 ≤ v) && decide (v < 400)))

/-- A task input of an engine whose enabled selector names a channel that an engine source reaches, if there is one. -/
def State.engineTrip (s : State) : Option Nat :=
  (s.regs.flatMap (fun x => match x.1 with
    | .GZ_TASK i => if 256 ≤ i ∧ i < 512 then (taskSelectors i (s.rd (.GZ_TASK i))).filterMap
        (fun y => if s.engineFed y.2 then some y.1 else none) else []
    | _ => [])).head?

/-- A task input whose enabled selector names a channel owned by another tile, if there is one (R338). -/
def State.ownerTrip (s : State) : Option Nat :=
  (s.regs.flatMap (fun x => match x.1 with
    | .GZ_TASK i => (taskSelectors i (s.rd (.GZ_TASK i))).filterMap (fun y =>
        let tile := if y.1 < 512 then some (y.1 / 64) else if y.1 < 768 then some ((y.1 - 512) / 32)
          else if y.1 < 1024 then some ((y.1 - 768) / 32) else none
        if s.chOwner y.2 = 2 ∧ tile ≠ some (s.chTile y.2) then some y.1 else none)
    | _ => [])).head?

/-- A channel whose selectors name nothing (R335). -/
def State.rangeTrip (s : State) (c : Nat) : Bool := decide (640 ≤ s.field (.GZ_CH c) 0 10 ∨ 640 ≤ s.field (.GZ_CH c) 16 10)

/-- The first failure of a configuration as a whole, in the order of R343: its GZ_ERR bit, and the task input that shows it
where one does. Every pattern of an enabled thread target lies within R342. -/
def State.gzFailure (s : State) : Option (Nat × Option Nat) :=
  if s.gzChans.any s.rangeTrip then some (28, none)
  else if s.ownerTrip.isSome then some (29, s.ownerTrip)
  else if s.gzChans.any s.onCycle then some (31, none)
  else if s.engineTrip.isSome then some (30, s.engineTrip)
  else none

/-- Record a failure in GZ_ERR: its bit, and KIND and INDEX while no bit was set (R343). -/
def State.gzError (s : State) (b : Nat) (task : Bool) (idx : Nat) : State :=
  let w := s.rd .GZ_ERR
  let s := if fld w 28 4 = 0 then s.wr .GZ_ERR (word (task.toNat * 2 ^ 15 + idx % 2 ^ 11)) else s
  s.setFlag .GZ_ERR b true

/-- Every channel that one of the channels of a list reaches by cascades, the list included. -/
def State.chDownstream (s : State) : Nat → List Nat → List Nat
  | 0, l => l
  | k + 1, l =>
    let new := s.gzChans.filter (fun c => !l.contains c && (s.chFeeders c).any (fun a => l.contains a))
    if new.isEmpty then l else State.chDownstream s k (l ++ new.eraseDups)

/-- Settle the channels after a change of the configuration, with a storm that may follow. -/
def State.gzRefresh (s : State) : State :=
  if s.clk.porst then s else
    let r := State.gzRun 130 s
    if r.2 then r.1.raise 124 else r.1

/-! ### Writes -/

/-- A register of R343. -/
def gzConfReg : Reg → Bool
  | .GZ_CH _ | .GZ_TASK _ | .GZ_TTGT _ => true
  | _ => false

/-- A port owner of the channel turns the write away (R338). -/
def State.gzForbidden (s : State) (port : Option Nat) : Reg → Bool
  | .GZ_CH c => !s.chAdmits c port
  | _ => false

/-- The register ignores a write: those of reserved task inputs, and of absent tiles and engines (R339). -/
def State.gzReserved (s : State) : Reg → Bool
  | .GZ_TASK i => !s.taskPresent (2 * i)
  | .GZ_TTGT i => !s.taskPresent (4 * i)
  | _ => false

/-- A failure of the written configuration is recorded under the register that is written: a channel, or a task input, the
failing one where it is one of the register's (R343). -/
def State.gzRefuse (s : State) (r : Reg) (f : Nat × Option Nat) : State :=
  match r with
  | .GZ_TASK i => s.gzError f.1 true (match f.2 with | some k => if k / 2 = i then k else 2 * i | none => 2 * i)
  | .GZ_TTGT i => s.gzError f.1 true (4 * i)
  | .GZ_CH c => s.gzError f.1 false c
  | _ => s

/-- A write of one or two registers of GZ_CH, GZ_TASK and GZ_TTGT, the two of one beat together (R258, R335, R336, R338, R341
to R345): the new configuration is checked as a whole, and the channels that the write changes, with those they reach, are
held at 0 until their output has been 0. -/
def State.gzConfWrite (s : State) (port : Option Nat) (ws : List (Reg × Word)) : WriteRes :=
  let ws := ws.filter (fun x => !s.gzReserved x.1)
  match ws with
  | [] => (s, none)
  | w :: _ =>
    if ws.any (fun x => s.gzForbidden port x.1) then s.stateRefused
    else
      let t := forEach ws (fun x s => s.wr x.1 x.2) s
      match t.gzFailure with
      | some f => (s.gzRefuse w.1 f, some .state)
      | none =>
        let ch := ws.filterMap (fun x => match x.1 with | .GZ_CH c => if x.2 = s.rd (.GZ_CH c) then none else some c | _ => none)
        (if ch.isEmpty then t else (t.gzHold (t.chDownstream 128 ch)).gzRefresh, none)

/-- The write of GZ_TASK needs SEC = 1: a selector of it names a secure channel, or one of the register did, enabled or not
(R338). -/
def State.taskSecure (s : State) (i : Nat) (v : Word) : Bool :=
  (taskNames v).any s.chSecure || (taskNames (s.rd (.GZ_TASK i))).any s.chSecure

/-- A write of GZ_PINSEL[i] (R336): the channels that use a pin source whose field changes, and those they reach, are held
at 0. -/
def State.gzPinselWrite (s : State) (i : Nat) (v : Word) : WriteRes :=
  let t := s.wr (.GZ_PINSEL i) v
  let users := s.gzChans.filter (fun c => (s.chInputs c).any (fun x =>
    (x == 2 * i && fld v 0 9 != s.field (.GZ_PINSEL i) 0 9) || (x == 2 * i + 1 && fld v 16 9 != s.field (.GZ_PINSEL i) 16 9)))
  ((t.gzHold (t.chDownstream 128 users)).gzRefresh, none)

/-- A write of GZ_CHFLAG[i]: a 1 clears, unless the channel's protection ignores it (R338). -/
def State.gzFlagWrite (s : State) (i : Nat) (port : Option Nat) (sec : Bool) (v : Word) : WriteRes :=
  (forEach (setBits v 32) (fun j s =>
    let c := 32 * i + j
    if s.chAdmits c port && (sec || !s.chSecure c) then s.setFlag (.GZ_CHFLAG i) j false else s) s, none)

/-- A write of TL_GZFIRE: a pulse of source 472 + 4t + j for each 1, all of them together (R333). -/
def State.gzFire (s : State) (t : Nat) (v : Word) : WriteRes :=
  (if fld v 0 4 = 0 then s else s.sourcePulses ((setBits v 4).map (fun j => 472 + 4 * t + j)), none)

/-! ### Commands -/

/-- GAUZE_SOURCE_EDGE (R5, R333 to R335, R340, R346): a pin changes, and the sources that show it. Every other source changes
with the unit behind it, in that unit's own commands. -/
def execGauzeSourceEdge (p : GzPin) (level : Bool) (s : State) : Out :=
  guarded (match p with | .fio k => decide (k < 512) | .fin j => decide (j < 16)) (s.pinEdge p level)

/-- STORM_WINDOW_END (R346): the firing counts start again. -/
def execStormWindowEnd (s : State) : Out := .next { s with gz := { s.gz with fires := [] } }

end Sys2Proof.Machine
end

