-- ==== Sys2Proof/Machine/Engines.lean ====
section
/-! DEFINITION. Facet engines: ticks, instructions, FIFOs, the stream mover, static words, overrides and the writes of
their registers (R304 to R332). -/

namespace Sys2Proof.Machine

/-! ### The engine's registers -/

/-- WIDTH of the engine's signal group, at most 8. -/
def State.eWidth (s : State) (t e : Nat) : Nat := min 8 (s.field (.FE_PINS t e) 0 4)
/-- The shift width W (R306). -/
def State.eShw (s : State) (t e : Nat) : Nat := 2 ^ s.field (.FE_CFG t e) 30 2
/-- The engine is enabled. -/
def State.eOn (s : State) (t e : Nat) : Bool := s.flag (.FE_CTL t e) 0
/-- The active program bank. -/
def State.eBank (s : State) (t e : Nat) : Nat := s.field (.FE_CTL t e) 1 1
/-- FE_STAT.PC. -/
def State.ePc (s : State) (t e : Nat) : Nat := s.field (.FE_STAT t e) 28 4
/-- Set FE_STAT.PC. -/
def State.setEPc (s : State) (t e n : Nat) : State := s.setField (.FE_STAT t e) 28 4 n
/-- FE_STAT.STATE: 0 DISABLED, 1 RUN, 2 WAIT, 3 STALL, 4 DELAY, 5 STOPPED. -/
def State.eState (s : State) (t e : Nat) : Nat := s.field (.FE_STAT t e) 24 3
/-- Set FE_STAT.STATE. -/
def State.setEState (s : State) (t e n : Nat) : State := s.setField (.FE_STAT t e) 24 3 n
/-- A swap waits for a boundary (R331). -/
def State.swapPend (s : State) (t e : Nat) : Bool := s.flag (.FE_STAT t e) 7
/-- The engine's group is ready (R328). -/
def State.eReady (s : State) (t e : Nat) : Bool := s.ready 1 (4 * t + e / 8)
/-- The instruction at an address of the active bank. -/
def State.eInsn (s : State) (t e a : Nat) : Word := mget (s.engine t e).prog 0 (16 * s.eBank t e + a % 16)

/-! ### Validity of an instruction (R311 to R315) -/

/-- Opcode of an engine instruction. -/
def eOp (w : Word) : Nat := fld w 28 4
/-- Delay field. -/
def eDelay (w : Word) : Nat := fld w 24 4
/-- Operand A. -/
def eA (w : Word) : Nat := fld w 16 8
/-- Operand B. -/
def eB (w : Word) : Nat := fld w 0 16

/-- The instruction is valid: its opcode exists, every field marked 0 is 0, CLK mode is not 0b11, and a shift moves at
most 32 bits. -/
def eValid (w : Word) (shw : Nat) : Bool :=
  let a := eA w
  let b := eB w
  match eOp w with
  | 0x0 => a == 0 && b == 0
  | 0x1 | 0x2 | 0x3 => decide (a < 32) && b == 0 && decide ((a + 1) * shw ≤ 32)
  | 0x4 => a == 0 && b == 0
  | 0x5 => decide (a < 4) && b == 0
  | 0x6 => decide (a < 64) && b == 0 && (decide (a < 32) || a % 32 == 0)
  | 0x7 => decide (a < 4) && b == 0
  | 0x8 | 0x9 => decide (b < 256)
  | 0xA => decide (a < 8) && decide (b < 16)
  | 0xB => decide (a < 2) && decide (b < 16)
  | 0xC => decide (a < 8) && b == 0 && a % 4 != 3
  | 0xD => a == 0 && b == 0
  | _ => false

/-! ### One tick (R307 to R316, R322) -/

/-- The compare equality of JMP condition 0b001, over SHR at launch. -/
def State.eMatch (s : State) (t e : Nat) (shr : Word) : Bool :=
  (shr &&& s.rd (.FE_CMPMASK t e)) == (s.rd (.FE_CMP t e) &&& s.rd (.FE_CMPMASK t e))

/-- The input half of a shift (R313). -/
def shiftIn (shr : Word) (order : Bool) (w : Nat) (inp : Nat) : Word :=
  if order then (shr <<< w) ||| word (inp % 2 ^ w) else (shr >>> w) ||| (word (inp % 2 ^ w) <<< (32 - w))

/-- The output lanes of a shift (R313). -/
def shiftLanes (shr : Word) (order : Bool) (w : Nat) : Nat := if order then fld shr (32 - w) w else fld shr 0 w

/-- One shift tick of opcode `op`: 1 SHO, 2 SHI, 3 SHX. In CLK mode 0b01 the clock output runs in it. -/
def State.eShift (s : State) (t e op : Nat) (pins : Byte) : State :=
  let x := s.engine t e
  let w := s.eShw t e
  let o := s.flag (.FE_CFG t e) 29
  let x := if op = 2 then x else { x with pinout := setFld x.pinout 0 w (shiftLanes x.shr o w) }
  let shr := if op = 1 then (if o then x.shr <<< w else x.shr >>> w) else shiftIn x.shr o w pins.toNat
  s.setEngine t e { x with shr := shr, clkOut := x.clkMode == 1 && !s.flag (.FE_CLK t e) 31 }

/-- The instruction ends with this tick and the next one stands at `next`: its delay follows, or the next instruction is
due. -/
def State.eDone (s : State) (t e next : Nat) (w : Word) : State :=
  let d := eDelay w
  let s := s.setEngine t e { s.engine t e with npc := next % 16, work := if d = 0 then .fresh else .delay d }
  if d = 0 then (s.setEPc t e next).setEState t e 1 else s.setEState t e 4

/-- The engine stalls on a PULL or a PUSH. -/
def State.eStall (s : State) (t e : Nat) : State := (s.setEngine t e { s.engine t e with work := .stalled }).setEState t e 3

/-- PULL (R322). -/
def State.ePull (s : State) (t e : Nat) (w : Word) : State :=
  let x := s.engine t e
  match x.tx with
  | v :: r => (s.setEngine t e { x with shr := v, tx := r }).eDone t e (s.ePc t e + 1) w
  | [] =>
    if s.blk = 2 then ((s.setEngine t e { x with shr := s.rd (.FE_IDLEPAT t e) }).setFlag (.FE_STAT t e) 2 true).eDone t e (s.ePc t e + 1) w
    else s.eStall t e

/-- PUSH (R321, R322). -/
def State.ePush (s : State) (t e : Nat) (w : Word) : State :=
  let x := s.engine t e
  let clr := fun (y : Engine) => if eA w / 2 % 2 = 1 then { y with shr := 0 } else y
  if x.rx.length < 8 then
    (s.setEngine t e (clr { x with rx := x.rx ++ [(x.shr, eA w % 2 == 1)] })).eDone t e (s.ePc t e + 1) w
  else if s.blk = 2 then ((s.setEngine t e (clr x)).setFlag (.FE_STAT t e) 3 true).eDone t e (s.ePc t e + 1) w
  else s.eStall t e

/-- The pending events of the engine's event task input. -/
def State.eEvents (s : State) (t e : Nat) : Nat := mget s.gz.cnt 0 (512 + 32 * t + e)

/-- WAIT (R314): the condition over this tick's sample, and the tick's sample before for an edge. -/
def State.eWaitMet (s : State) (t e : Nat) (w : Word) (pins : Byte) : Bool :=
  let a := eA w
  if 32 ≤ a then decide (0 < s.eEvents t e)
  else
    let now := bit pins (a % 8)
    let old := bit (s.engine t e).sample (a % 8)
    match a / 8 with
    | 0 => !now
    | 1 => now
    | 2 => now && !old
    | _ => old && !now

/-- The engine waits on. -/
def State.eWaiting (s : State) (t e : Nat) : State := (s.setEngine t e { s.engine t e with work := .waiting }).setEState t e 2

/-- JMP conditions (R314). -/
def State.eCond (s : State) (t e c : Nat) (pins : Byte) : Bool :=
  let x := s.engine t e
  let j := bit pins (s.field (.FE_CFG t e) 20 3)
  match c with
  | 0 => true
  | 1 => s.eMatch t e x.shr
  | 2 => !s.eMatch t e x.shr
  | 3 => x.tx.isEmpty
  | 4 => decide (8 ≤ x.rx.length)
  | 5 => j
  | 6 => !j
  | _ => decide (0 < s.eEvents t e)

/-- A counter reload; 0 counts as 65,536 (R314). -/
def reload (n : Nat) : Nat := if n = 0 then 65536 else n

/-- DJNZ (R314). -/
def State.eDjnz (s : State) (t e : Nat) (w : Word) : State :=
  let x := s.engine t e
  let c1 := eA w % 2 == 1
  let c := (if c1 then x.c1 else x.c0) - 1
  let v := if c = 0 then reload (if c1 then s.field (.FE_CNT t e) 16 16 else s.field (.FE_CNT t e) 0 16) else c
  let s' := s.setEngine t e (if c1 then { x with c1 := v } else { x with c0 := v })
  s'.eDone t e (if c = 0 then s.ePc t e + 1 else eB w % 16) w

/-- Change the bits of a register byte that MASK names below WIDTH (R312). -/
def maskWrite (old : Byte) (mask vals : Nat) (width : Nat) : Byte :=
  let m := BitVec.ofNat 8 (mask % 2 ^ width)
  (old &&& ~~~ m) ||| (BitVec.ofNat 8 vals &&& m)

/-- A tick on which the instruction `w` at the present address is in progress or begins; `left` shift ticks remain
(counting this one) when it is a shift. -/
def State.eExecute (s : State) (t e : Nat) (w : Word) (left : Nat) (pins : Byte) : State :=
  let x := s.engine t e
  let next := s.ePc t e + 1
  match eOp w with
  | 0x0 => s.eDone t e next w
  | 0x1 | 0x2 | 0x3 =>
    let s := s.eShift t e (eOp w) pins
    if left ≤ 1 then s.eDone t e next w
    else (s.setEngine t e { s.engine t e with work := .shifting (left - 1) }).setEState t e 1
  | 0x4 => s.ePull t e w
  | 0x5 => s.ePush t e w
  | 0x6 =>
    if s.eWaitMet t e w pins then
      let s := if 32 ≤ eA w then
        { s with gz := { s.gz with cnt := mset s.gz.cnt (512 + 32 * t + e) (s.eEvents t e - 1) } } else s
      s.eDone t e next w
    else s.eWaiting t e
  | 0x7 =>
    if s.eMatch t e x.shr != (eA w % 2 == 1) then s.eDone t e next w
    else (if 2 ≤ eA w then s.eShift t e 2 pins else s).eWaiting t e
  | 0x8 => (s.setEngine t e { x with pinout := maskWrite x.pinout (eA w) (eB w) (s.eWidth t e) }).eDone t e next w
  | 0x9 => (s.setEngine t e { x with pinoe := maskWrite x.pinoe (eA w) (eB w) (s.eWidth t e) }).eDone t e next w
  | 0xA => s.eDone t e (if s.eCond t e (eA w) pins then eB w % 16 else next) w
  | 0xB => s.eDjnz t e w
  | 0xC => (s.setEngine t e { x with clkMode := eA w % 4, clkIdle := eA w / 4 % 2 == 1 }).eDone t e next w
  | _ => (s.sourcePulse (144 + 32 * t + e)).eDone t e next w

/-- An invalid instruction is due: the engine stops (R315). -/
def State.eStop (s : State) (t e : Nat) : State :=
  (((s.setEngine t e { s.engine t e with work := .stopped }).setEState t e 5).setFlag (.FE_STAT t e) 6 true).raise (8 * t + 2)

/-- A pending swap takes place at this boundary: ABANK flips and the engine continues at address 0 (R331). -/
def State.eSwapNow (s : State) (t e : Nat) : State :=
  let s := (s.setFlag (.FE_CTL t e) 1 (s.eBank t e == 0)).setFlag (.FE_STAT t e) 7 false
  (s.setEngine t e { s.engine t e with work := .fresh, npc := 0 }).setEPc t e 0

/-- A new instruction begins at the present address. -/
def State.eBegin (s : State) (t e : Nat) (pins : Byte) : State :=
  let w := s.eInsn t e (s.ePc t e)
  if eValid w (s.eShw t e) then (s.setEState t e 1).eExecute t e w (eA w % 32 + 1) pins else s.eStop t e

/-- The divider's accumulator and the length of this tick (R307). -/
def State.eDivide (s : State) (t e : Nat) : State :=
  if s.flag (.FE_CLK t e) 31 then s
  else
    let x := s.engine t e
    let a := x.acc + s.field (.FE_CLK t e) 0 26
    s.setEngine t e { x with acc := a % 512, tickLen := a / 512 }

/-- ENGCLK runs for the engines: no reset is active, and the block is not in DOZE, SLEEP, OFF or HALT (R54, R447, R476). -/
def State.engClocks (s : State) : Bool :=
  s.clk.running && !s.clk.held && (s.blk == 1 || s.blk == 2 || s.blk == 3 || s.blk == 4)

/-- The engine ticks: enabled, not STOPPED, its group ready, no reset active and the block neither in DOZE, SLEEP, OFF
nor HALT (R322, R447). -/
def State.eTicks (s : State) (t e : Nat) : Bool :=
  s.eOn t e && s.eState t e != 5 && s.eReady t e && s.engClocks

/-- A tick of an external clock follows an edge that FE_CLK.EDGE selects: XPIN has the level after that edge (R309). -/
def State.extEdge (s : State) (t e : Nat) (pins : Byte) : Bool :=
  let k := s.rd (.FE_CLK t e)
  let now := bit pins (fld k 26 3)
  !bit k 31 || match fld k 29 2 with
  | 1 => now
  | 2 => !now
  | _ => true

/-- The clock output at the end of a tick (R308 to R310, R314, R322): at its non-idle level where the tick ran it; an engine
that stopped holds it as it was, and one that stalls shows the idle level. -/
def State.eClock (s : State) (t e : Nat) (old : Bool) : State :=
  let x := s.engine t e
  match x.work with
  | .stopped => s.setEngine t e { x with clkOut := old }
  | .stalled => s
  | _ => if x.clkMode = 2 ∧ s.flag (.FE_CLK t e) 31 = false then s.setEngine t e { x with clkOut := true } else s

/-- One tick of the engine; `pins` are the levels of its group signals at the midpoint (R308, R309). The clock output goes to
its idle level at launch. -/
def State.engTick (s : State) (t e : Nat) (pins : Byte) : State :=
  if !s.eTicks t e || !s.extEdge t e pins then s
  else
    let pins := BitVec.ofNat 8 (fld pins 0 (s.eWidth t e))
    let clk := (s.engine t e).clkOut
    let s := (s.setEngine t e { s.engine t e with clkOut := false }).eDivide t e
    let w := s.eInsn t e (s.ePc t e)
    let s := match (s.engine t e).work with
      | .fresh => (if s.swapPend t e then s.eSwapNow t e else s).eBegin t e pins
      | .waiting => if s.swapPend t e then (s.eSwapNow t e).eBegin t e pins else s.eExecute t e w 0 pins
      | .stalled => s.eExecute t e w 0 pins
      | .shifting n => s.eExecute t e w n pins
      | .delay n =>
        if n ≤ 1 then ((s.setEngine t e { s.engine t e with work := .fresh }).setEPc t e (s.engine t e).npc).setEState t e 1
        else s.setEngine t e { s.engine t e with work := .delay (n - 1) }
      | .stopped => s
    (s.setEngine t e { s.engine t e with sample := pins }).eClock t e clk

/-- The engine stands at an instruction boundary (R316). -/
def State.eBoundary (s : State) (t e : Nat) : Bool :=
  match (s.engine t e).work with | .fresh | .waiting => true | _ => false

/-- The opcode of the instruction that begins on the next tick, if one begins. -/
def State.eNextOp (s : State) (t e : Nat) : Option Nat :=
  if !s.eTicks t e then none
  else
    let s := if s.swapPend t e && s.eBoundary t e then s.eSwapNow t e else s
    match (s.engine t e).work with
    | .fresh => let w := s.eInsn t e (s.ePc t e); if eValid w (s.eShw t e) then some (eOp w) else none
    | _ => none

/-- The tick on which an instruction of opcode `op` begins; when none does, nothing happens. -/
def State.tickOf (s : State) (t e op : Nat) (pins : Byte) : State := if s.eNextOp t e = some op then s.engTick t e pins else s

/-! ### Pins (R306, R326, R327, R415) -/

/-- SAFEPAT is in force for the engine (R327, R429, R220): its static-output word is that of FE_SIO.SWORD, whether or not OEN
is set (R325). -/
def State.safepat (s : State) (t e : Nat) : Bool :=
  (s.flag .FC_RSTAT 0 && s.flag (.FC_SAFEENG t) e)
    || (List.range 8).any (fun g => s.gState g == 4 && s.flag (.SC_GCTL g) 1
        && s.inQSlice g (s.field (.FE_SIO t e) 0 18 / 16))

/-- The engine drives FIO_OE 0 because the block is a standby that shadows it (R415). -/
def State.engShadowed (s : State) (t e : Nat) : Bool := s.flag (.MI_ENGSHADOW t) e && !s.mirror.suppressed.isEmpty

/-- FIO_OUT and FIO_OE of group signal `i` of the engine (R306, R310). -/
def State.pinOf (s : State) (t e i : Nat) : Bool × Bool :=
  let p := s.rd (.FE_PAT t e)
  let x := s.engine t e
  if s.clk.porst || s.clk.sysrst then (false, false)
  else
    let v := if !s.eReady t e then (false, false)
      else if s.flag (.FE_STAT t e) 8 then (bit p (16 + i), bit p (24 + i))
      else if s.safepat t e then (bit p i, bit p (8 + i))
      else if s.flag (.FE_PINS t e) (24 + i) then (bit x.applied i, bit x.applied (8 + i))
      else if s.flag (.FE_CFG t e) 26 && s.field (.FE_CFG t e) 23 3 == i then (x.clkIdle ^^ x.clkOut, bit x.pinoe i)
      else (bit x.pinout i, bit x.pinoe i)
    if s.engShadowed t e then (v.1, false) else v

/-- The engine that owns field signal `k`, with the group signal (R305). -/
def State.pinOwner (s : State) (k : Nat) : Option (Nat × Nat × Nat) :=
  ((List.range 32).find? (fun e => s.field (.FE_PINS (k / 64) e) 8 6 ≤ k % 64
      && decide (k % 64 < s.field (.FE_PINS (k / 64) e) 8 6 + s.eWidth (k / 64) e))).map
    (fun e => (k / 64, e, k % 64 - s.field (.FE_PINS (k / 64) e) 8 6))

/-- FIO_OUT[k] and FIO_OE[k]; a signal that no engine owns is 0 and 0 (R305). -/
def State.fioOut (s : State) (k : Nat) : Bool × Bool :=
  match s.pinOwner k with | some x => s.pinOf x.1 x.2.1 x.2.2 | none => (false, false)

/-! ### Segments and the stream mover (R317 to R321) -/

/-- An enabled stream ring of a direction names the engine: TYPE 2 STREAM_TX, 3 STREAM_RX (R282). -/
def State.streamRing (s : State) (t e ty : Nat) : Bool :=
  s.regs.any (fun x => match x.1 with
    | .RG_CFG p r => let w := s.rd (.RG_CFG p r)
      bit w 31 && fld w 24 3 == ty && s.field (.RG_TARGET p r) 0 8 == 32 * t + e
    | _ => false)

/-- The size in words of the circular buffer that serves as the TX or the RX segment of an engine (R319). -/
def State.segSize (s : State) (t e : Nat) : Nat :=
  let w := s.rd (.FE_SEG t e)
  if bit w 29 then fld w 19 7 * 128 else fld w 19 7 * 256

/-- The words that the TX or RX segment takes: with SPLIT = 0 only the direction of the one stream ring that names the engine
has a segment (R319). -/
def State.segWords (s : State) (t e : Nat) (tx : Bool) : Nat :=
  if s.flag (.FE_SEG t e) 29 || s.streamRing t e (if tx then 2 else 3) then s.segSize t e else 0

/-- The block-window offset of the TX or RX segment. -/
def State.segBase (s : State) (t e : Nat) (tx : Bool) : Nat :=
  let w := s.rd (.FE_SEG t e)
  let b := fld w 0 13 * 1024
  let half := if bit w 29 && !tx then fld w 19 7 * 512 else 0
  half + match fld w 30 2 with
  | 0 => spBase t + b % 0x80000
  | 1 => smBase + b
  | _ => smBase + s.viewBase .F + b

/-- The segment is an image window (R320). -/
def State.segWindow (s : State) (t e : Nat) : Bool := s.field (.FE_SEG t e) 30 2 == 2

/-- A failed segment access: SEGERR, and ENGERR once (R318). -/
def State.segError (s : State) (t e : Nat) : State :=
  if s.flag (.FE_STAT t e) 1 then s else (s.setFlag (.FE_STAT t e) 1 true).raise (8 * t + 2)

/-- The oldest RX word moves to the image window: the data word, then the count (R320). -/
def State.moveWindow (s : State) (t e : Nat) (v : Word) (rest : List (Word × Bool)) : State :=
  let n := (s.engine t e).winCount
  let slots := s.field (.FE_SEG t e) 19 7 * 256 - 1
  let b := s.segBase t e false
  let r := s.dmaWrite (b + 4 * (1 + n % slots)) (leBytes 4 v.toNat)
  match r.2 with
  | some _ => r.1.segError t e
  | none =>
    let q := r.1.dmaWrite b (leBytes 4 ((n + 1) % 2 ^ 32))
    if q.2.isSome then q.1.segError t e
    else q.1.setEngine t e { q.1.engine t e with rx := rest, winCount := (n + 1) % 2 ^ 32 }

/-- The oldest RX word moves to the RX segment. -/
def State.moveRx (s : State) (t e : Nat) (v : Word × Bool) (rest : List (Word × Bool)) : State :=
  let x := s.engine t e
  let r := s.dmaWrite (s.segBase t e false + 4 * x.rxWr) (leBytes 4 v.1.toNat)
  match r.2 with
  | some _ => r.1.segError t e
  | none =>
    let n := s.segSize t e
    r.1.setEngine t e { r.1.engine t e with rx := rest, rxSeg := x.rxSeg ++ [v.2], rxWr := (x.rxWr + 1) % n }

/-- A word of the TX segment moves into the TX FIFO. -/
def State.moveTx (s : State) (t e : Nat) : State :=
  let x := s.engine t e
  let n := s.segSize t e
  let r := s.dmaRead (s.segBase t e true + 4 * x.txRd) 4
  let take := fun (y : Engine) => { y with txSeg := x.txSeg - 1, txRd := (x.txRd + 1) % n }
  match r.2 with
  | .ok bs => r.1.setEngine t e (take { r.1.engine t e with tx := x.tx ++ [word (ofLeBytes bs)] })
  | .error .ecc => (r.1.setEngine t e (take (r.1.engine t e))).segError t e
  | .error _ => r.1.segError t e

/-- One turn of the stream mover for an engine (R317): ENGCLK counts the turns. -/
def State.moverTurn (s : State) (t e : Nat) : State :=
  if !s.eReady t e || !s.engClocks then s
  else
    let x := s.engine t e
    match x.rx with
    | v :: rest =>
      if s.segWindow t e then s.moveWindow t e v.1 rest
      else if x.rxSeg.length < s.segWords t e false then s.moveRx t e v rest
      else if x.tx.length < 8 && decide (0 < x.txSeg) then s.moveTx t e else s
    | [] => if x.tx.length < 8 && decide (0 < x.txSeg) then s.moveTx t e else s

/-! ### Register writes (R305, R307, R319, R328 to R332) -/

/-- EN may be set (R329). -/
def State.eMayEnable (s : State) (t e : Nat) : Bool :=
  let w := s.eWidth t e
  let c := s.rd (.FE_CFG t e)
  let k := s.rd (.FE_CLK t e)
  decide (s.eShw t e ≤ w) && decide (fld c 20 3 < w) && (!bit c 26 || decide (fld c 23 3 < w))
    && (!bit k 31 || decide (fld k 26 3 < w)) && !(s.eState t e == 5 && s.flag (.FE_STAT t e) 6)

/-- An accepted enable (R329). -/
def State.eEnable (s : State) (t e : Nat) : State :=
  let x := s.engine t e
  let s := s.setEngine t e { x with acc := 0, shr := 0, work := .fresh, npc := 0, winCount := 0, tickLen := 0,
                                     c0 := reload (s.field (.FE_CNT t e) 0 16), c1 := reload (s.field (.FE_CNT t e) 16 16) }
  ((s.setFlag (.FE_CTL t e) 0 true).setEPc t e 0).setEState t e 1

/-- An accepted disable (R329): what was in progress is cut off; a stop shows until the next enable (R315). -/
def State.eDisable (s : State) (t e : Nat) : State :=
  let s := (s.setEngine t e { s.engine t e with work := .fresh }).setFlag (.FE_CTL t e) 0 false
  if s.eState t e = 5 then s else s.setEState t e 0

/-- FORCE with a swap pending: what holds the swap back is aborted (R332). -/
def State.eForce (s : State) (t e : Nat) : State :=
  if s.eBoundary t e then s
  else (s.setEngine t e { s.engine t e with work := .fresh }).setFlag (.FE_STAT t e) 4 true

/-- SWAP and FORCE (R331, R332). -/
def State.eSwapForce (s : State) (t e : Nat) (swap force : Bool) : State :=
  if swap && !s.eOn t e then s.setFlag (.FE_CTL t e) 1 (s.eBank t e == 0)
  else
    let s := if swap then s.setFlag (.FE_STAT t e) 7 true else s
    if force && s.swapPend t e then s.eForce t e else s

/-- A write of FE_CTL (R326, R329 to R332). -/
def State.feCtlWrite (s : State) (t e : Nat) (v : Word) : WriteRes :=
  let on := s.eOn t e
  if bit v 0 && !s.eMayEnable t e then s.stateRefused
  else if bit v 6 && on then s.stateRefused
  else
    let s := if bit v 6 then s.setEngine t e { s.engine t e with tx := [], rx := [] } else s
    let s := s.setFlag (.FE_CTL t e) 2 (bit v 2)
    let s := s.eSwapForce t e (bit v 4) (bit v 5)
    let s := if bit v 7 then s.setFlag (.FE_STAT t e) 8 false else s
    (if bit v 0 && !on then s.eEnable t e else if !bit v 0 && on then s.eDisable t e else s, none)

/-- The group of FE_PINS would overlap another engine's (R305). -/
def State.pinsOverlap (s : State) (t e : Nat) (v : Word) : Bool :=
  decide (0 < fld v 0 4) && (List.range 32).any (fun k => k != e && decide (0 < s.field (.FE_PINS t k) 0 4)
    && decide (fld v 8 6 < s.field (.FE_PINS t k) 8 6 + s.field (.FE_PINS t k) 0 4)
    && decide (s.field (.FE_PINS t k) 8 6 < fld v 8 6 + fld v 0 4))

/-- FE_SEG places the segment within its space (R319 and the register's note). -/
def State.segPlaced (s : State) (v : Word) : Bool :=
  let size := fld v 19 7
  let base := fld v 0 13
  decide (1 ≤ size ∧ size ≤ 64) && match fld v 30 2 with
  | 0 => decide (base < 512 ∧ base + size ≤ 512)
  | 1 => decide (base + size ≤ 8192)
  | 2 => decide ((base + size) * 1024 ≤ s.viewSize .F)
  | _ => false

/-- A write of one of the configuration registers of an engine; `k` is the word offset in its block. -/
def State.feCfgWrite (s : State) (t e k : Nat) (v : Word) : WriteRes :=
  let on := s.eOn t e
  match k with
  | 2 => if on then s.stateRefused else (s.wr (.FE_CFG t e) v, none)
  | 3 => if on || decide (64 < fld v 8 6 + fld v 0 4) || decide (9 ≤ fld v 0 4) || s.pinsOverlap t e v then s.stateRefused
         else (s.wr (.FE_PINS t e) v, none)
  | 4 => if on || fld v 29 2 == 0 || (!bit v 31 && decide (fld v 0 26 < 0x400)) then s.stateRefused
         else (s.wr (.FE_CLK t e) v, none)
  | 5 => (s.wr (.FE_CMP t e) v, none)
  | 6 => (s.wr (.FE_CMPMASK t e) v, none)
  | 7 => (s.wr (.FE_CNT t e) v, none)
  | 8 => (s.wr (.FE_IDLEPAT t e) v, none)
  | 9 => (s.wr (.FE_PAT t e) v, none)
  | 10 =>
    if on || s.streamRing t e 2 || s.streamRing t e 3 || !s.segPlaced v
        || (bit v 29 && (fld v 19 7 % 2 == 1 || fld v 30 2 == 2)) then s.stateRefused
    else ((s.wr (.FE_SEG t e) v).setEngine t e
      { s.engine t e with txSeg := 0, rxSeg := [], txRd := 0, txWr := 0, rxRd := 0, rxWr := 0 }, none)
  | _ => if on then s.stateRefused else (s.wr (.FE_SIO t e) v, none)

/-- A write of the program window (R330). -/
def State.feProgWrite (s : State) (t e i : Nat) (v : Word) : WriteRes :=
  let wb := s.field (.FE_CTL t e) 2 1
  if s.eOn t e && (wb == s.eBank t e || s.swapPend t e) then (s.setFlag (.FE_STAT t e) 5 true, some .state)
  else (s.setEngine t e { s.engine t e with prog := mset (s.engine t e).prog (16 * wb + i) v }, none)

/-- A write of TL_ENGGRP (R328): a new 1 enters a request; a 0 clears the ready bit and releases the grain. -/
def State.engGrpWrite (s : State) (t : Nat) (v : Word) : WriteRes :=
  let old := s.rd (.TL_ENGGRP t)
  if (List.range 4).any (fun g => bit old g && !bit v g && (List.range 8).any (fun k => s.eOn t (8 * g + k))) then s.stateRefused
  else
    let s := s.setField (.TL_ENGGRP t) 0 4 (fld v 0 4)
    (forEach (List.range 4) (fun g s =>
      if bit v g && !bit old g then s.apRequest (.engGroup (4 * t + g)) 1
      else if !bit v g && bit old g then (s.setReady 1 (4 * t + g) false).apRelease (.engGroup (4 * t + g))
      else s) s, none)

/-- The group of engines becomes ready (R328). -/
def State.engGroupReady (s : State) (t g : Nat) : State :=
  if s.flag (.TL_ENGGRP t) g && s.apHolds (.engGroup (4 * t + g)) && s.ready 2 t then s.setReady 1 (4 * t + g) true else s

/-! ### Commands -/

/-- The engine and its tile are in the build. -/
def engOk (t e : Nat) (s : State) : Bool := s.hasEngine t e

/-- ENGINE_TICK (R307 to R316, R322): one tick, whatever is in progress. -/
def execEngineTick (t e : Nat) (pins : Byte) (s : State) : Out := guarded (engOk t e s) (s.engTick t e pins)
/-- NOP (R312). -/
def execEngNop (t e : Nat) (pins : Byte) (s : State) : Out := guarded (engOk t e s) (s.tickOf t e 0x0 pins)
/-- SHO (R313). -/
def execEngSho (t e : Nat) (pins : Byte) (s : State) : Out := guarded (engOk t e s) (s.tickOf t e 0x1 pins)
/-- SHI (R313). -/
def execEngShi (t e : Nat) (pins : Byte) (s : State) : Out := guarded (engOk t e s) (s.tickOf t e 0x2 pins)
/-- SHX (R313). -/
def execEngShx (t e : Nat) (pins : Byte) (s : State) : Out := guarded (engOk t e s) (s.tickOf t e 0x3 pins)
/-- PULL (R322). -/
def execEngPull (t e : Nat) (pins : Byte) (s : State) : Out := guarded (engOk t e s) (s.tickOf t e 0x4 pins)
/-- PUSH (R321, R322). -/
def execEngPush (t e : Nat) (pins : Byte) (s : State) : Out := guarded (engOk t e s) (s.tickOf t e 0x5 pins)
/-- WAIT (R314). -/
def execEngWait (t e : Nat) (pins : Byte) (s : State) : Out := guarded (engOk t e s) (s.tickOf t e 0x6 pins)
/-- WAITC (R314). -/
def execEngWaitc (t e : Nat) (pins : Byte) (s : State) : Out := guarded (engOk t e s) (s.tickOf t e 0x7 pins)
/-- SETP (R312). -/
def execEngSetp (t e : Nat) (pins : Byte) (s : State) : Out := guarded (engOk t e s) (s.tickOf t e 0x8 pins)
/-- DIR (R312). -/
def execEngDir (t e : Nat) (pins : Byte) (s : State) : Out := guarded (engOk t e s) (s.tickOf t e 0x9 pins)
/-- JMP (R314). -/
def execEngJmp (t e : Nat) (pins : Byte) (s : State) : Out := guarded (engOk t e s) (s.tickOf t e 0xA pins)
/-- DJNZ (R314). -/
def execEngDjnz (t e : Nat) (pins : Byte) (s : State) : Out := guarded (engOk t e s) (s.tickOf t e 0xB pins)
/-- CLK (R314). -/
def execEngClk (t e : Nat) (pins : Byte) (s : State) : Out := guarded (engOk t e s) (s.tickOf t e 0xC pins)
/-- EVT (R314). -/
def execEngEvt (t e : Nat) (pins : Byte) (s : State) : Out := guarded (engOk t e s) (s.tickOf t e 0xD pins)

/-- ENGINE_STALL_END (R322): the tick on which a stalled PULL or PUSH ends; while nothing ends it, it stalls on. -/
def execEngineStallEnd (t e : Nat) (pins : Byte) (s : State) : Out :=
  guarded (engOk t e s) (match (s.engine t e).work with | .stalled => s.engTick t e pins | _ => s)

/-- ENGINE_BANK_SWAP (R331): the boundary at which a pending swap takes place. -/
def execEngineBankSwap (t e : Nat) (pins : Byte) (s : State) : Out :=
  guarded (engOk t e s) (if s.swapPend t e && s.eBoundary t e then s.engTick t e pins else s)

/-- STREAM_MOVER_TURN (R317, R318, R320). -/
def execStreamMoverTurn (t e : Nat) (s : State) : Out := guarded (engOk t e s) (s.moverTurn t e)

/-- ENGINE_GROUP_READY (R328): 16 FABCLK cycles after the later of the grant and the tile's ready bit. -/
def execEngineGroupReady (t g : Nat) (s : State) : Out :=
  guarded (s.hasTile t && decide (g < 4)) (s.engGroupReady t g)

end Sys2Proof.Machine
end

