-- ==== Sys2Proof/Machine/Rings.lean ====
section
/-! DEFINITION. Descriptor rings, completion queues, doorbells and interrupt vectors (R276 to R296, R302, R303). -/

namespace Sys2Proof.Machine

/-! ### Registers of rings and queues -/

/-- Number of slots of a ring. -/
def State.rgSize (s : State) (p r : Nat) : Nat := 2 ^ s.field (.RG_CFG p r) 16 5
/-- Its completion queue. -/
def State.rgCq (s : State) (p r : Nat) : Nat := s.field (.RG_CFG p r) 8 6
/-- Its unit. -/
def State.rgUnit (s : State) (p r : Nat) : Nat := s.field (.RG_TARGET p r) 0 8
/-- PI. -/
def State.rgPi (s : State) (p r : Nat) : Nat := s.field (.RG_PI p r) 0 17
/-- CI. -/
def State.rgCi (s : State) (p r : Nat) : Nat := s.field (.RG_CI p r) 0 17
/-- The difference of two 17-bit indices (R277). -/
def idxDiff (a b : Nat) : Nat := (a + 2 ^ 17 - b % 2 ^ 17) % 2 ^ 17
/-- Base address of a ring in host memory. -/
def State.rgBase (s : State) (p r : Nat) : Nat := (s.rd (.RG_BASE p r 1)).toNat * 2 ^ 32 + (s.rd (.RG_BASE p r 0)).toNat
/-- The ring is stopped (R292). -/
def State.rgStopped (s : State) (p r : Nat) : Bool := s.flag (.RG_STAT p r) 30

/-- Entries of a queue. -/
def State.cqSize (s : State) (p q : Nat) : Nat := 2 ^ s.field (.RG_CQCFG p q) 16 5
/-- Entries written, modulo 2^17. -/
def State.cqWidx (s : State) (p q : Nat) : Nat := s.field (.RG_CQSTAT p q) 0 17
/-- The queue is full (R302). -/
def State.cqFull (s : State) (p q : Nat) : Bool := decide (s.cqSize p q ≤ idxDiff (s.cqWidx p q) (s.cq p q).cidx)
/-- The queue holds its rings: full, stopped by an ERR response, or not enabled (R292, R302). -/
def State.cqHolds (s : State) (p q : Nat) : Bool := !s.flag (.RG_CQCFG p q) 31 || s.flag (.RG_CQSTAT p q) 30 || s.cqFull p q
/-- The ring is held by its queue: RG_STAT.CQWAIT. -/
def State.rgHeld (s : State) (p r : Nat) : Bool := s.rgOn p r && s.cqHolds p (s.rgCq p r)

/-- Completions of the ring are kept by its queue (R292, R302). -/
def State.rgKept (s : State) (p r : Nat) : Bool := (s.cq p (s.rgCq p r)).kept.any (fun c => c.ring == r)

/-- A transaction of the ring is outstanding or still to be issued: its fetches, data, word-7 writes, entries and messages
(R280, R303). -/
def State.rgBusy (s : State) (p r : Nat) : Bool :=
  ((s.port p).out ++ (s.port p).wait).any (fun x => x.use.tile.isNone && x.use.ring == r) || s.rgKept p r

/-- The ring engines run: not in DOZE, SLEEP, OFF or HALT (R447, R476). -/
def State.ringsRun (s : State) : Bool := s.clk.running && !s.clk.held && (s.blk == 1 || s.blk == 2 || s.blk == 3 || s.blk == 4)

/-! ### Fetching (R276, R281, R300) -/

/-- Fetch the next posted descriptors: one request at a time, at most 16 fetched and not completed, none while the ring is
stopped, stopping or held. -/
def State.ringFetch (s : State) (p r : Nat) : State :=
  let x := s.ring p r
  let posted := idxDiff (s.rgPi p r) x.fetchPos
  if !s.rgOn p r || s.rgStopped p r || x.stop.isSome || s.rgHeld p r || 0 < x.asked || posted = 0 || 16 ≤ x.pref.length
    || !s.ringsRun then s
  else
    let n := s.rgSize p r
    let slot := x.fetchPos % n
    let k := min (min posted (16 - x.pref.length)) (n - slot)
    let s := s.setRing p r { x with asked := k }
    (s.setFlag (.RG_STAT p r) 31 false).mgrRead p (s.rgBase p r + 32 * slot) (32 * k) (.fetch r)

/-! ### Descriptors (R281 to R283) -/

/-- Word `i` of a descriptor. -/
def Desc.w (d : Desc) (i : Nat) : Word := d.words.getD i 0
/-- LEN. -/
def Desc.len (d : Desc) : Nat := fld (d.w 2) 0 24
/-- FLAGS. -/
def Desc.flags (d : Desc) : Nat := fld (d.w 2) 24 8
/-- TAGV. -/
def Desc.tagv (d : Desc) : Bool := bit (d.w 2) 28
/-- SOP. -/
def Desc.sop (d : Desc) : Bool := bit (d.w 2) 24
/-- EOP. -/
def Desc.eop (d : Desc) : Bool := bit (d.w 2) 25
/-- BUF_ADDR. -/
def Desc.buf (d : Desc) : Nat := (d.w 1).toNat * 2 ^ 32 + (d.w 0).toNat

/-- A range of bytes of a view lies inside a slice given in lines. -/
def inSlice (w : Word) (o n : Nat) : Bool := decide (64 * fld w 0 14 ≤ o ∧ o + n ≤ 64 * (fld w 0 14 + fld w 16 15))

/-- The smallest MSG_RX buffer: one frame record with 64 data bytes (R282, R382). -/
def recordBytes : Nat := 80

/-- The first failing check of R283: 7 FLAGS, 6 LEN, 5 TARGET; 0 when all pass. -/
def State.descCheck (s : State) (p r : Nat) (d : Desc) : Nat :=
  let ty := s.rgType p r
  let g := s.rgGroup p r
  let tgt := (d.w 3).toNat
  if 32 ≤ d.flags ∨ (d.tagv = true ∧ 2 ≤ ty) then 7
  else if d.buf % 4 ≠ 0 ∨ d.len % 4 ≠ 0 ∨ d.len = 0 ∨ (ty < 2 ∧ 4096 < d.len) ∨ (ty = 5 ∧ d.len < recordBytes) then 6
  else
    let ok := match ty with
      | 0 => decide (tgt % 4 = 0) && inSlice (s.rd (.SC_ISLICE g)) tgt d.len
      | 1 => decide (tgt % 4 = 0) && inSlice (s.rd (.SC_QSLICE g)) tgt d.len
      | 2 | 3 => tgt == s.rgUnit p r
      | 4 => decide (tgt < 2 ^ 14) && (!s.canOn (s.rgUnit p r) || s.txObject (s.rgUnit p r) tgt)
      | 5 => tgt == 0
      | _ => decide (tgt / 2 ^ 28 < 2)
    if ok then 0 else 5

/-! ### Completion (R285 to R292, R302) -/

/-- The interrupt of a queue (R289). -/
def State.cqInterrupt (s : State) (p q r : Nat) : State :=
  if s.flag (.RG_CQCFG p q) 6 then
    let v := s.field (.RG_CQCFG p q) 0 6
    s.sendMessage p (some r) (.RG_VECADDR p v 0) (.RG_VECADDR p v 1) (.RG_VECDATA p v) (.RG_VECCTL p v)
  else s

/-- The slot that an entry names: of its descriptor, or CI mod N for a stop (R285). -/
def State.entrySlot (s : State) (p : Nat) (c : Completion) : Nat :=
  if c.stop then s.rgCi p c.ring % s.rgSize p c.ring else c.idx

/-- Write one completion entry, with the thread events of R291 and the interrupt of R289. -/
def State.writeEntry (s : State) (p q : Nat) (c : Completion) : State :=
  let m := s.cqSize p q
  let w := s.cqWidx p q
  let phase := w / m % 2 == 0
  let a := (s.rd (.RG_CQBASE p q 1)).toNat * 2 ^ 32 + (s.rd (.RG_CQBASE p q 0)).toNat + 16 * (w % m)
  let w0 := c.stop.toNat * 2 ^ 31 + c.err * 2 ^ 24 + c.ring * 2 ^ 16 + s.entrySlot p c
  let w1 := c.flags * 2 ^ 24 + c.len
  let w3 := phase.toNat * 2 ^ 31 + s.now / 32 % 2 ^ 31
  let s := s.mgrWrite p a (leBytes 4 w0 ++ leBytes 4 w1 ++ leBytes 4 c.scan.toNat ++ leBytes 4 w3) (.entry q c.ring)
  let w := (w + 1) % 2 ^ 17
  let s := (s.setField (.RG_CQSTAT p q) 0 17 w).setFlag (.RG_CQSTAT p q) 29 (w / m % 2 == 0)
  let s := if s.cqFull p q then s.setFlag (.RG_CQSTAT p q) 31 true else s
  let bad := c.stop || c.err != 0
  let s := if s.flag (.RG_CQCFG p q) 15 then
      let t := s.field (.RG_CQCFG p q) 12 3
      let n := s.field (.RG_CQCFG p q) 8 4
      let s := s.setEvent t n 18
      if bad then s.setEvent t n 19 else s
    else s
  if bad || c.flags / 4 % 2 == 1 then s.cqInterrupt p q c.ring else s

/-- Issue a completion: word 7, then the entry; CI advances (R287). A stop entry has no descriptor to write back. -/
def State.issueCompletion (s : State) (p q : Nat) (c : Completion) : State :=
  if c.stop then s.writeEntry p q c
  else
    let r := c.ring
    let w7 := 2 ^ 31 + c.err * 2 ^ 24 + c.len
    let s := s.mgrWrite p (s.rgBase p r + 32 * c.idx + 28) (leBytes 4 w7) (.word7 r)
    (s.writeEntry p q c).setField (.RG_CI p r) 0 17 (s.rgCi p r + 1)

/-- Issue a completion, or keep it while the queue holds its rings (R292, R302). -/
def State.postCompletion (s : State) (p r : Nat) (c : Completion) : State :=
  let q := s.rgCq p r
  if s.cqHolds p q || !(s.cq p q).kept.isEmpty then s.setCq p q { s.cq p q with kept := (s.cq p q).kept ++ [c] }
  else s.issueCompletion p q c

/-- The front descriptor completes with a code, a length, its flags as written back, and SCAN. Reads of its buffer that are
still outstanding are given up. -/
def State.completeFront (s : State) (p r err len flags : Nat) (scan : Word) : State :=
  match (s.ring p r).pref with
  | [] => s
  | d :: rest =>
    let s := if d.asked ≤ d.moved then s else s.mgrDrop p r (.ringData r) (d.asked - d.moved)
    let s := s.setRing p r { s.ring p r with pref := rest }
    let s := if err = 8 ∨ err = 9 then s.setFlag (.RG_STAT p r) 28 true else s
    s.postCompletion p r ⟨false, err, r, d.idx, flags, len, scan, d.buf⟩

/-- SCAN of a descriptor of a ring that is no image ring: USER word 5 (R281, R285). -/
def Desc.user (d : Desc) : Word := d.w 5

/-- The stop entry of a stopping ring once its fetched descriptors have completed (R278, R292). -/
def State.ringStop (s : State) (p r : Nat) : State :=
  let x := s.ring p r
  match x.stop with
  | none => s
  | some c =>
    if !x.pref.isEmpty || 0 < x.asked then s
    else
      let s := s.setRing p r { x with stop := none }
      let s := (s.setFlag (.RG_STAT p r) 30 true).setField (.RG_STAT p r) 16 7 c
      s.postCompletion p r ⟨true, c, r, 0, 0, 0, 0, 0⟩

/-- Front descriptors that failed a check of R283 complete, one after the other; then a stop or the next fetch. -/
def State.ringAdvance : Nat → State → Nat → Nat → State
  | 0, s, p, r => (s.ringStop p r).ringFetch p r
  | k + 1, s, p, r =>
    match (s.ring p r).pref with
    | d :: _ =>
      if d.bad ≠ 0 && !s.rgHeld p r then
        let img := s.rgType p r < 2
        State.ringAdvance k (s.completeFront p r d.bad 0 d.flags (if img then 0 else d.user)) p r
      else (s.ringStop p r).ringFetch p r
    | [] => (s.ringStop p r).ringFetch p r

/-- The front descriptor completes, and the ring goes on. -/
def State.finishFront (s : State) (p r err len flags : Nat) (scan : Word) : State :=
  State.ringAdvance 17 (s.completeFront p r err len flags scan) p r

/-- The kept completions of a queue are issued, oldest first, while it has space (R302). -/
def State.releaseKept : Nat → State → Nat → Nat → State
  | 0, s, _, _ => s
  | k + 1, s, p, q =>
    match (s.cq p q).kept with
    | [] => s
    | c :: rest =>
      if s.cqHolds p q then s
      else State.releaseKept k ((s.setCq p q { s.cq p q with kept := rest }).issueCompletion p q c) p q

/-- The enabled rings of a port that map to a queue. -/
def State.ringsOf (s : State) (p q : Nat) : List Nat :=
  (List.range 256).filter (fun r => s.rgOn p r && s.rgCq p r == q)

/-- A queue has space again: the kept completions first, also of rings disabled since, then every mapped ring goes on
(R302). -/
def State.cqResume (s : State) (p q : Nat) : State :=
  if s.cqHolds p q then s
  else
    let s := State.releaseKept (s.cq p q).kept.length s p q
    forEach (s.ringsOf p q) (fun r s => s.ringAdvance 17 p r) s

/-! ### Doorbells (R278, R293 to R296) -/

/-- A new PI of a ring (R277, R278). -/
def State.setPi (s : State) (p r v : Nat) : State :=
  let v := v % 2 ^ 17
  if s.rgOn p r && decide (s.rgSize p r < idxDiff v (s.rgCi p r)) then
    if s.rgStopped p r || (s.ring p r).stop.isSome then s
    else ((s.setField (.RG_PI p r) 0 17 v).setRing p r { s.ring p r with stop := some 0x10 }).ringStop p r
  else (s.setField (.RG_PI p r) 0 17 v).ringFetch p r

/-- A new consumer index of a queue. -/
def State.setCidx (s : State) (p q v : Nat) : State :=
  (s.setCq p q { s.cq p q with cidx := v % 2 ^ 17 }).cqResume p q

/-- Show the interval in RG_PSTAT and keep it. -/
def State.setInterval (s : State) (p i : Nat) : State :=
  (s.setPoll p { s.poll p with interval := i }).setField (.RG_PSTAT p) 0 14 (i / 8)

/-- A poll is under way: its summary read is outstanding or waits (R48). -/
def State.polling (s : State) (p : Nat) : Bool :=
  (s.mgrOut p false ++ (s.port p).wait).any (fun x => x.use == .summary)

/-- Issue the summary read of a poll (R294). Intervals run from the issue of one to the next, so a poll may begin before the
response to the one before, but not before that one has been issued (R295). -/
def State.startPoll (s : State) (p : Nat) : State :=
  if !s.flag (.RG_PCTL p) 0 || (s.port p).wait.any (fun x => x.use == .summary) || !s.ringsRun then s
  else s.mgrRead p ((s.rd (.RG_SUMADDR p 1)).toNat * 2 ^ 32 + (s.rd (.RG_SUMADDR p 0)).toNat) 64 .summary

/-- A rising edge of DB_KICK, or a legacy write: a poll at once, or one more after the present one; I returns to MIN
(R48, R295). -/
def State.kick (s : State) (p : Nat) : State :=
  if !s.flag (.RG_PCTL p) 0 then s
  else
    let s := s.setInterval p (s.field (.RG_PCTL p) 14 10)
    if s.polling p then s.setPoll p { s.poll p with again := true } else s.startPoll p

/-- Some enabled ring of the port has a posted descriptor that has not completed, or some queue is full (R295). -/
def State.portActive (s : State) (p : Nat) : Bool :=
  s.regs.any (fun x => match x.1 with
    | .RG_CFG p' r => p' == p && s.rgOn p r && s.rgPi p r != s.rgCi p r
    | .RG_CQCFG p' q => p' == p && s.flag (.RG_CQCFG p q) 31 && s.cqFull p q
    | _ => false)

/-- The groups of doorbell words with a full queue: halfwords 16 to 19. -/
def State.fullGroups (s : State) (p : Nat) : List Nat :=
  [16, 17, 18, 19].filter (fun h => (List.range 16).any (fun i =>
    s.flag (.RG_CQCFG p (16 * (h - 16) + i)) 31 && s.cqFull p (16 * (h - 16) + i)))

/-- A poll has ended with its summary response: the next interval, and the further poll that a kick asked for (R48,
R295). -/
def State.endPoll (s : State) (p : Nat) (changed : Bool) : State :=
  let mn := s.field (.RG_PCTL p) 14 10
  let mx := 8 * s.field (.RG_PCTL p) 1 13
  let again := (s.poll p).again
  let i := if changed || again || s.portActive p then mn else min (2 * (s.poll p).interval) mx
  let s := s.setInterval p i
  if again && !s.polling p then (s.setPoll p { s.poll p with again := false }).startPoll p else s

/-- A summary read received ERR: the last-seen halfwords stay (R295). -/
def State.summaryError (s : State) (p : Nat) : State := (s.setFlag (.RG_PSTAT p) 31 true).endPoll p false

/-- A doorbell-line read received ERR: the last-seen halfword is as before the poll (R295). -/
def State.doorbellError (s : State) (p h : Nat) (old : BitVec 16) : State :=
  (s.setFlag (.RG_PSTAT p) 31 true).setPoll p { s.poll p with seen := (s.poll p).seen.set h old }

/-- A summary response (R294). -/
def State.summaryArrival (s : State) (p : Nat) (hw : List (BitVec 16)) (err : Bool) : State :=
  if (s.readHead p .summary).isNone then s
  else
    let s := s.mgrTake p .summary 64
    if err then s.summaryError p
    else
      let x := s.poll p
      let changed := (List.range 20).filter (fun h => x.first || hw.getD h 0 != x.seen.getD h 0)
      let lines := changed ++ (s.fullGroups p).filter (fun h => !changed.contains h)
      let base := (s.rd (.RG_DBBASE p 1)).toNat * 2 ^ 32 + (s.rd (.RG_DBBASE p 0)).toNat
      let s := s.setPoll p { x with seen := (List.range 20).map (fun h => hw.getD h 0), first := false }
      let s := forEach lines (fun h s => s.mgrRead p (base + 64 * h) 64 (.doorbells h (x.seen.getD h 0))) s
      s.endPoll p (!changed.isEmpty)

/-- The oldest issued read of a doorbell line. -/
def State.lineHead (s : State) (p h : Nat) : Option Txn :=
  (s.port p).out.find? (fun x => !x.write && match x.use with | .doorbells k _ => k == h | _ => false)

/-- A doorbell line (R293, R294, R302). -/
def State.doorbellArrival (s : State) (p h : Nat) (words : List Word) (err : Bool) : State :=
  match s.lineHead p h with
  | none => s
  | some x =>
    let s := s.mgrTake p x.use 64
    if err then (match x.use with | .doorbells _ old => s.doorbellError p h old | _ => s)
    else
      (List.range 16).foldl (fun s i =>
        let v := fld (words.getD i 0) 0 17
        if h < 16 then (if s.flag (.RG_CFG p (16 * h + i)) 30 then s else s.setPi p (16 * h + i) v)
        else
          let q := 16 * (h - 16) + i
          if s.flag (.RG_CQCFG p q) 30 then s else s.setCidx p q v) s

/-- A write to the legacy doorbell page of port `p` (R296). -/
def State.legacyWrite (s : State) (p o : Nat) (v : Word) : WriteRes :=
  let act := fun (s : State) => s.kick p
  if o < 0x400 then
    (if s.flag (.RG_CFG p (o / 4)) 30 then (act (s.setPi p (o / 4) v.toNat), none) else s.stateRefused)
  else if o < 0x500 then
    (if s.flag (.RG_CQCFG p ((o - 0x400) / 4)) 30 then (act (s.setCidx p ((o - 0x400) / 4) v.toNat), none) else s.stateRefused)
  else (s, none)

/-! ### Enable and disable (R279, R280, R303, R319) -/

/-- The sum of SHARE over the port's enabled IMG rings, ring `r` counted as given. -/
def State.shareSum (s : State) (p r ty : Nat) : Nat :=
  ((List.range 256).map (fun k => if k = r then (if ty < 2 then s.field (.RG_FLOW p k) 8 8 else 0)
    else if s.rgOn p k && decide (s.rgType p k < 2) then s.field (.RG_FLOW p k) 8 8 else 0)).sum

/-- The number of enabled stream rings that name an engine. -/
def State.streamRings (s : State) (u : Nat) : Nat :=
  (s.regs.filter (fun x => match x.1 with
    | .RG_CFG p r => let w := s.rd (.RG_CFG p r)
      bit w 31 && (fld w 24 3 == 2 || fld w 24 3 == 3) && s.rgUnit p r == u
    | _ => false)).length

/-- The configuration of an enable is refused (R276, R282, R303, R319). -/
def State.ringBad (s : State) (p r : Nat) (v : Word) : Bool :=
  let ty := fld v 24 3
  let u := s.rgUnit p r
  ty == 7 || decide (fld v 16 5 < 4) || decide (16 < fld v 16 5)
    || ((ty == 2 || ty == 3) && (!s.hasEngine (u / 32) (u % 32) || s.segWindow (u / 32) (u % 32)
        || (decide (0 < s.streamRings u) && !s.flag (.FE_SEG (u / 32) (u % 32)) 29)))
    || ((ty == 4 || ty == 5) && !s.hasCan u)
    || (ty == 5 && s.msgRxRing p u)
    || decide (192 < s.shareSum p r ty)

/-- The descriptor in progress of a ring being disabled completes with ABORT; the others are discarded, and no fetch or
buffer read of the ring is issued any more (R280). -/
def State.ringAbort (s : State) (p r : Nat) : State :=
  let x := s.ring p r
  let s := match x.pref with
    | d :: _ => if d.begun || decide (0 < d.moved) then
        s.completeFront p r 0xC d.moved d.flags (if s.rgType p r < 2 then d.scan.getD 0 else d.user) else s
    | [] => s
  let s := (s.mgrDrop p r (.fetch r) (32 * x.asked)).mgrDrop p r (.ringData r) (s.readIssued p (.ringData r) + 2 ^ 32)
  s.setRing p r { s.ring p r with pref := [], stop := none, asked := 0, pkgRefused := false }

/-- A write of RG_CFG (R279, R280). A write of EN = 0 to an enabled ring disables it and changes nothing else. -/
def State.rgCfgWrite (s : State) (p r : Nat) (v : Word) : WriteRes :=
  if s.rgOn p r then
    if bit v 31 then s.stateRefused
    else
      let s := s.ringAbort p r
      let s := s.setFlag (.RG_CFG p r) 31 false
      let s := if s.rgType p r = 5 then s.pruneRecords (s.rgUnit p r) else s
      ((s.setFlag (.RG_STAT p r) 31 (!s.rgBusy p r)).dropPacing, none)
  else if !s.flag (.RG_STAT p r) 31 then s.stateRefused
  else if !bit v 31 then
    if fld v 24 3 = 7 || decide (fld v 16 5 < 4) || decide (16 < fld v 16 5) then s.stateRefused else (s.wr (.RG_CFG p r) v, none)
  else if s.ringBad p r v then s.stateRefused
  else
    let s := s.wr (.RG_CFG p r) v
    let s := (s.setFlag (.RG_STAT p r) 30 false).setField (.RG_STAT p r) 16 7 0
    let x := { s.ring p r with fetchPos := s.rgCi p r, pref := [], asked := 0, stop := none, pkgRefused := false, filling := false }
    let s := s.setRing p r x
    ((s.setPi p r (s.rgPi p r)), none)

/-- A write of another configuration register of a ring (R279). -/
def State.rgConfWrite (s : State) (p r : Nat) (reg : Reg) (v : Word) : WriteRes :=
  if s.rgOn p r || !s.flag (.RG_STAT p r) 31 then s.stateRefused else (s.wr reg v, none)

/-- Some enabled ring maps to the queue. -/
def State.cqMapped (s : State) (p q : Nat) : Bool := !(s.ringsOf p q).isEmpty

/-- A write of RG_CQCFG (R279, R292): EN = 0 disables an enabled queue and changes nothing else; EN = 1 enables it again
with its configuration, also under mapped rings that it holds. -/
def State.cqCfgWrite (s : State) (p q : Nat) (v : Word) : WriteRes :=
  let old := s.rd (.RG_CQCFG p q)
  if bit old 31 then (if bit v 31 then s.stateRefused else (s.setFlag (.RG_CQCFG p q) 31 false, none))
  else if s.cqMapped p q && fld old 0 31 != fld v 0 31 then s.stateRefused
  else if decide (fld v 16 5 < 4) || decide (16 < fld v 16 5) then s.stateRefused
  else
    let s := s.wr (.RG_CQCFG p q) v
    if bit v 31 then ((s.setFlag (.RG_CQSTAT p q) 30 false).cqResume p q, none) else (s, none)

/-- A write of RG_CQBASE (R279). -/
def State.cqBaseWrite (s : State) (p q i : Nat) (v : Word) : WriteRes :=
  if s.flag (.RG_CQCFG p q) 31 || s.cqMapped p q then s.stateRefused else (s.wr (.RG_CQBASE p q i) v, none)

/-- A write of RG_PCTL (R294, R295). -/
def State.pctlWrite (s : State) (p : Nat) (v : Word) : WriteRes :=
  if fld v 14 10 < 16 then s.stateRefused
  else
    let was := s.flag (.RG_PCTL p) 0
    let s := s.wr (.RG_PCTL p) v
    if bit v 0 && !was then ((s.setPoll p { s.poll p with first := true, again := false }).setInterval p (fld v 14 10), none)
    else (s, none)

/-- A write of RG_SUMADDR or RG_DBBASE: only while polling is disabled. -/
def State.pollAddrWrite (s : State) (p : Nat) (r : Reg) (v : Word) : WriteRes :=
  if s.flag (.RG_PCTL p) 0 then s.stateRefused else (s.wr r v, none)

/-- A write of a vector's control: MASK = 0 with PEND set sends one message and clears PEND (R289, R435). -/
def State.vecCtlWrite (s : State) (p : Nat) (lo hi data ctl : Reg) (keep : Word) (v : Word) : WriteRes :=
  let pend := s.flag ctl 1
  let s := s.wr ctl ((v &&& keep) ||| (if pend then 2 else 0))
  if pend && !bit v 0 then ((s.setFlag ctl 1 false).sendMessage p none lo hi data ctl, none) else (s, none)

/-- Fetched descriptors arrive, one burst after the other (R283, R292). With `err` the next of them does not: the ring stops
once the descriptors before it have completed. -/
def State.descArrival (s : State) (p r : Nat) (words : List Word) (err : Bool) : State :=
  let k := min (words.length / 8) (s.readIssued p (.fetch r) / 32)
  if (s.readHead p (.fetch r)).isNone then s
  else
    let s := s.mgrTake p (.fetch r) (32 * k)
    let bad := if err || s.readFailed p (.fetch r) then (s.readHead p (.fetch r)).map (·.len) else none
    let s := s.mgrTake p (.fetch r) (bad.getD 0)
    let x := s.ring p r
    let g := s.group (s.rgGroup p r)
    let nextK := s.nextFreeze (s.rgGroup p r)
    let mk := fun (i : Nat) =>
      let ws := (words.drop (8 * i)).take 8
      let d : Desc := ⟨(x.fetchPos + i) % s.rgSize p r, ws, none, 0, false, 0, 0, none, 0⟩
      let tag := g.latest / 2 ^ 32 * 2 ^ 32 + (d.w 4).toNat
      let dl := if s.rgType p r = 0 then (if d.tagv then tag else nextK) else (if d.tagv then tag else g.pubs)
      { d with deadline := some dl, bad := s.descCheck p r d }
    let x := { x with asked := x.asked - k, fetchPos := (x.fetchPos + k) % 2 ^ 17, pref := x.pref ++ (List.range k).map mk }
    let s := match bad with
      | some n => (s.setRing p r { x with asked := 0, stop := x.stop.orElse (fun _ => some 0x11) }).mgrDrop p r (.fetch r) (32 * x.asked - n)
      | none => s.setRing p r x
    s.ringAdvance 17 p r

/-! ### Commands -/

/-- Port and ring numbers exist. -/
def ringOk (p r : Nat) : Bool := decide (p < 2 ∧ r < 256)

/-- RING_IDLE (R280): the last outstanding transaction of a disabled ring has completed. -/
def execRingIdle (p r : Nat) (s : State) : Out :=
  guarded (ringOk p r) (if !s.rgOn p r && !s.rgBusy p r then s.setFlag (.RG_STAT p r) 31 true else s)

/-- DOORBELL_POLL (R294): the end of the poll interval. -/
def execDoorbellPoll (p : Nat) (s : State) : Out := guarded (decide (p < 2)) (s.startPoll p)

/-- SUMMARY_LINE_ARRIVAL (R294, R295). -/
def execSummaryLineArrival (p : Nat) (halfwords : List (BitVec 16)) (err : Bool) (s : State) : Out :=
  guarded (decide (p < 2)) (s.summaryArrival p halfwords err)

/-- DOORBELL_LINE_ARRIVAL (R278, R294, R302). -/
def execDoorbellLineArrival (p h : Nat) (words : List Word) (err : Bool) (s : State) : Out :=
  guarded (decide (p < 2 ∧ h < 20)) (s.doorbellArrival p h words err)

/-- DESCRIPTOR_ARRIVAL (R281, R283, R292). -/
def execDescriptorArrival (p r : Nat) (words : List Word) (err : Bool) (s : State) : Out :=
  guarded (ringOk p r) (s.descArrival p r words err)

/-- A rising edge of DB_KICK (R48, R295, R448): a poll; in DOZE a wake where it is enabled. -/
def State.kickEdge (s : State) (p : Nat) : State :=
  if s.blk = 5 then (if s.flag .AP_WAKEEN (8 + p) then s.requestWake (.kick p) else s) else s.kick p

/-- DB_KICK_EDGE (R48, R295, R448). -/
def execDbKickEdge (p : Nat) (s : State) : Out := guarded (decide (p < 2)) (s.kickEdge p)

end Sys2Proof.Machine
end

