-- ==== Sys2Proof/Machine/Transfers.lean ====
section
/-! DEFINITION. What descriptors move: the reads of host buffers, images, streams, frame records, edit packages and messages
(R281 to R284, R288, R290, R297 to R301, R385, R466). -/

namespace Sys2Proof.Machine

/-! ### The descriptor in front -/

/-- An entry of the ring has not been issued: it is kept, or its write waits (R281, R287). -/
def State.entryOwed (s : State) (p r : Nat) : Bool :=
  s.rgKept p r || (s.port p).wait.any (fun x => match x.use with | .entry _ r' => r' == r | _ => false)

/-- The transfer of a descriptor has begun. -/
def Desc.started (d : Desc) : Bool := d.begun || decide (0 < d.moved)

/-- A descriptor of the ring may be worked on: no failing check, and if it has not begun, the ring is not held, FENCE is
satisfied, and pacing allows its beginning (R281, R302, R361). `first`: it is the front one. -/
def State.descRuns (s : State) (p r : Nat) (first : Bool) (d : Desc) : Bool :=
  d.bad == 0 && (d.started || (!s.rgHeld p r && (!bit (d.w 2) 27 || (first && !s.entryOwed p r))
    && !(s.paced p r && (s.ring p r).pace == 0)))

/-- The front descriptor of an enabled ring of a type, when it may be worked on. -/
def State.frontOf (s : State) (p r ty : Nat) : Option Desc :=
  if !s.rgOn p r || s.rgType p r != ty || s.rgStopped p r || !s.ringsRun || (ty == 6 && s.upd.paused) then none
  else match (s.ring p r).pref with
    | [] => none
    | d :: _ => if s.descRuns p r true d then some d else none

/-- Change descriptor `j` of those fetched. -/
def State.setDesc (s : State) (p r j : Nat) (f : Desc → Desc) : State :=
  let x := s.ring p r
  s.setRing p r { x with pref := x.pref.modify j f }

/-- The transfer of descriptor `j` begins: a paced ring uses one request (R361). -/
def State.beginDesc (s : State) (p r j : Nat) : State :=
  match (s.ring p r).pref[j]? with
  | none => s
  | some d =>
    let s := if !d.started && s.paced p r then s.setRing p r { s.ring p r with pace := (s.ring p r).pace - 1 } else s
    s.setDesc p r j (fun d => { d with begun := true })

/-- The transfer of the front descriptor begins. -/
def State.beginFront (s : State) (p r : Nat) : State := s.beginDesc p r 0

/-! ### Reads of a host buffer (R282, R290) -/

/-- Descriptor `j` asks for the next `n` bytes of its buffer. -/
def State.askDesc (s : State) (p r j n : Nat) : State :=
  match (s.ring p r).pref[j]? with
  | none => s
  | some d =>
    ((s.beginDesc p r j).setDesc p r j (fun d => { d with asked := d.asked + n })).mgrRead p (d.buf + d.asked) n (.ringData r)

/-- How many bytes that a command brings belong to reads of the front descriptor that have been issued. -/
def State.arrived (s : State) (p r : Nat) (d : Desc) (data : List Byte) : Nat :=
  min (min data.length (d.asked - d.moved)) (s.readIssued p (.ringData r))

/-- The next `n` bytes of the front descriptor have arrived and been used. -/
def State.frontTake (s : State) (p r n : Nat) : State :=
  (s.setDesc p r 0 (fun d => { d with moved := d.moved + n })).mgrTake p (.ringData r) n

/-- The next read of the ring's buffers has received ERR. -/
def State.bufFailed (s : State) (p r : Nat) (err : Bool) : Bool := err || s.readFailed p (.ringData r)

/-- The read with the next bytes of the front descriptor received ERR: it completes with HOSTERR, and DONE_LEN counts the
bytes before (R290). -/
def State.hostError (s : State) (p r : Nat) (scan : Word) : State :=
  match (s.ring p r).pref with
  | [] => s
  | d :: _ =>
    let n := ((s.readHead p (.ringData r)).map (·.len)).getD 0
    ((s.setDesc p r 0 (fun d => { d with asked := d.asked - n })).mgrTake p (.ringData r) n).finishFront p r 1 d.moved d.flags scan

/-- The error code of a failed block-memory access (R290). -/
def causeErr : Cause → Nat
  | .notready => 2 | .ecc => 3 | .view | .state => 4 | _ => 5

/-! ### Images (R297 to R299) -/

/-- FABCLK cycles that a transfer of `n` bytes with its guard needs, in timebase units (R297, R299). -/
def State.guardTime (s : State) (p n : Nat) : Nat := 2 * (ceilDiv n 16 + s.field (.RG_PCTL p) 24 8)

/-- IMG_IN (R297): whether the writes must still wait, and whether they are late. -/
def State.imgInTiming (s : State) (p r : Nat) (d : Desc) : Bool × Bool :=
  let g := s.rgGroup p r
  if s.gIdle g then (false, false)
  else
    let x := s.group g
    let dl := d.deadline.getD 0
    if d.tagv && decide (x.latest + 1 < dl) then (true, false)
    else if decide (dl ≤ x.latest) && decide (0 < dl ∨ s.gState g ≠ 1) then (false, true)
    else (decide (s.freezeAt g (s.nextFreeze g) < s.now + s.guardTime p d.len), false)

/-- The code of an image descriptor after a row of scan `now`: TORN once its rows belong to two scans (R298, R299). -/
def Desc.rowCode (d : Desc) (now : Word) (code : Nat) : Nat := if d.scan.any (· != now) then 9 else code

/-- The IMG_IN descriptor in front: it asks for its buffer; then the rows that `data` brings are written to the F view (R196,
R205, R297, R298). -/
def State.imgIn (s : State) (p r : Nat) (data : List Byte) (err : Bool) : State :=
  match s.frontOf p r 0 with
  | none => s
  | some d =>
    if d.asked < d.len then s.askDesc p r 0 (d.len - d.asked)
    else
      let n := s.arrived p r d data
      let tm := if d.scan.isSome then (false, d.code == 8) else s.imgInTiming p r d
      if tm.1 || (n = 0 && !s.bufFailed p r err) then s
      else
        let g := s.rgGroup p r
        let fw := if s.gIdle g then s.freshWord else (word (s.nextFreeze g), s)
        let code := if s.gIdle g then d.code else d.rowCode fw.1 (if tm.2 then 8 else d.code)
        let scan := d.scan.getD fw.1
        let w := fw.2.dmaWrite (smBase + s.viewBase .F + (d.w 3).toNat + d.moved) (data.take n)
        match w.2 with
        | some c => w.1.finishFront p r (causeErr c) d.moved d.flags scan
        | none =>
          let s := (w.1.setDesc p r 0 (fun d => { d with scan := some scan, code := code })).frontTake p r n
          if d.moved + n = d.len then s.finishFront p r code d.len d.flags scan
          else if s.bufFailed p r err then s.hostError p r scan
          else s

/-- What an IMG_OUT descriptor does now (R299): wait, STALE, or read. -/
inductive ImgOut where
  | wait | stale | read
deriving DecidableEq, Repr

/-- The state of an IMG_OUT descriptor (R299). -/
def State.imgOutState (s : State) (p r : Nat) (d : Desc) : ImgOut :=
  let g := s.rgGroup p r
  let x := s.group g
  let room := decide (s.now + s.guardTime p d.len ≤ s.commitAt g (s.nextCommit g)) || s.gIdle g
  if d.tagv then
    let k := d.deadline.getD 0
    if x.pubScan == some k then (if room then .read else .stale)
    else if x.pubScan.any (fun j => decide (k < j)) || (decide (k ≤ x.latest) && x.scan != some k && x.frozen != some k && !s.gIdle g)
    then .stale else .wait
  else if x.pubs ≤ d.deadline.getD 0 then .wait
  else if room then .read else .wait

/-- The IMG_OUT descriptor in front: the next rows are read from the P view and written to the host buffer. With `err` an ERR
response has come for one of these writes, `b` bytes into them (R290, R299). -/
def State.imgOut (s : State) (p r rows : Nat) (err : Option Nat) : State :=
  match s.frontOf p r 1 with
  | none => s
  | some d =>
    let now := word ((s.group (s.rgGroup p r)).pubScan.getD 0)
    match (if d.started then .read else s.imgOutState p r d) with
    | .wait => s
    | .stale => (s.beginFront p r).finishFront p r 0xA 0 d.flags now
    | .read =>
      let n := min (16 * rows) (d.len - d.moved)
      if n = 0 then s
      else
        let scan := d.scan.getD now
        let code := d.rowCode now d.code
        let q := (s.beginFront p r).dmaRead (smBase + s.viewBase .P + (d.w 3).toNat + d.moved) n
        match q.2 with
        | .error c => q.1.finishFront p r (causeErr c) d.moved d.flags scan
        | .ok bs =>
          let s := (q.1.setDesc p r 0 (fun d => { d with moved := d.moved + n, scan := some scan, code := code })).mgrWrite p
            (d.buf + d.moved) bs (.ringData r)
          match err with
          | some b => s.finishFront p r 1 (d.moved + min b n) d.flags scan
          | none => if d.moved + n = d.len then s.finishFront p r code d.len d.flags scan else s

/-! ### Streams (R288, R300, R301) -/

/-- Bytes into the TX segment of an engine, word by word; the cause where an access failed. -/
def State.segPut (s : State) (t e : Nat) (bs : List Byte) : State × Option Cause :=
  let n := s.segSize t e
  (List.range (bs.length / 4)).foldl (fun (a : State × Option Cause) i =>
    match a.2 with
    | some _ => a
    | none =>
      let x := a.1.engine t e
      let r := a.1.dmaWrite (a.1.segBase t e true + 4 * x.txWr) ((bs.drop (4 * i)).take 4)
      match r.2 with
      | some c => (r.1, some c)
      | none => (r.1.setEngine t e { r.1.engine t e with txSeg := x.txSeg + 1, txWr := (x.txWr + 1) % n }, none)) (s, none)

/-- Free words of the TX segment. -/
def State.segFree (s : State) (t e : Nat) : Nat := s.segWords t e true - (s.engine t e).txSeg

/-- Bytes of the segment that reads of the ring have claimed and not yet filled (R300). -/
def State.claimed (s : State) (p r : Nat) : Nat := ((s.ring p r).pref.map (fun d => d.asked - d.moved)).sum

/-- Posted data of the ring that no read has asked for. -/
def State.dataPosted (s : State) (p r : Nat) : Bool :=
  (s.ring p r).pref.any (fun d => decide (d.asked < d.len)) || s.rgPi p r != (s.ring p r).fetchPos

/-- A STREAM_TX ring asks for as much buffer data as the segment has unclaimed space, descriptor after descriptor; it starts
when the free space reaches LOWAT, and goes on until the segment is full or no posted data remains (R300). -/
def State.streamAsk (s : State) (p r t e : Nat) : State :=
  let free := 4 * s.segFree t e
  if !(s.ring p r).filling && decide (free < 64 * s.field (.RG_FLOW p r) 16 8) then s
  else
    let s := forEach (List.range (s.ring p r).pref.length) (fun j s =>
      match (s.ring p r).pref[j]? with
      | none => s
      | some d =>
        let n := min (d.len - d.asked) (free - s.claimed p r)
        if n = 0 || !s.descRuns p r (j == 0) d || !((s.ring p r).pref.take j).all (fun y => y.bad == 0 && y.asked == y.len) then s
        else s.askDesc p r j n) s
    s.setRing p r { s.ring p r with filling := decide (s.claimed p r < free) && s.dataPosted p r }

/-- The STREAM_TX descriptor in front: the bytes that arrive go to the segment, and more are asked for (R288, R300). -/
def State.streamTx (s : State) (p r : Nat) (data : List Byte) (err : Bool) : State :=
  match s.frontOf p r 2 with
  | none => s
  | some d =>
    let t := s.rgUnit p r / 32
    let e := s.rgUnit p r % 32
    let n := s.arrived p r d data / 4 * 4
    let w := s.segPut t e (data.take n)
    match w.2 with
    | some c => w.1.finishFront p r (causeErr c) (d.moved + 4 * ((w.1.engine t e).txSeg - (s.engine t e).txSeg)) d.flags d.user
    | none =>
      let s := w.1.frontTake p r n
      let s := if d.moved + n = d.len then s.finishFront p r 0 d.len d.flags d.user
        else if s.bufFailed p r err then s.hostError p r d.user else s
      s.streamAsk p r t e

/-- Words from the RX segment of an engine, oldest first; the cause where an access failed. -/
def State.segTake (s : State) (t e n : Nat) : State × Except Cause (List Byte) :=
  let x := s.engine t e
  let base := s.segBase t e false
  (List.range n).foldl (fun (a : State × Except Cause (List Byte)) i =>
    match a.2 with
    | .error _ => a
    | .ok l =>
      let y := a.1.dmaRead (base + 4 * ((x.rxRd + i) % s.segSize t e)) 4
      (y.1, match y.2 with | .ok b => .ok (l ++ b) | .error c => .error c)) (s, .ok [])

/-- The STREAM_RX descriptor in front takes words of the segment, up to LEN or an end-of-record mark (R301, R321). With `err`
an ERR response has come for the write, `b` bytes into it (R290). -/
def State.streamRx (s : State) (p r : Nat) (err : Option Nat) : State :=
  match s.frontOf p r 3 with
  | none => s
  | some d =>
    let t := s.rgUnit p r / 32
    let e := s.rgUnit p r % 32
    let x := s.engine t e
    let upto := match x.rxSeg.findIdx? id with | some i => i + 1 | none => x.rxSeg.length
    let n := min ((d.len - d.moved) / 4) upto
    if n = 0 then s
    else
      let q := (s.beginFront p r).segTake t e n
      match q.2 with
      | .error c => q.1.finishFront p r (causeErr c) d.moved d.flags d.user
      | .ok bs =>
        let eor := (x.rxSeg.take n).contains true
        let s := q.1.setEngine t e { q.1.engine t e with rxSeg := x.rxSeg.drop n, rxRd := (x.rxRd + n) % s.segSize t e }
        let m := d.moved + 4 * n
        let s := (s.setDesc p r 0 (fun d => { d with moved := m })).mgrWrite p (d.buf + d.moved) bs (.ringData r)
        let flags := if eor then d.flags ||| 2 else d.flags % 256 &&& 0xFD
        match err with
        | some b => s.finishFront p r 1 (d.moved + min b (4 * n)) flags d.user
        | none => if eor || m == d.len then s.finishFront p r 0 m flags d.user else s

/-! ### Packages, records and messages (R284, R382, R385, R466) -/

/-- The MGMT descriptor of KIND 0 in front: it asks for its buffer; then the package bytes that arrive go to the shadow banks
(R284). After a refusal, every descriptor up to EOP completes with PKG and reads nothing. -/
def State.mgmtEdit (s : State) (p r : Nat) (data : List Byte) (err : Bool) : State :=
  match s.frontOf p r 6 with
  | none => s
  | some d =>
    if (d.w 3).toNat / 2 ^ 28 ≠ 0 then s
    else
      let g := fld (d.w 3) 0 3
      let done := fun (s : State) (code len : Nat) (refused : Bool) =>
        (s.setRing p r { s.ring p r with pkgRefused := refused && !d.eop }).finishFront p r code len d.flags d.user
      if (s.ring p r).pkgRefused && !d.sop then done (s.beginFront p r) 0xB 0 true
      else if d.asked < d.len then s.askDesc p r 0 (d.len - d.asked)
      else
        let n := s.arrived p r d data
        if n = 0 && !s.bufFailed p r err then s
        else
          let whole := d.moved + n == d.len
          let q := s.loadPackage g (p, r) (d.sop && d.moved == 0) (d.eop && whole) (data.take n)
          let s := q.1.frontTake p r n
          if q.2 then done s 0xB (d.moved + n) true
          else if whole then done s 0 d.len false
          else if s.bufFailed p r err then
            (s.setRing p r { s.ring p r with pkgRefused := false }).hostError p r d.user
          else s

/-- The MSG_TX descriptor in front (R385): it waits while its object is pending, and asks for its record; a record whose
length does not fit its code completes with LEN, a refused request with TARGET. -/
def State.msgTx (s : State) (p r : Nat) (data : List Byte) (err : Bool) : State :=
  match s.frontOf p r 4 with
  | none => s
  | some d =>
    let c := s.rgUnit p r
    let n := (d.w 3).toNat
    if (s.can c).pend.contains n then s
    else if d.asked < d.len then s.askDesc p r 0 (d.len - d.asked)
    else
      let k := s.arrived p r d data
      if k < d.len then
        let u := s.frontTake p r k
        if u.bufFailed p r err then u.hostError p r d.user else s
      else
        let s := s.frontTake p r k
        let done := fun (s : State) (code len : Nat) => s.finishFront p r code len d.flags d.user
        let rw := fun (i : Nat) => word (ofLeBytes ((data.drop (4 * i)).take 4))
        let k := dlcBytes (bit (rw 0) 31) (fld (rw 2) 8 4)
        if d.len ≠ 16 + ceilDiv k 4 * 4 then done s 6 0
        else if !s.canOn c then done s 2 0
        else
          let w2 := (s.objWord n 2 &&& 0xFFFFE0FF) ||| (rw 2 &&& 0x1F00)
          match s.txRefusal c n (rw 0) (s.objWord n 1) w2 with
          | some x => done (s.txRefused c x) 5 0
          | none =>
            let s := (s.setObjWord n 0 (rw 0)).setObjWord n 2 w2
            let s := (List.range (ceilDiv k 4)).foldl (fun s j => s.setObjWord n (4 + j) (rw (4 + j))) s
            done (s.txPend c n) 0 d.len

/-- The MSG_RX descriptor in front takes the oldest record that its port has not taken (R282, R382). With `err` an ERR
response has come for the write, `b` bytes into it (R290). -/
def State.msgRx (s : State) (p r : Nat) (err : Option Nat) : State :=
  match s.frontOf p r 5 with
  | none => s
  | some d =>
    let c := s.rgUnit p r
    match (s.can c).records.find? (fun x => !x.2.contains p) with
    | none => s
    | some x =>
      let s := s.beginFront p r
      let rs := (s.can c).records
      let i := rs.findIdx (fun y => !y.2.contains p)
      let s := (s.setCan c { s.can c with records := rs.set i (x.1, x.2 ++ [p]) }).pruneRecords c
      let s := s.mgrWrite p d.buf x.1 (.ringData r)
      match err with
      | some b => s.finishFront p r 1 (min b x.1.length) d.flags d.user
      | none => s.finishFront p r 0 x.1.length (d.flags ||| 3) d.user

/-- Size of the management mailbox in bytes. -/
def State.mboxSize (s : State) : Nat := 1024 * s.field .UP_MBOX 24 8

/-- Free bytes of the mailbox. -/
def State.mboxFree (s : State) : Nat :=
  s.mboxSize - ((s.rd .UP_MBOXWR).toNat + 2 ^ 32 - (s.rd .UP_MBOXRD).toNat) % 2 ^ 32

/-- DMA-side writes of bytes at UP_MBOXWR, which advances by their number; the cause where a write is refused (R466). -/
def State.mboxPut (s : State) (bs : List Byte) : State × Option Cause :=
  let base := smBase + s.field .UP_MBOX 10 13 * 1024
  let w := (s.rd .UP_MBOXWR).toNat
  let o := w % s.mboxSize
  let k := min bs.length (s.mboxSize - o)
  let q := s.dmaWrite (base + o) (bs.take k)
  let q := match q.2 with
    | some _ => q
    | none => if k = bs.length then q else q.1.dmaWrite base (bs.drop k)
  (match q.2 with | some _ => q.1 | none => q.1.wr .UP_MBOXWR (word (w + bs.length)), q.2)

/-- The MGMT descriptor of KIND 1 in front: it waits until the mailbox has room, asks for its buffer, and writes it there once
it has arrived. -/
def State.mgmtMessage (s : State) (p r : Nat) (data : List Byte) (err : Bool) : State :=
  match s.frontOf p r 6 with
  | none => s
  | some d =>
    if (d.w 3).toNat / 2 ^ 28 ≠ 1 ∨ s.mboxFree < d.len then s
    else if d.asked < d.len then s.askDesc p r 0 (d.len - d.asked)
    else
      let k := s.arrived p r d data
      if k < d.len then
        let u := s.frontTake p r k
        if u.bufFailed p r err then u.hostError p r d.user else s
      else
        let q := (s.frontTake p r k).mboxPut (data.take k)
        match q.2 with
        | some c => q.1.finishFront p r (causeErr c) 0 d.flags d.user
        | none => q.1.finishFront p r 0 d.len d.flags d.user

/-! ### Responses to ring traffic (R290, R292) -/

/-- A read of the ring's buffers has received ERR. When no earlier read of the ring is outstanding, the descriptor in front
fails now; else its failure waits for the data before it. -/
def State.bufReadError (s : State) (p r id : Nat) : State :=
  let s := s.mgrAnswer p id true
  if s.readFailed p (.ringData r) then
    s.hostError p r (match (s.ring p r).pref with
      | d :: _ => if s.rgType p r < 2 then d.scan.getD (word (s.nextFreeze (s.rgGroup p r))) else d.user
      | [] => 0)
  else s

/-- Byte address `a` lies in the first `n` bytes of a buffer. -/
def inBuf (buf n a : Nat) : Bool := decide (buf ≤ a ∧ a < buf + n)

/-- A kept completion whose buffer holds address `a` gets HOSTERR. -/
def State.keptWriteError (s : State) (p r a : Nat) : State :=
  let q := s.rgCq p r
  s.setCq p q { s.cq p q with kept := (s.cq p q).kept.map (fun c =>
    if c.ring == r && c.err == 0 && inBuf c.buf c.len a then { c with err := 1, len := a - c.buf } else c) }

/-- A write to a ring's buffer has received ERR: the descriptor in progress, or the completion that its queue still keeps,
gets HOSTERR, with the bytes before the burst (R290, R302). -/
def State.bufWriteError (s : State) (p r a : Nat) : State :=
  match (s.ring p r).pref with
  | d :: _ =>
    if inBuf d.buf d.moved a then s.finishFront p r 1 (a - d.buf) d.flags (if s.rgType p r < 2 then d.scan.getD 0 else d.user)
    else s.keptWriteError p r a
  | [] => s.keptWriteError p r a

/-! ### Commands -/

/-- IMG_IN_DESCRIPTOR (R297). -/
def execImgInDescriptor (p r : Nat) (data : List Byte) (err : Bool) (s : State) : Out :=
  guarded (ringOk p r) (s.imgIn p r data err)

/-- IMG_OUT_DESCRIPTOR (R299). -/
def execImgOutDescriptor (p r : Nat) (reads : ImgReads) (s : State) : Out :=
  guarded (ringOk p r) (s.imgOut p r reads.rows reads.err)

/-- STREAM_TX_DESCRIPTOR (R300). -/
def execStreamTxDescriptor (p r : Nat) (data : List Byte) (err : Bool) (s : State) : Out :=
  guarded (ringOk p r) (s.streamTx p r data err)

/-- STREAM_RX_DESCRIPTOR (R301). -/
def execStreamRxDescriptor (p r : Nat) (err : Option Nat) (s : State) : Out := guarded (ringOk p r) (s.streamRx p r err)

/-- MGMT_EDIT_DESCRIPTOR (R284). -/
def execMgmtEditDescriptor (p r : Nat) (data : List Byte) (err : Bool) (s : State) : Out :=
  guarded (ringOk p r) (s.mgmtEdit p r data err)

/-- MSG_TX_DESCRIPTOR (R385). -/
def execMsgTxDescriptor (p r : Nat) (data : List Byte) (err : Bool) (s : State) : Out :=
  guarded (ringOk p r) (s.msgTx p r data err)

/-- MSG_RX_DESCRIPTOR (R382). -/
def execMsgRxDescriptor (p r : Nat) (err : Option Nat) (s : State) : Out := guarded (ringOk p r) (s.msgRx p r err)

/-- MGMT_MESSAGE_DESCRIPTOR (R466). -/
def execMgmtMessageDescriptor (p r : Nat) (data : List Byte) (err : Bool) (s : State) : Out :=
  guarded (ringOk p r) (s.mgmtMessage p r data err)


end Sys2Proof.Machine
end

