-- ==== Sys2Proof/Machine/Links.lean ====
section
/-! DEFINITION. Federation links: cells, sequence control, training, bonds, enumeration and routing (R390 to R399). -/

namespace Sys2Proof

open Sys2Proof.Machine

/-! ### Cells (R391 to R393) -/

/-- Byte `i` of a cell. -/
def Cell.byte (c : Cell) (i : Nat) : Nat := fld (c.words.getD (i / 4) 0) (8 * (i % 4)) 8
/-- TYPE. -/
def Cell.ty (c : Cell) : Nat := c.byte 0 / 16
/-- SOM. -/
def Cell.som (c : Cell) : Bool := c.byte 0 / 8 % 2 == 1
/-- EOM. -/
def Cell.eom (c : Cell) : Bool := c.byte 0 / 4 % 2 == 1
/-- NAK. -/
def Cell.nak (c : Cell) : Bool := c.byte 0 / 2 % 2 == 1
/-- SEQV. -/
def Cell.seqv (c : Cell) : Bool := c.byte 0 % 2 == 1
/-- LEN. -/
def Cell.len (c : Cell) : Nat := c.byte 3
/-- Bytes 4 and 5. -/
def Cell.destWord (c : Cell) : Nat := c.byte 4 + 256 * c.byte 5
/-- LOCAL. -/
def Cell.loc (c : Cell) : Bool := decide (2 ^ 15 ≤ c.destWord)
/-- DEST. -/
def Cell.dest (c : Cell) : Nat := c.destWord % 2 ^ 14
/-- SRC with the bits above it, which must be 0. -/
def Cell.srcWord (c : Cell) : Nat := c.byte 6 + 256 * c.byte 7
/-- PAYLOAD, as far as LEN says. -/
def Cell.payload (c : Cell) : List Byte := (List.range (min 52 c.len)).map (fun i => BitVec.ofNat 8 (c.byte (8 + i)))

/-- The frame check sequence in bytes 60 to 63 is that of bytes 0 to 59 (R391). -/
def Cell.crcOk (c : Cell) : Bool := crc32 ((List.range 60).map (fun i => BitVec.ofNat 8 (c.byte i))) == c.words.getD 15 0

/-- The cell is not discarded under R391, R392 and R394: its CRC is good, its type is not reserved and its must-be-0 fields
are 0. -/
def Cell.good (c : Cell) : Bool :=
  c.crcOk && decide (c.ty ≤ 8) && c.destWord / 2 ^ 14 % 2 == 0 && decide (c.srcWord < 2 ^ 14) && decide (c.len ≤ 52)
    && (!c.loc || c.dest == 0)

end Sys2Proof

namespace Sys2Proof.Machine

/-- The type is link-local (R393). -/
def localType (ty : Nat) : Bool := ty == 1 || ty == 2 || ty == 3 || ty == 4
/-- The type is sequenced (R392). -/
def seqType (ty : Nat) : Bool := ty == 2 || (decide (4 ≤ ty) && decide (ty ≤ 8))

/-! ### Link states and bonds (R395, R397) -/

/-- FD_LSTAT.STATE: 0 OFF, 1 WAITPHY, 2 TRAIN, 3 UP, 4 FAILED. -/
def State.linkState (s : State) (n : Nat) : Nat := s.field (.FD_LSTAT n) 29 3
/-- Set FD_LSTAT.STATE. -/
def State.setLinkState (s : State) (n v : Nat) : State := s.setField (.FD_LSTAT n) 29 3 v
/-- The link is UP. -/
def State.linkIsUp (s : State) (n : Nat) : Bool := s.linkState n == 3
/-- The node ID of the partner. -/
def State.linkPeer (s : State) (n : Nat) : Nat := s.field (.FD_LSTAT n) 0 14

/-- The enabled links of the bond of link `n`, or the link alone. -/
def State.bondGroup (s : State) (n : Nat) : List Nat :=
  if s.flag (.FD_LCTL n) 2 then
    (List.range 4).filter (fun m => m == n || (s.flag (.FD_LCTL m) 31 && s.flag (.FD_LCTL m) 2 && s.field (.FD_LCTL m) 0 2 == s.field (.FD_LCTL n) 0 2))
  else [n]

/-- The link at which the sequence state of the bond stands: its lowest member. -/
def State.bondHead (s : State) (n : Nat) : Nat := (s.bondGroup n).headD n

/-- The members that are UP and lead to the partner of the lowest of them. -/
def State.upMembers (s : State) (n : Nat) : List Nat :=
  let up := (s.bondGroup n).filter s.linkIsUp
  up.filter (fun m => s.linkPeer m == s.linkPeer (up.headD n))

/-- The edge that a link belongs to: the lowest member of its bond that is UP. -/
def State.edgeOf (s : State) (n : Nat) : Nat := (s.upMembers n).headD n

/-- The edges of the block that are UP. -/
def State.upEdges (s : State) : List Nat := (List.range 4).filter (fun n => s.linkIsUp n && s.upMembers n != [] && s.edgeOf n == n)

/-- A member whose partner differs from that of the lowest member is left out, and BONDERR sets (R397). -/
def State.checkBond (s : State) (n : Nat) : State :=
  forEach (s.bondGroup n) (fun m s => if s.linkIsUp m && !(s.upMembers n).contains m then s.setFlag (.FD_LSTAT m) 26 true else s) s

/-! ### Sending (R392, R394) -/

/-- The place of a type in the order of R392. -/
def typeRank (ty : Nat) : Nat := match ty with | 2 => 0 | 4 => 1 | 6 => 2 | 5 => 3 | 8 => 4 | _ => 5

/-- The index of the cell that goes next: the first of the best rank; a BULK message yields to other MIRROR cells between
its messages (R417). -/
def nextCell (q : List OutCell) : Nat :=
  let best := q.foldl (fun r c => min r (typeRank c.ty)) 6
  let i := q.findIdx (fun c => typeRank c.ty == best)
  match q[i]? with
  | some c =>
    if c.ty == 6 && c.bulk && c.som then
      let j := q.findIdx (fun c => c.ty == 6 && !c.bulk)
      if j < q.length then j else i
    else i
  | none => i

/-- Waiting cells go out while fewer than 64 are unacknowledged. -/
def State.pump : Nat → State → Nat → State
  | 0, s, _ => s
  | k + 1, s, h =>
    let x := s.link h
    if (s.upMembers h).isEmpty || x.queue.isEmpty || 64 ≤ x.sent.length then s
    else
      let i := nextCell x.queue
      match x.queue[i]? with
      | none => s
      | some c =>
        State.pump k (s.setLink h { x with queue := x.queue.eraseIdx i, sent := x.sent ++ [(x.txSeq, c)], txSeq := (x.txSeq + 1) % 256 }) h

/-- The cells of a message. -/
def cutCells (ty : Nat) (loc : Bool) (dest src : Nat) (bulk : Bool) (bs : List Byte) : List OutCell :=
  let n := max 1 (ceilDiv bs.length 52)
  (List.range n).map (fun i => ⟨ty, i == 0, i + 1 == n, loc, dest, src, bulk, (bs.drop (52 * i)).take 52⟩)

/-- The block's node ID in cells: 0 while it holds none. -/
def State.nodeId (s : State) : Nat := if s.fed.holds then s.field .FD_STAT 0 14 else 0

/-- Queue cells on an edge. -/
def State.queueCells (s : State) (e : Nat) (cs : List OutCell) : State :=
  let h := s.bondHead e
  let s := s.setLink h { s.link h with queue := (s.link h).queue ++ cs }
  s.pump 64 h

/-- Queue a message on an edge. -/
def State.sendOn (s : State) (e ty : Nat) (loc : Bool) (dest : Nat) (bulk : Bool) (bs : List Byte) : State :=
  s.queueCells e (cutCells ty loc dest s.nodeId bulk bs)

/-- A cell of 60 bytes with its frame check sequence. -/
def cellOf (bs : List Byte) : Cell :=
  let b := (bs ++ List.replicate (60 - bs.length) 0).take 60
  ⟨(List.range 15).map (fun i => word (ofLeBytes ((b.drop (4 * i)).take 4))) ++ [crc32 b]⟩

/-- The cell as link `n` sends it, with its sequence number if it is sequenced, and with what the receiver of the link has to
say: ACK and NAK (R391, R394). -/
def State.wireCell (s : State) (n : Nat) (seq : Option Nat) (c : OutCell) : Cell :=
  let x := s.link (s.bondHead n)
  let b0 := c.ty * 16 + c.som.toNat * 8 + c.eom.toNat * 4 + (s.link n).nak.toNat * 2 + seq.isSome.toNat
  cellOf (leBytes 1 b0 ++ leBytes 1 (seq.getD 0) ++ leBytes 1 x.rxSeq ++ leBytes 1 c.payload.length
    ++ leBytes 2 ((if c.loc then 2 ^ 15 else 0) + c.dest) ++ leBytes 2 c.src ++ c.payload)

/-- The TRAIN cell that link `n` sends (R393, R395). -/
def State.trainOut (s : State) (n : Nat) : Cell :=
  s.wireCell n none ⟨1, true, true, true, 0, s.nodeId, false, leBytes 1 ((s.link n).aligned.toNat + 2 * s.fed.holds.toNat) ++ leBytes 1 n
    ++ leBytes 2 s.nodeId ++ leBytes 1 (s.field .FD_STAT 22 8) ++ List.replicate 3 0⟩

/-- The sequenced cells that the edge of link `n` has sent and not seen acknowledged, as they go over the link. -/
def State.unackedCells (s : State) (n : Nat) : List Cell := (s.link (s.bondHead n)).sent.map (fun x => s.wireCell n (some x.1) x.2)

/-! ### Routing (R399) -/

/-- Where a destination lies. -/
inductive Route where
  | own
  | edge (e : Nat)
  | nowhere
deriving DecidableEq, Repr

/-- The route to a node. -/
def State.route (s : State) (d : Nat) : Route :=
  if s.fed.holds && d == s.field .FD_STAT 0 14 then .own
  else match s.fed.children.find? (fun c => c.2.1 ≤ d ∧ d ≤ c.2.2) with
    | some c => .edge c.1
    | none => if s.flag .FD_STAT 21 then .edge (s.field .FD_STAT 16 2) else .nowhere

/-- Send a message of the block's own towards a node; one that no edge leads to is discarded. -/
def State.sendTo (s : State) (d ty : Nat) (bulk : Bool) (bs : List Byte) : State :=
  match s.route d with
  | .edge e => s.sendOn e ty false d bulk bs
  | _ => s

/-! ### Enumeration (R398, R400) -/

/-- Set the role of an edge: 0 none, 1 parent edge, 2 child edge, 3 NONTREE. -/
def State.setRole (s : State) (e v : Nat) : State := forEach (s.bondGroup e) (fun m s => s.setField (.FD_LSTAT m) 24 2 v) s

/-- An ENUM message (R393). -/
def enumMsg (sub round id bestId bestPrio flags : Nat) : List Byte :=
  leBytes 1 sub ++ leBytes 1 round ++ leBytes 2 id ++ leBytes 2 bestId ++ leBytes 1 bestPrio ++ leBytes 1 flags

/-- The round number of the block. -/
def State.round (s : State) : Nat := s.field .FD_STAT 22 8

/-- The smaller of two (TPRIO, node ID) pairs. -/
def bestOf (a b : Nat × Nat) : Nat × Nat := if b.1 < a.1 ∨ (b.1 = a.1 ∧ b.2 < a.2) then b else a

/-- The elected master is known: it is passed on to the children, the time parent follows, and ENUMDONE sets. -/
def State.setMaster (s : State) (id : Nat) : State :=
  let me := s.nodeId == id
  let s := (s.setField .FD_TSTAT 0 14 id).setFlag .FD_TSTAT 30 me
  let s := match s.route id with
    | .edge e => s.setField .FD_TSTAT 16 2 e
    | _ => (s.setField .FD_TSTAT 20 4 0).setFlag .FD_TSTAT 27 false
  let s := forEach s.fed.children (fun c s => s.sendOn c.1 4 true 0 false (enumMsg 4 s.round id 0 0 0)) s
  s.setFlag .FD_STAT 31 true

/-- Every edge has been offered: the root elects the time master, any other node answers its parent. -/
def State.enumFinish (s : State) : State :=
  let f := s.fed
  let s := s.wr .FD_RANGE (word (f.nextId - 1))
  let s := if f.err then s.setFlag .FD_STAT 30 true else s
  if s.flag .FD_STAT 21 then
    let empty := f.children.isEmpty
    s.sendOn (s.field .FD_STAT 16 2) 4 true 0 false (enumMsg 2 s.round (f.nextId - 1) f.best.2 f.best.1 (f.err.toNat + 2 * empty.toNat))
  else s.setMaster f.best.2

/-- Offer the next free ID on the next edge. -/
def State.enumNext : Nat → State → State
  | 0, s => s
  | k + 1, s =>
    match s.fed.todo with
    | [] => s.enumFinish
    | e :: rest =>
      let f := { s.fed with todo := rest, offered := none }
      if !s.linkIsUp e then State.enumNext k { s with fed := f }
      else if 2 ^ 14 ≤ f.nextId then ({ s with fed := { f with todo := [], err := true } } : State).enumFinish
      else ({ s with fed := { f with offered := some e } } : State).sendOn e 4 true 0 false (enumMsg 1 s.round f.nextId 0 0 0)

/-- A new round: messages that are partly received are discarded, and the edges lose their roles. -/
def State.newRound (s : State) (round : Nat) : State :=
  let s := (s.setField .FD_STAT 22 8 round).setFlag .FD_STAT 31 false
  let s := { s with links := s.links.map (fun x => (x.1, { x.2 with parts := [] })) }
  forEach (List.range 4) (fun n s => s.setField (.FD_LSTAT n) 24 2 0) s

/-- Take an ID and enumerate the edges but the parent edge. -/
def State.takeId (s : State) (id : Nat) (parent : Option Nat) : State :=
  let s := s.setField .FD_STAT 0 14 id
  let s := match parent with
    | some e => ((s.setFlag .FD_STAT 21 true).setField .FD_STAT 16 2 e).setRole e 1
    | none => s.setFlag .FD_STAT 21 false
  let f := { s.fed with holds := true, todo := s.upEdges.filter (fun e => parent != some e), offered := none, nextId := id + 1,
                        best := (s.field .FD_TCFG 24 8, id), children := [], err := false }
  State.enumNext 5 { s with fed := f }

/-- FD_CTL.ENUM at the root. -/
def State.startEnum (s : State) : State :=
  if s.flag .FD_CTL 0 then (s.newRound ((s.round + 1) % 256)).takeId 0 none else s

/-- An ENUM message from edge `e`. -/
def State.enumReceived (s : State) (e : Nat) (m : List Byte) : State :=
  let b := fun (i : Nat) => (m.getD i 0).toNat
  let id := (b 2 + 256 * b 3) % 2 ^ 14
  let f := s.fed
  match b 0 with
  | 1 =>
    if s.fed.holds && b 1 == s.round then (s.setRole e 3).sendOn e 4 true 0 false (enumMsg 3 s.round 0 0 0 0)
    else (s.newRound (b 1)).takeId id (some e)
  | 2 =>
    if f.offered = some e ∧ b 1 = s.round then
      let best := bestOf f.best (b 6, (b 4 + 256 * b 5) % 2 ^ 14)
      let f := { f with offered := none, children := f.children ++ [(e, f.nextId, id)], nextId := id + 1, best := best, err := f.err || b 7 % 2 == 1 }
      State.enumNext 5 (({ s with fed := f } : State).setRole e 2)
    else s
  | 3 =>
    if f.offered = some e ∧ b 1 = s.round then State.enumNext 5 (({ s with fed := { f with offered := none } } : State).setRole e 3)
    else s
  | 4 => if b 1 = s.round ∧ s.flag .FD_STAT 21 = true ∧ s.field .FD_STAT 16 2 = e then s.setMaster id else s
  | _ => s

/-- An edge goes down during the round: an offer on it counts as an empty subtree, and the subtree is lost. -/
def State.enumLost (s : State) (e : Nat) : State :=
  if s.fed.offered = some e then
    State.enumNext 5 ({ s with fed := { s.fed with offered := none, err := true } } : State)
  else s

/-! ### Links up and down (R390, R394, R395, R397) -/

/-- The bond exchanges BONDSYNC after a member entered or left UP. -/
def State.bondSync (s : State) (n : Nat) : State :=
  if !s.flag (.FD_LCTL n) 2 then s
  else
    let s := s.checkBond n
    let ms := s.upMembers n
    if ms.isEmpty then s
    else
      let h := s.bondHead n
      let x := s.link h
      let mask := ms.foldl (fun a m => a + 2 ^ m) 0
      let restart := match x.sent with | [] => x.txSeq | c :: _ => c.1
      let s := s.setLink h { x with bondOut := some (mask, restart), resends := 0 }
      s.sendOn n 2 true 0 false (leBytes 1 1 ++ leBytes 1 mask ++ leBytes 1 restart ++ List.replicate 5 0)

/-- A LINKCTL message: the stripe restarts once both ends have sent the same MEMBERS. -/
def State.linkCtlReceived (s : State) (n : Nat) (m : List Byte) : State :=
  if (m.getD 0 0).toNat ≠ 1 then s
  else
    let h := s.bondHead n
    let x := s.link h
    let mem := (m.getD 1 0).toNat % 16
    let x := { x with bondIn := some (mem, (m.getD 2 0).toNat) }
    match x.bondOut with
    | some o => s.setLink h (if o.1 = mem then { x with stripe := o } else x)
    | none => s.setLink h x

/-- The time-parent link has left UP: the block keeps counting (R403). -/
def State.holdover (s : State) : State :=
  if s.flag .TB_STAT 2 && !s.flag .FD_TSTAT 30 && !s.linkIsUp (s.field .FD_TSTAT 16 2) && !s.flag .FD_TSTAT 29 then
    (s.setFlag .FD_TSTAT 29 true).raise 125
  else s

/-- A link leaves its state; out of UP its ready bit clears, its bond restarts and its edge may be lost. -/
def State.linkLeave (s : State) (n v : Nat) : State :=
  let was := s.linkIsUp n
  let e := s.edgeOf n
  let s := s.setLink n { s.link n with aligned := false, trainedAt := s.now }
  let s := s.setLinkState n v
  if !was then s
  else
    let s := (s.setReady 3 n false).bondSync n
    let s := if (s.upMembers e).isEmpty then s.enumLost e else s
    s.holdover

/-- Return to training: with FDn_PHYRDY low the link waits for it. -/
def State.linkTrain (s : State) (n : Nat) : State := s.linkLeave n (if (s.link n).phy then 2 else 1)

/-- The link is UP: its ready bit sets, and the unacknowledged cells are resent. -/
def State.linkUp (s : State) (n : Nat) : State :=
  let s := (s.setLinkState n 3).setReady 3 n true
  let s := s.setLink n { s.link n with crcRun := 0 }
  let h := s.bondHead n
  let s := s.setLink h { s.link h with resends := 0 }
  (s.bondSync n).pump 64 h

/-- A TRAIN cell (R395): the partner is known, and with its RXOK the link is UP. -/
def State.trainCell (s : State) (n : Nat) (c : Cell) : State :=
  if !c.good || c.ty != 1 || !(s.linkState n == 2 || s.linkState n == 3) then s
  else
    let m := c.payload
    let b := fun (i : Nat) => (m.getD i 0).toNat
    let s := s.setLink n { s.link n with aligned := true, partner := b 1 }
    let s := if b 0 / 2 % 2 = 1 then s.setField (.FD_LSTAT n) 0 14 ((b 2 + 256 * b 3) % 2 ^ 14) else s
    let s := s.checkBond n
    if s.linkState n = 2 ∧ b 0 % 2 = 1 then s.linkUp n else s

/-- A write of FD_LCTL (R390). The sequence state of a bond moves to its lowest member. -/
def State.lctlWrite (s : State) (n : Nat) (v : Word) : WriteRes :=
  let old := s.rd (.FD_LCTL n)
  if bit old 31 && (fld old 0 3 != fld v 0 3) then s.stateRefused
  else
    let move := fun (s : State) (a b : Nat) =>
      if a = b then s
      else
        let x := s.link a
        let y := s.link b
        let s := s.setLink b { y with sent := x.sent, queue := x.queue, txSeq := x.txSeq, rxSeq := x.rxSeq, parts := x.parts, held := x.held,
                                      bondOut := x.bondOut, bondIn := x.bondIn, stripe := x.stripe }
        s.setLink a { linkReset with phy := x.phy, aligned := x.aligned, trainedAt := x.trainedAt, partner := x.partner }
    if bit v 31 && !bit old 31 then
      let s := s.wr (.FD_LCTL n) v
      let rest := (s.bondGroup n).filter (· ≠ n)
      let s := match rest with
        | [] => s
        | m :: _ => if n < m then move s m n else s
      (s.apRequest (.link n) 1, none)
    else if !bit v 31 && bit old 31 then
      let rest := (s.bondGroup n).filter (· ≠ n)
      let head := s.bondHead n
      let s := s.setLinkState n (if s.linkIsUp n then 3 else 0)
      let s := s.linkLeave n 0
      let s := if head = n then (match rest with | m :: _ => move s n m | [] => s) else s
      let s := s.setLink n { linkReset with phy := (s.link n).phy }
      ((s.wr (.FD_LCTL n) v).apRelease (.link n), none)
    else (s.wr (.FD_LCTL n) v, none)

/-- The grant of a link: it trains once FDn_PHYRDY is 1 (R390, R395). -/
def State.linkGranted (s : State) (n : Nat) : State := s.linkTrain n

/-- FDn_PHYRDY changes (R395). -/
def State.phyChange (s : State) (n : Nat) (up : Bool) : State :=
  let s := s.setLink n { s.link n with phy := up }
  if up && s.linkState n == 1 then s.linkTrain n
  else if !up && (s.linkState n == 2 || s.linkState n == 3) then s.linkTrain n
  else s

/-! ### Sequence control (R394) -/

/-- A cell is discarded for its CRC, its type or a must-be-0 field. -/
def State.cellBad (s : State) (n : Nat) : State :=
  let s := s.setField (.FD_LERR n) 16 16 (satAdd 0xFFFF (s.field (.FD_LERR n) 16 16) 1)
  s.setLink n { s.link n with nak := true, crcRun := (s.link n).crcRun + 1 }

/-- Resend from the first unacknowledged cell. -/
def State.resend (s : State) (n : Nat) : State :=
  let h := s.bondHead n
  if (s.link h).sent.isEmpty then s
  else
    (s.setField (.FD_LERR n) 0 16 (satAdd 0xFFFF (s.field (.FD_LERR n) 0 16) 1)).setLink h
      { s.link h with resends := (s.link h).resends + 1 }

/-- ACK and NAK of a good cell. -/
def State.ackNak (s : State) (n : Nat) (c : Cell) : State :=
  let h := s.bondHead n
  let x := s.link h
  let k := match x.sent with | [] => 0 | d :: _ => (c.byte 2 + 256 - d.1) % 256
  let s := if 0 < k ∧ k ≤ x.sent.length then (s.setLink h { x with sent := x.sent.drop k, resends := 0 }).pump 64 h else s
  let s := s.setLink n { s.link n with crcRun := 0 }
  if c.nak then s.resend n else s

/-- A sequenced cell is taken only with the expected number. -/
def State.seqAccept (s : State) (n : Nat) (c : Cell) : State × Bool :=
  let h := s.bondHead n
  let x := s.link h
  if c.seqv && c.byte 1 == x.rxSeq then
    let s := s.setLink h { x with rxSeq := (x.rxSeq + 1) % 256 }
    (s.setLink n { s.link n with nak := false }, true)
  else (s.setLink n { s.link n with nak := true }, false)

/-- Put the cell to the message of its type and source; the Bool tells that the message is whole. -/
def State.assemble (s : State) (n : Nat) (c : Cell) : State × Option (List Byte) :=
  let h := s.bondHead n
  let x := s.link h
  let src := c.srcWord
  let old := if c.som then [] else (x.parts.filter (fun p => p.1 == c.ty && p.2.1 == src)).flatMap (fun p => p.2.2)
  let rest := x.parts.filter (fun p => !(p.1 == c.ty && p.2.1 == src))
  let bs := old ++ c.payload
  if c.eom then (s.setLink h { x with parts := rest }, some bs)
  else (s.setLink h { x with parts := rest ++ [(c.ty, src, bs)] }, none)

end Sys2Proof.Machine
end

