-- ==== Sys2Proof/Machine/Update.lean ====
section
/-! DEFINITION. The firmware chain update: header checks, staging, forwarding, activation, confirmation and fallback
(R451 to R465). -/

namespace Sys2Proof.Machine

/-! ### Images (R451 to R453) -/

/-- The region of an image type: shared-memory offset and size; no other type has one. -/
def region (ty : Nat) : Nat × Nat :=
  match ty with | 1 => (0, 0xC0000) | 2 => (0xC0000, 0x30000) | 3 => (0xF0000, 0x10000) | _ => (0, 0)

/-- A field of a header. -/
def hf (h : List Byte) (o n : Nat) : Nat := ofLeBytes ((h.drop o).take n)

/-- A range of a header holds 0. -/
def zeroAt (h : List Byte) (o n : Nat) : Bool := ((h.drop o).take n).all (· == 0)

/-- R454: MAGIC, the must-be-0 fields, SIZE and HCRC. -/
def imageHeaderOk (h : List Byte) : Bool :=
  hf h 0 4 == 0x33554B57 && decide (hf h 6 1 < 4) && hf h 7 1 == 0 && hf h 11 1 == 0 && zeroAt h 160 92
    && hf h 24 4 != 0 && hf h 24 4 % 4 == 0 && hf h 252 4 == (crc32 (h.take 252)).toNat

/-- Bytes of shared memory. -/
def State.smRead (s : State) (o n : Nat) : List Byte := memBytes s.mem (smBase + o) n

/-- The header in the region of a type, if it passes R454 and names the type. -/
def State.regionHeader (s : State) (ty : Nat) : Option (List Byte) :=
  let h := s.smRead (region ty).1 256
  if imageHeaderOk h && hf h 4 1 == ty then some h else none

/-- The hunks of a DELTA payload as offset, new and old bytes; `none` where one is malformed or cut off. -/
def hunks (size : Nat) : Nat → List Byte → Option (List (Nat × List Byte × List Byte))
  | 0, bs => if bs.isEmpty then some [] else none
  | k + 1, bs =>
    if bs.isEmpty then some []
    else
      let o := hf bs 0 4
      let n := hf bs 4 4
      if bs.length < 8 + 2 * n ∨ o % 4 ≠ 0 ∨ n % 4 ≠ 0 ∨ n = 0 ∨ size < o + n then none
      else (hunks size k (bs.drop (8 + 2 * n))).map (fun r => (o, (bs.drop 8).take n, (bs.drop (8 + n)).take n) :: r)

/-- No hunk that has wholly arrived is malformed or differs from the region in its old bytes (R456, check 0x5). -/
def State.hunksFit (s : State) (ty : Nat) : Nat → List Byte → Bool
  | 0, _ => true
  | k + 1, bs =>
    if bs.length < 8 then true
    else
      let o := hf bs 0 4
      let n := hf bs 4 4
      if o % 4 ≠ 0 ∨ n % 4 ≠ 0 ∨ n = 0 ∨ (region ty).2 < o + n then false
      else if bs.length < 8 + 2 * n then true
      else (bs.drop (8 + n)).take n == s.smRead ((region ty).1 + o) n && State.hunksFit s ty k (bs.drop (8 + 2 * n))

/-- UP_STAT.STATE: 0 IDLE, 1 RECEIVING, 2 STAGED, 3 CONFIRMING, 4 FALLBACK, 5 HOLD, 6 FAILED. -/
def State.upState (s : State) : Nat := s.field .UP_STAT 0 3
/-- Set UP_STAT.STATE. -/
def State.setUpState (s : State) (n : Nat) : State := s.setField .UP_STAT 0 3 n
/-- Replace the update engine's state. -/
def State.setUpd (s : State) (u : Upd) : State := { s with upd := u }
/-- The build uses DELTA images (R456, check 0x2). -/
def State.deltaBuild (s : State) : Bool := decide (s.build.tilesLog2 ≤ 1)
/-- Shared-memory offset of the staging area. -/
def State.stageBase (s : State) : Nat := s.field .UP_STAGE 20 3 * 0x100000

/-- The place of the next image in the staging area: after the images staged, on a multiple of 256 (R452). -/
def State.stageNext (s : State) : Nat := s.upd.staged.foldl (fun a x => max a (x.off + ceilDiv x.size 256 * 256)) 0

/-- The rule of R457 for a header. -/
def State.sigOk (s : State) (h : List Byte) : Bool :=
  let signed := hf h 6 1 % 2 == 1
  let trust := (List.range 4).flatMap (fun i => leBytes 4 (s.rd (.UP_TRUST i)).toNat)
  let verifies := ed25519Ok ((h.drop 128).take 32) (h.take 64) ((h.drop 64).take 64)
  if s.flag .UP_CFG 8 then signed && (sha256 ((h.drop 128).take 32)).take 16 == trust && verifies
  else !signed || verifies

/-- The first failing check 0x1 to 0x7 of R456, or 0. A staging area that UP_STAGE does not give fails check 0x4. -/
def State.stageCheck (s : State) (h : List Byte) : Nat :=
  let ty := hf h 4 1
  let delta := hf h 5 1 == 1
  let v := (s.rd .BLK_VERSION).toNat
  if !(decide (hf h 12 4 ≤ v) && decide (v ≤ hf h 16 4)) then 1
  else if hf h 5 1 ≠ (if s.deltaBuild then 1 else 0) then 2
  else if ty = 1 ∧ hf h 20 2 ≠ s.field .UP_IF 0 16 then 3
  else if s.stageBase = 0 ∨ 0x100000 < s.stageNext + 256 + hf h 24 4 ∨ (region ty).2 < 256 + (if delta then 0 else hf h 24 4) then 4
  else if delta ∧ hf h 28 4 ≠ (s.rd (.UP_VER (ty - 1))).toNat then 5
  else if !s.sigOk h then 6
  else if s.upd.staged.any (fun x => x.ty == ty) ∨ 2 < s.upState then 7
  else 0

/-- The bytes staged so far are discarded; RECEIVING ends. -/
def State.stageDrop (s : State) : State :=
  let s := s.setUpd { s.upd with place := none, hashDue := false }
  if s.upState = 1 then s.setUpState (if s.upd.staged.isEmpty then 0 else 2) else s

/-- Staging fails (R456). -/
def State.stageFail (s : State) (cause : Nat) : State := ((s.setFlag .UP_STAT 12 true).setField .UP_STAT 16 8 cause).stageDrop

/-- The header of an image for this node: it is staged, or the first failing check is reported. -/
def State.stageBegin (s : State) (h : List Byte) : State :=
  match s.stageCheck h with
  | 0 => (s.setUpd { s.upd with place := some s.stageNext }).setUpState 1
  | c => s.stageFail c

/-- Bytes of the image arrive in the staging area; `done` bytes of it were there before. Where the area does not take them
(R67), it does not hold the image: check 0x4. -/
def State.stageBytes (s : State) (img : List Byte) (done : Nat) : State :=
  match s.upd.place with
  | none => s
  | some o =>
    let r := s.dmaWrite (smBase + s.stageBase + o + done) (img.drop done)
    let s := r.1
    if r.2.isSome = true then s.stageFail 4
    else if hf img 5 1 = 1 ∧ s.hunksFit (hf img 4 1) img.length (img.drop 256) = false then s.stageFail 5 else s

/-- The last check of R456: the whole payload has arrived and its hash is right; a DELTA's hunks end with it. -/
def State.stageEnd (s : State) (img : List Byte) : State :=
  match s.upd.place with
  | none => s
  | some o =>
    let n := hf img 24 4
    let pay := (img.drop 256).take n
    if hf img 5 1 = 1 ∧ (hunks (region (hf img 4 1)).2 n pay).isNone = true then s.stageFail 5
    else if img.length ≠ 256 + n ∨ sha256 pay ≠ (img.drop 32).take 32 then s.stageFail 8
    else
      let s := s.setUpd { s.upd with place := none, hashDue := false, staged := s.upd.staged ++ [⟨hf img 4 1, o, 256 + n, false⟩] }
      if 2 < s.upState then s else s.setUpState 2

/-- The next message begins: a hash check that is due is made first, and an image that was cut off is discarded. -/
def State.stageNew (s : State) : State :=
  if s.upd.hashDue then s.stageEnd (s.upd.rx.drop 8)
  else if s.upd.place.isSome then s.stageDrop
  else s

/-! ### Reception and forwarding (R454, R455) -/

/-- The child edges whose subtree range meets the target range of a message, with the child's node ID. -/
def State.updEdges (s : State) (m : List Byte) : List (Nat × Nat) :=
  let a := hf m 0 2 % 2 ^ 14
  let b := hf m 2 2 % 2 ^ 14
  (s.fed.children.filter (fun c => c.2.1 ≤ b && decide (a ≤ c.2.2))).map (fun c => (c.1, c.2.1))

/-- The node's own ID lies in the target range. -/
def State.updMine (s : State) (m : List Byte) : Bool :=
  let id := s.field .FD_STAT 0 14
  decide (hf m 0 2 % 2 ^ 14 ≤ id) && decide (id ≤ hf m 2 2 % 2 ^ 14)

/-- Forward cells on edges. -/
def State.updForward (s : State) (es : List (Nat × Nat)) (cs : List OutCell) : State :=
  forEach es (fun e s => s.queueCells e.1 (cs.map (fun c => { c with dest := e.2 }))) s

/-- A cell of an UPDATE message for this node, from a link other than its own children (R455). -/
def State.updCell (s : State) (som eom : Bool) (src : Nat) (pay : List Byte) : State :=
  let s := if som then s.stageNew else s
  let u := s.upd
  let u := if som then { u with rx := [], busy := true, edges := none, drop := false } else u
  if !u.busy then s
  else
    let old := u.rx.length
    let m := u.rx ++ pay
    let s := s.setUpd { u with rx := m, busy := !eom }
    if u.drop then s
    else if u.edges.isNone then
      if m.length < 264 then (if eom then s.setFlag .UP_STAT 13 true else s)
      else if !imageHeaderOk ((m.drop 8).take 256) then (s.setUpd { s.upd with drop := true }).setFlag .UP_STAT 13 true
      else
        let es := s.updEdges m
        let s := s.setUpd { s.upd with edges := some (es.map (·.1)) }
        let cs := cutCells 7 false 0 src false m
        let s := s.updForward es (cs.map (fun c => { c with eom := c.eom && eom }))
        let s := if s.updMine m then (s.stageBegin ((m.drop 8).take 256)).stageBytes (m.drop 8) 0 else s
        if eom then s.setUpd { s.upd with hashDue := s.upd.place.isSome } else s
    else
      let s := s.updForward (s.updEdges m) [⟨7, som, eom, false, 0, src, false, pay⟩]
      let s := s.stageBytes (m.drop 8) (old - 8)
      if eom then s.setUpd { s.upd with hashDue := s.upd.place.isSome } else s

/-- An image is to be read from the host: its header first (R458, R464). -/
def State.updRead (s : State) (lo hi : Reg) : State :=
  (s.setUpd { s.upd with asked := 256 }).mgrRead (s.field .UP_CFG 0 1) ((s.rd hi).toNat * 2 ^ 32 + (s.rd lo).toNat) 256 .update

/-- What the host gave of an image: with the header alone, and good, its payload is asked for, and the image is not there
yet. -/
def State.updRest (s : State) (lo hi : Reg) (img : List Byte) (err : Bool) : Option State :=
  if err || s.upd.asked != 256 || !imageHeaderOk (img.take 256) then none
  else
    let n := hf img 24 4
    some ((s.setUpd { s.upd with asked := 256 + n }).mgrRead (s.field .UP_CFG 0 1)
      ((s.rd hi).toNat * 2 ^ 32 + (s.rd lo).toNat + 256) n .update)

/-- The reads of an image from the host are over. -/
def State.updReadEnd (s : State) : State := (s.mgrReadsDone (s.field .UP_CFG 0 1) .update).setUpd { s.upd with asked := 0 }

/-- SEND: the image has been read from the host (R458). One that cannot be read, or whose header fails, is refused as under
R454. -/
def State.sendImage (s : State) (img : List Byte) (err : Bool) : State :=
  let s := s.updReadEnd
  let s := s.setUpd { s.upd with sending := false }
  if err || !imageHeaderOk (img.take 256) then s.setFlag .UP_STAT 13 true
  else
    let r := s.rd .UP_RANGE
    let m := leBytes 2 (fld r 0 14) ++ leBytes 2 (fld r 16 14) ++ leBytes 4 0 ++ img
    let s := forEach (s.updEdges m) (fun e s => s.sendOn e.1 7 false e.2 false m) s
    if s.updMine m then ((s.stageBegin (img.take 256)).stageBytes img 0).stageEnd img else s

/-! ### Activation and placement (R459 to R462, R465) -/

/-- The header of an image in the staging area. -/
def State.stagedHeader (s : State) (x : Staged) : List Byte := s.smRead (s.stageBase + x.off) 256
/-- IFLIB of a staged image. -/
def State.stagedIf (s : State) (x : Staged) : Nat := hf (s.stagedHeader x) 22 2

/-- The types that R465 holds among the images to be applied. -/
def State.skewed (s : State) (xs : List Staged) : List Nat :=
  let lib := if s.rd (.UP_VER 1) = 0 then none else some (hf (s.smRead (region 2).1 256) 22 2)
  let fw := xs.find? (fun x => x.ty == 1)
  let nl := xs.find? (fun x => x.ty == 2)
  match fw, nl with
  | some f, some l =>
    if s.stagedIf f = s.stagedIf l then []
    else if lib.isSome && lib != some (s.stagedIf f) then [1, 2] else [2]
  | some f, none => if lib.isSome && lib != some (s.stagedIf f) then [1] else []
  | none, some l => if s.stagedIf l = s.field .UP_IF 16 16 then [] else [2]
  | none, none => []

/-- The management threads of UP_CFG.MGMT are moved to HELD, and thread 0 of tile 0 starts at a ROM entry (R460, R464). A
parked VBIND no longer waits. Threads of a tile that has stopped stay STOPPED until its reset (R96). -/
def State.parkAndEnter (s : State) (pc : Word) : State :=
  if s.flag (.TL_STAT 0) 1 then s
  else
    let parked := fun (n : Nat) => s.flag .UP_CFG (16 + n)
    let s := forEach ((List.range 16).filter parked) (fun n s => (s.setThState 0 n 0).setWait 0 n .none) s
    let s := s.dropAwaits 0 (fun n => parked n || n == 0)
    (((s.wr (.TH_PC 0 0) pc).setThState 0 0 1).setWait 0 0 .none).threadsChanged

/-- The activation instant (R459, R460 steps 1 and 2, R465). -/
def State.activate (s : State) : State :=
  match s.upd.act with
  | none => s
  | some t =>
    let s := s.reach t
    let xs := s.upd.staged.filter (fun x => !x.hold)
    let held := s.skewed xs
    let go := xs.filter (fun x => !held.contains x.ty)
    let keep := (s.upd.staged.filter (fun x => x.hold || held.contains x.ty)).map (fun x => { x with hold := true })
    let s := s.setUpd { s.upd with act := none, staged := keep, placed := go, placing := !go.isEmpty, changed := [] }
    let s := if held.isEmpty then s else (s.setFlag .UP_STAT 8 true).setUpState 5
    if go.isEmpty then s
    else (s.setUpd { s.upd with paused := true }).parkAndEnter 0x0F80C000

/-- Writes of the code store through the DMA side. False: one was refused or met an uncorrectable word (R67, R251). -/
def State.storeWrites (s : State) (l : List (Nat × List Byte)) : State × Bool :=
  l.foldl (fun a x => let r := a.1.dmaWrite (smBase + x.1) x.2; (r.1, a.2 && r.2.isNone)) (s, true)

/-- The writes that place a staged image: the whole image, or the hunks of a DELTA, new bytes in order or, `back`, old bytes
in reverse order (R453). -/
def placement (delta back : Bool) (ty : Nat) (img : List Byte) : List (Nat × List Byte) :=
  if !delta then [((region ty).1, img)]
  else
    let hs := (hunks (region ty).2 img.length (img.drop 256)).getD []
    (if back then hs.reverse else hs).map (fun h => ((region ty).1 + h.1, if back then h.2.2 else h.2.1))

/-- Place one staged image, or undo a DELTA (R460 step 3, R464). False: it could not be read or written. -/
def State.placeImage (s : State) (x : Staged) (back : Bool) : State × Bool :=
  let q := s.bankRead (smBase + s.stageBase + x.off) x.size
  match q.2 with
  | none => (q.1, false)
  | some img => q.1.storeWrites (placement s.deltaBuild back x.ty img)

/-- Place images one after the other. -/
def State.placeAll (s : State) (l : List Staged) (back : Bool) : State × Bool :=
  l.foldl (fun a x => let r := a.1.placeImage x back; (r.1, a.2 && r.2)) (s, true)

/-- HCRC and HASH of a region are right (R460 step 4). -/
def State.regionOk (s : State) (ty : Nat) : State × Bool :=
  let q := s.bankRead (smBase + (region ty).1) 256
  let h := q.2.getD []
  if hf h 252 4 ≠ (crc32 (h.take 252)).toNat ∨ (region ty).2 < 256 + hf h 24 4 ∨ h.isEmpty then (q.1, false)
  else
    let r := q.1.bankRead (smBase + (region ty).1 + 256) (hf h 24 4)
    (r.1, r.2.any (fun pay => sha256 pay == (h.drop 32).take 32))

/-- Every region of some types is right. -/
def State.regionsOk (s : State) (l : List Nat) : State × Bool :=
  l.foldl (fun a ty => let r := a.1.regionOk ty; (r.1, a.2 && r.2)) (s, true)

/-- The firmware entry point as a thread address: byte 0 of the FIRMWARE payload (R451, R109). -/
def firmwareEntry : Word := 0x01000100

/-- The loader jumps to the firmware entry point (R460, R464). Threads of a tile that has stopped stay STOPPED (R96). -/
def State.enterFirmware (s : State) : State :=
  if s.flag (.TL_STAT 0) 1 then s else (s.wr (.TH_PC 0 0) firmwareEntry).setThState 0 0 1

/-- Fallback begins (R464). A build that uses FULL images reads the previous image from the host store slot. -/
def State.fallback (s : State) (cause : Nat) : State :=
  let s := (s.setField .UP_STAT 24 4 cause).setUpState 4
  let s := (s.setUpd { s.upd with placing := false, paused := true }).parkAndEnter 0x0F80C400
  if s.deltaBuild then s else s.updRead (.UP_SLOT 0) (.UP_SLOT 1)

/-- A changed engine restarts with its new program (R462). -/
def State.restartEngine (s : State) (t e : Nat) : State :=
  let cut := s.eOn t e && (match (s.engine t e).work with | .shifting _ => true | _ => false)
  let s := s.setFlag (.FE_CTL t e) 1 (s.eBank t e == 0)
  let s := if s.eOn t e then (s.eDisable t e).eEnable t e else s
  if cut then s.setFlag (.FE_STAT t e) 4 true else s

/-- The changed engines restart: on the first commit edge of a group that is not IDLE after the activation instant. -/
def State.restartChanged (s : State) : State :=
  let l := s.upd.changed
  forEach l (fun e s => s.restartEngine e.1 e.2) (s.setUpd { s.upd with changed := [] })

/-- The loader has placed and checked the images (R460 steps 3 to 5, R461). -/
def State.loaderEnd (s : State) : State :=
  if !s.upd.placing then s
  else
    let r := s.placeAll s.upd.placed false
    let q := r.1.regionsOk (s.upd.placed.map (·.ty))
    let s := q.1
    if !r.2 || !q.2 then s.fallback 3
    else
      let s := if s.upd.placed.any (fun x => x.ty == 1) then s.setField .UP_IF 16 16 (hf (s.smRead 0 256) 22 2) else s
      let s := (s.setUpd { s.upd with placing := false, paused := false, entered := s.now }).setUpState 3
      let s := s.enterFirmware
      if s.allIdle then s.restartChanged else s

/-! ### Confirmation and fallback (R463, R464) -/

/-- CONFIRM. -/
def State.confirm (s : State) : State :=
  let s := forEach s.upd.placed (fun x s => s.wr (.UP_VER (x.ty - 1)) (word (hf (s.smRead (region x.ty).1 256) 8 4))) s
  (s.setUpd { s.upd with placed := [] }).setUpState 0

/-- The confirmation window expires. -/
def State.confirmTimeout (s : State) : State :=
  if s.upState ≠ 3 then s
  else ((s.reach (s.upd.entered + s.field .UP_CONFIRMWIN 0 16 * 1600000)).setFlag .UP_STAT 10 true).fallback 1

/-- The image of the store slot fails the checks of R464, or is one that fallback does not write. -/
def slotBad (img : List Byte) : Bool :=
  !imageHeaderOk (img.take 256) || decide (img.length ≠ 256 + hf img 24 4) || decide ((region (hf img 4 1)).2 < img.length)
    || decide (hf img 4 1 = 3) || sha256 (img.drop 256) != (img.drop 32).take 32

/-- The loader restores the previous image (R464): it reverses the deltas, or writes `img`, which the host store slot gave,
once all of it has been read. -/
def State.restoreEnd464 (s : State) (img : List Byte) (err : Bool) : State :=
  if s.upState ≠ 4 then s
  else match (if s.deltaBuild then none else s.updRest (.UP_SLOT 0) (.UP_SLOT 1) img err) with
  | some u => u
  | none =>
    let s := s.updReadEnd
    let r := if s.deltaBuild then s.placeAll (s.upd.placed.reverse.filter (fun x => x.ty ≠ 3)) true
      else if err || slotBad img then (s, false)
      else s.storeWrites (placement false false (hf img 4 1) img)
    let s := r.1
    if !r.2 then (s.setUpState 6).setFlag .UP_STAT 11 true
    else
      let s := s.setField .UP_IF 16 16 (hf (s.smRead 0 256) 22 2)
      ((s.setUpd { s.upd with placed := [], paused := false }).setUpState 0).enterFirmware

/-! ### The images at boot (R465) -/

/-- The end of a boot: UP_VER and UP_IF show the images of the code store, and a library whose IFLIB differs from the
firmware's is held, unless UP_SKEWOVR.OVR is 1. -/
def State.bootImages (s : State) : State :=
  let h := fun (ty : Nat) => (s.regionHeader ty).getD []
  let skew := !(h 1).isEmpty && !(h 2).isEmpty && hf (h 1) 22 2 != hf (h 2) 22 2 && !s.flag .UP_SKEWOVR 0
  let s := (((s.wr (.UP_VER 0) (word (hf (h 1) 8 4))).wr (.UP_VER 1) (if skew then 0 else word (hf (h 2) 8 4))).wr
    (.UP_VER 2) (word (hf (h 3) 8 4))).setField .UP_IF 16 16 (hf (h 1) 22 2)
  if skew then (s.setFlag .UP_STAT 8 true).setUpState 5 else s

/-! ### UP_CMD (R458, R459, R463 to R465) -/

/-- SEND. -/
def State.upSend (s : State) : WriteRes :=
  if s.upd.sending then s.stateRefused
  else ((s.setUpd { s.upd with sending := true }).updRead (.UP_SRCADDR 0) (.UP_SRCADDR 1), none)

/-- ACTIVATE. -/
def State.upActivate (s : State) : WriteRes :=
  if (s.upd.staged.filter (fun x => !x.hold)).isEmpty then s.stateRefused
  else if !s.deltaBuild && s.rd (.UP_SLOT 0) == 0 && s.rd (.UP_SLOT 1) == 0 then s.stateRefused
  else
    let t := (s.rd (.UP_ACTT 1)).toNat * 2 ^ 32 + (s.rd (.UP_ACTT 0)).toNat
    let s := if 0 < t ∧ t < s.now then s.setFlag .UP_STAT 9 true else s
    (s.setUpd { s.upd with act := some (max t s.now) }, none)

/-- CONFIRM is taken in CONFIRMING only. -/
def State.upConfirm (s : State) : WriteRes := if s.upState = 3 then (s.confirm, none) else s.stateRefused

/-- FALLBACK is taken in CONFIRMING only. -/
def State.upFallback (s : State) (v : Word) : WriteRes := if s.upState = 3 then (s.fallback (fld v 4 4), none) else s.stateRefused

/-- DISCARD: every staged image and the HOLD are cleared. -/
def State.upDiscard (s : State) : WriteRes :=
  let s := s.setUpd { s.upd with staged := [], place := none, hashDue := false, act := none }
  (if s.upState = 1 ∨ s.upState = 2 ∨ s.upState = 5 then s.setUpState 0 else s, none)

/-- A write of UP_CMD. -/
def State.upCmdWrite (s : State) (v : Word) : WriteRes :=
  match fld v 0 4 with
  | 1 => s.upSend
  | 2 => s.upActivate
  | 3 => s.upConfirm
  | 4 => s.upFallback v
  | 5 => s.upDiscard
  | _ => s.stateRefused

/-- A write of UP_MBOX (R466): while no MGMT ring is enabled, with a size of 1 to 64 KiB. -/
def State.mboxWrite (s : State) (v : Word) : WriteRes :=
  let mgmt := s.regs.any (fun x => match x.1 with
    | .RG_CFG p r => s.flag (.RG_CFG p r) 31 && s.field (.RG_CFG p r) 24 3 == 6
    | _ => false)
  if mgmt || fld v 24 8 == 0 || decide (64 < fld v 24 8) then s.stateRefused else (s.wr .UP_MBOX v, none)

/-! ### Commands -/

/-- UPDATE_STAGE_END (R456, R458): the hash of a received image is checked; while a SEND runs, its header or the whole image
has been read. -/
def execUpdateStageEnd (data : List Byte) (err : Bool) (s : State) : Out :=
  .next (if s.upd.hashDue then s.stageEnd (s.upd.rx.drop 8)
    else if s.upd.sending then (s.updRest (.UP_SRCADDR 0) (.UP_SRCADDR 1) data err).getD (s.sendImage data err) else s)

/-- ACTIVATION_INSTANT (R459, R460). -/
def execActivationInstant (s : State) : Out := .next s.activate

/-- LOADER_PLACEMENT_END (R460, R461). -/
def execLoaderPlacementEnd (s : State) : Out := .next s.loaderEnd

/-- CONFIRM_WINDOW_EXPIRY (R464). -/
def execConfirmWindowExpiry (s : State) : Out := .next s.confirmTimeout

/-- FALLBACK_RESTORE_END (R464). -/
def execFallbackRestoreEnd (data : List Byte) (err : Bool) (s : State) : Out := .next (s.restoreEnd464 data err)

end Sys2Proof.Machine
end

