-- ==== Sys2Proof/Machine/Mirror.lean ====
section
/-! DEFINITION. Publications and Mirror pairing: what a freeze and a commit send, the messages of a pair, divergence,
takeover and resync (R405, R407 to R418). -/

namespace Sys2Proof.Machine

/-! ### Publications (R405, R406) -/

/-- COUNT of a publication. -/
def State.pubCount (s : State) (i : Nat) : Nat := if s.field (.FD_PUB i 1) 0 10 = 0 then 1024 else s.field (.FD_PUB i 1) 0 10

/-- The publications of a commit: scan `k` has been published. One whose words cannot be read is not sent, as its transfer
ends with the error (R67, R251). -/
def State.publishAll (s : State) (g k : Nat) : State :=
  if s.suppressedGroup g then s
  else forEach (List.range 16) (fun i s =>
    let w := s.rd (.FD_PUB i 0)
    if !bit w 31 || fld w 28 3 != g then s
    else
      let n := s.pubCount i
      let q := s.dmaRead (smBase + s.viewBase .P + 4 * fld w 0 18) (4 * n)
      match q.2 with
      | .error _ => q.1
      | .ok data => q.1.sendTo (s.field (.FD_PUB i 1) 16 14) 5 false
        (leBytes 8 k ++ leBytes 8 (s.commitAt g k) ++ leBytes 1 i ++ leBytes 1 g ++ leBytes 2 n ++ leBytes 4 0 ++ data)) s

/-- A write of a publication word (R405). -/
def State.pubWrite (s : State) (i w : Nat) (v : Word) : WriteRes :=
  let on := s.flag (.FD_PUB i 0) 31
  if w = 1 then (if on then s.stateRefused else (s.wr (.FD_PUB i 1) v, none))
  else
    let old := s.rd (.FD_PUB i 0)
    let q := s.rd (.SC_QSLICE (fld v 28 3))
    let lo := 16 * fld q 0 14
    if on && (fld old 28 3 != fld v 28 3 || fld old 0 18 != fld v 0 18) then s.stateRefused
    else if bit v 31 && !(decide (lo ≤ fld v 0 18) && decide (fld v 0 18 + s.pubCount i ≤ lo + 16 * fld q 16 15)) then s.stateRefused
    else (s.wr (.FD_PUB i 0) v, none)

/-- Write the words of a publication to the F view; IMGLATE tells of words that landed late, so not of a write that was
refused (R67, R406). -/
def State.subLand (s : State) (j w : Nat) (data : List Byte) (late : Bool) : State :=
  let q := s.dmaWrite (smBase + s.viewBase .F + 4 * w) data
  if late && q.2.isNone then q.1.setFlag .FD_SUBSTAT (16 + j) true else q.1

/-- On a freeze edge of the group, the writes that wait for it are made. -/
def State.subFreeze (s : State) (g : Nat) : State :=
  let due := s.fed.late.filter (fun x => x.1 == g)
  let s := { s with fed := { s.fed with late := s.fed.late.filter (fun x => x.1 != g) } }
  forEach due (fun x s => s.subLand x.2.1 x.2.2.1 x.2.2.2 true) s

/-- A publication has wholly arrived from node `src` (R406). -/
def State.pubReceived (s : State) (src : Nat) (m : List Byte) : State :=
  let ck := hf m 8 8
  let data := (m.drop 24).take (4 * hf m 18 2)
  forEach (List.range 16) (fun j s =>
    let w0 := s.rd (.FD_SUB j 0)
    let w1 := s.rd (.FD_SUB j 1)
    if !bit w0 31 || fld w1 16 14 != src || fld w1 0 4 != hf m 16 1 then s
    else
      let w := fld w0 0 18
      if s.viewSize .F < 4 * w + data.length then s.setFlag .FD_SUBSTAT j true
      else match (List.range 8).find? (fun g => !s.gIdle g && s.inISlice g (w / 16)) with
        | none => s.subLand j w data false
        | some g =>
          let t := s.freezeAt g (s.freezeFrom g ck)
          if t ≤ s.now then s.subLand j w data true
          else if s.now + 2 * (ceilDiv data.length 16 + 16) ≤ t then s.subLand j w data false
          else { s with fed := { s.fed with late := s.fed.late ++ [(g, j, w, data)] } }) s

/-! ### Messages of the pair (R407, R408) -/

/-- SC_EDITID.ACTIVE. -/
def State.activeId (s : State) (g : Nat) : Nat := s.field (.SC_EDITID g) 0 16
/-- The peer's node ID. -/
def State.peerId (s : State) : Nat := s.field .MI_PEER 16 14
/-- The tree edge to the peer, if the peer is a tree neighbour. -/
def State.peerEdge (s : State) : Option Nat :=
  s.upEdges.find? (fun e => s.linkPeer e == s.peerId && (s.field (.FD_LSTAT e) 24 2 == 1 || s.field (.FD_LSTAT e) 24 2 == 2))
/-- The mirrored groups. -/
def State.miGroups (s : State) : List Nat := (List.range 8).filter s.mirrored
/-- Replace the pairing state. -/
def State.setMirror (s : State) (m : Mirror) : State := { s with mirror := m }

/-- A message to the peer. -/
def State.toPeer (s : State) (bulk : Bool) (bs : List Byte) : State :=
  match s.peerEdge with
  | some e => s.sendOn e 6 false s.peerId bulk bs
  | none => s

/-- The 16-byte header of R408; `b` holds bytes 2 and 3. -/
def miHeader (kind g b count scan : Nat) : List Byte :=
  leBytes 1 kind ++ leBytes 1 g ++ leBytes 2 b ++ leBytes 4 count ++ leBytes 8 scan

/-- A view by its number in a line entry. -/
def entryView (v : Nat) : View := match v with | 0 => .I | 1 => .P | 2 => .M | _ => .H

/-- Line entries: each line is read from the bank that its view resolves to. `none` where a word is uncorrectable: the
message is then not sent, as its transfer ends with the error (R251). -/
def State.lineEntriesOf (s : State) : List (Nat × Nat) → State × Option (List Byte)
  | [] => (s, some [])
  | x :: xs =>
    let q := s.bankRead (smBase + s.resolve (entryView x.1) (64 * x.2)) 64
    let r := State.lineEntriesOf q.1 xs
    (r.1, q.2.bind (fun b => r.2.map (fun c => leBytes 4 (x.1 * 2 ^ 30 + x.2) ++ b ++ c)))

/-- HELLO: the role and TOOK (R407). -/
def State.sendHello (s : State) : State :=
  s.toPeer false (miHeader 5 0 (s.standby.toNat + 2 * (s.flag .MI_STAT 24).toNat) 0 0)

/-- RSREQ: the ACTIVE value of every group follows the header (R417). -/
def State.sendRsreq (s : State) : State :=
  s.toPeer false (miHeader 4 0 0 0 0 ++ (List.range 8).flatMap (fun g => leBytes 2 (s.activeId g)))

/-! ### Resync (R417) -/

/-- A standby enters RESYNC, and a resync starts. -/
def State.enterResync (s : State) : State :=
  let s := s.setMiState 2
  let s := s.setMirror { s.mirror with
    frz := [], active := [], heldScan := [], own := [], theirs := [], awaiting := [], digesting := [], takeover := [],
    suppressed := s.miGroups, asked := true, rsdone := false, bulk := false, marks := [] }
  s.sendRsreq

/-- The freeze after the RSDONE commit: the standby enters SYNCED. A scan left open before the resync is dropped, and the
F-view marks of the mirrored slices start again. -/
def State.enterSynced (s : State) : State :=
  let s := forEach s.miGroups (fun g s => (s.setGroup g { s.group g with scan := none, late := .none, frozen := none, owed := false, done := [] }).refreshGState g) s
  let s := { s with fDirty := s.fDirty.filter (fun l => !(s.miGroups).any (fun g => s.inISlice g l)) }
  (s.setMirror { s.mirror with asked := false, rsdone := false, own := [], theirs := [], awaiting := [] }).setMiState 3

/-- The bulk pass: one BULK message for every line of each mirrored I, P and M slice and of the H view. -/
def State.bulkPass (s : State) : State :=
  let s := s.setMirror { s.mirror with bulk := true, marks := [] }
  let lines := s.miGroups.flatMap (fun g =>
    (sliceLines (s.rd (.SC_ISLICE g)) 15 14).map (fun l => (g, 0, l)) ++ (sliceLines (s.rd (.SC_QSLICE g)) 15 14).map (fun l => (g, 1, l))
      ++ (sliceLines (s.rd (.SC_MSLICE g)) 14 13).map (fun l => (g, 2, l)))
    ++ (List.range (s.viewSize .H / 64)).map (fun l => (0, 3, l))
  forEach lines (fun x s =>
    let q := s.lineEntriesOf [x.2]
    match q.2 with
    | some b => q.1.toPeer true (miHeader 3 x.1 0 1 0 ++ b)
    | none => q.1) s

/-- RSREQ at the primary. -/
def State.rsreqReceived (s : State) (m : List Byte) : State :=
  if s.miState ≠ 1 then s
  else if s.miGroups.any (fun g => hf m (16 + 2 * g) 2 != s.activeId g) then
    (s.setFlag .MI_STAT 25 true).setMirror { s.mirror with bulk := false }
  else s.bulkPass

/-- Write one line entry of a resync: I and P lines into both banks, M and H lines into their views. The shadows of the
engines follow (R215). -/
def State.resyncLine (s : State) (v line : Nat) (data : List Byte) : State :=
  let put := fun (s : State) (o : Nat) => s.putGood (smBase + o) data
  match entryView v with
  | .I | .F => put (put s (s.viewBase .I + 64 * line)) (s.viewBase .F + 64 * line)
  | .Q | .P => (put (put s (s.viewBase .Q + 64 * line)) (s.viewBase .P + 64 * line)).trackWrite (s.viewBase .Q + 64 * line) 64
  | .M => put s (s.viewBase .M + 64 * line)
  | .H => put s (s.viewBase .H + 64 * line)

/-- The line entries of a message, from byte `o` on, each written by `f`; a write counts as EXTWR in the groups (R226). -/
def lineEntries (m : List Byte) (o : Nat) : List (Nat × Nat × List Byte) :=
  (List.range (hf m 4 4)).map (fun i =>
    let w := hf m (o + 68 * i) 4
    (w / 2 ^ 30, w % 2 ^ 14, (m.drop (o + 68 * i + 4)).take 64))

/-- The entry lies inside the image. -/
def State.entryFits (s : State) (x : Nat × Nat × List Byte) : Bool :=
  decide (64 * x.2.1 + 64 ≤ s.viewSize (entryView x.1)) && x.2.2.length == 64

/-- The lines of a BULK or CMT message at a standby in RESYNC. A line of the H view is EXTWR in every group that is not
IDLE (R226, R417). -/
def State.resyncLines (s : State) (m : List Byte) (o : Nat) : State :=
  let es := (lineEntries m o).filter s.entryFits
  if es.isEmpty then s
  else
    let s := forEach es (fun x s => s.resyncLine x.1 x.2.1 x.2.2) s
    forEach (if es.any (fun x => x.1 == 3) then List.range 8 else s.miGroups) (fun g s => s.detLost g 9) s

/-! ### Freezes (R409, R410, R414) -/

/-- FRZ of the primary: the lines that its input copy moves, read from the frozen bank. -/
def State.sendFrz (s : State) (g k : Nat) : State :=
  let lines := match s.copies.reverse.find? (fun j => j.kind == .input && j.group == g) with | some j => j.lines | none => []
  let q := s.lineEntriesOf (lines.map (fun l => (0, l)))
  match q.2 with
  | some b => q.1.toPeer false (miHeader 1 g (s.activeId g) lines.length k ++ b)
  | none => q.1

/-! ### Divergence (R239, R412) -/

/-- A divergence: DIVERGE, DCAUSE and the fault source; a standby resynchronises. -/
def State.diverge (s : State) (cause : Nat) : State :=
  let s := ((s.setFlag .MI_STAT 28 true).setField .MI_STAT 20 3 cause).raise 126
  if s.standby then s.enterResync else s

/-- After its own freeze k, a standby in SYNCED compares the ACTIVE that the primary's FRZ k carries with its own (R239). -/
def State.compareEdit (s : State) (g : Nat) : State :=
  if s.miState == 3 && mget s.mirror.frz 0 g == (s.group g).latest + 1 && mget s.mirror.active (s.activeId g) g != s.activeId g
  then s.diverge 3 else s

/-- FRZ at the standby: its lines go to the mirror bank, without the header of the slice; in RESYNC to both banks. -/
def State.frzReceived (s : State) (m : List Byte) : State :=
  let g := hf m 1 1 % 8
  if !s.mirrored g || !(s.miState == 2 || s.miState == 3) then s
  else
    let first := s.field (.SC_ISLICE g) 0 14
    let s := forEach ((lineEntries m 16).filter (fun x => s.entryFits x && x.1 == 0)) (fun x s =>
      if s.miState = 2 then s.resyncLine 0 x.2.1 x.2.2
      else
        let skip := if x.2.1 = first then 16 else 0
        s.putGood (smBase + s.resolve .I (64 * x.2.1) + skip) (x.2.2.drop skip)) s
    let s := if s.miState = 2 then s.detLost g 9 else s
    let s := s.setMirror { s.mirror with frz := mset s.mirror.frz g (hf m 8 8 + 1), active := mset s.mirror.active g (hf m 2 2) }
    s.compareEdit g

/-- Before a freeze instant of a mirrored group: the resync may end here. -/
def State.mirrorBeforeFreeze (s : State) (g : Nat) : State :=
  if s.mirrored g && s.miState == 2 && s.mirror.rsdone then s.enterSynced else s

/-- After freeze `k` of a mirrored group was taken: takeover, the primary's FRZ, and the standby's comparison of ACTIVE. -/
def State.mirrorAfterFreeze (s : State) (g k : Nat) : State :=
  let s :=
    if s.mirror.takeover.contains g then
      let s := s.setMirror { s.mirror with takeover := s.mirror.takeover.filter (· ≠ g) }
      (s.setFlag .MI_STAT 24 true).setMiState 1
    else s
  if s.mirrored g && s.miState == 1 then s.sendFrz g k else if s.mirrored g then s.compareEdit g else s

/-! ### Commits and comparison (R411 to R413, R415) -/

/-- The suppressions of a group end on its commit edge once the block is no standby (R415, R418). -/
def State.endSuppression (s : State) (g : Nat) : State :=
  if s.standby || !s.mirror.takeover.isEmpty then s
  else s.setMirror { s.mirror with suppressed := s.mirror.suppressed.filter (· ≠ g) }

/-- FLAGS of a CMT for what an instant came to. -/
def State.cmtFlags (s : State) (g : Nat) (c : CommitKind) : Nat :=
  let hold := if (s.group g).late = .hold then 4 else 0
  match c with | .committed => 1 | .overrun => 2 + hold | .none => hold

/-- A commit instant `k` of a mirrored group: the digest starts and the peer's CMT is awaited; an overrun of the primary in
the bulk pass restarts the resync. -/
def State.mirrorCommit (s : State) (g k : Nat) (c : CommitKind) : State :=
  if !s.mirrored g then s
  else
    let m := s.mirror
    let lines := match s.copies.reverse.find? (fun j => j.kind == .commit && j.group == g) with
      | some j => if c = .committed then j.lines else []
      | none => []
    let m := if s.miState = 1 ∨ s.miState = 3 then { m with digesting := m.digesting ++ [(g, k, s.cmtFlags g c, lines)] } else m
    let m := if s.miState = 1 ∨ s.miState = 2 ∨ s.miState = 3 then { m with awaiting := m.awaiting ++ [(g, k)] } else m
    let s := s.setMirror m
    if s.miState = 1 ∧ m.bulk ∧ c = .overrun then s.bulkPass else s

/-- The digest of the published bank of the output slice (R411); `none` where a word is uncorrectable (R251). -/
def State.digest (s : State) (g : Nat) : State × Option DWord :=
  let q := s.bankReads ((sliceLines (s.rd (.SC_QSLICE g)) 15 14).map (fun l => (smBase + s.resolve .P (64 * l), 64)))
  (q.1, q.2.map (fun b => crc64 (leBytes 8 ((s.group g).pubScan.getD 0) ++ b)))

/-- The digest engine ends: CMT is queued, with the lines of R417 while a resync runs. Without its digest or its lines no CMT
is sent. -/
def State.digestEnd (s : State) (g : Nat) : State :=
  match s.mirror.digesting.find? (fun x => x.1 == g) with
  | none => s
  | some x =>
    let m := s.mirror
    let es := if m.bulk then m.marks ++ x.2.2.2.map (fun l => (1, l)) else []
    let q := s.digest g
    let r := q.1.lineEntriesOf es
    match q.2, r.2 with
    | some d, some b =>
      let flags := x.2.2.1 + (if m.bulk then 8 else 0)
      let s := r.1.setMirror { r.1.mirror with digesting := m.digesting.erase x, own := m.own ++ [⟨g, x.2.1, d.toNat, x.2.2.1⟩],
                                               bulk := false, marks := [] }
      s.toPeer false (miHeader 2 g flags es.length x.2.1 ++ leBytes 8 d.toNat ++ b)
    | _, _ => r.1.setMirror { r.1.mirror with digesting := m.digesting.erase x }

/-- A CMT of the peer (R410, R412, R417). -/
def State.cmtReceived (s : State) (m : List Byte) : State :=
  let g := hf m 1 1 % 8
  let k := hf m 8 8
  let flags := hf m 2 1
  if !s.mirrored g then s
  else
    let x := s.mirror
    let s := s.setMirror { x with awaiting := x.awaiting.filter (fun a => a ≠ (g, k)), theirs := x.theirs ++ [⟨g, k, hf m 16 8, flags % 8⟩] }
    if s.miState = 2 then
      let s := s.resyncLines m 24
      if flags / 8 % 2 = 1 then s.setMirror { s.mirror with rsdone := s.mirror.asked }
      else if s.mirror.asked && mget s.mirror.active (s.activeId g) g != s.activeId g then s.setFlag .MI_STAT 25 true
      else s
    else if s.miState = 3 ∧ s.mirror.heldScan.contains (g, k + 1) = true then (s.setField .MI_STAT 20 3 4).enterResync
    else s

/-- Both CMTs of the group's oldest common instant are compared (R411, R412). -/
def State.compareCmt (s : State) (g : Nat) : State :=
  let m := s.mirror
  match m.own.find? (fun a => a.group == g && m.theirs.any (fun b => b.group == g && b.scan == a.scan)) with
  | none => s
  | some a =>
    match m.theirs.find? (fun b => b.group == g && b.scan == a.scan) with
    | none => s
    | some b =>
      let s := s.setMirror { m with own := m.own.filter (fun x => !(x.group == g && decide (x.scan ≤ a.scan))),
                                    theirs := m.theirs.filter (fun x => !(x.group == g && decide (x.scan ≤ a.scan))) }
      let s := ((s.wr (.MI_DIGEST 0) (word a.digest)).wr (.MI_DIGEST 1) (word (a.digest / 2 ^ 32))).wr (.MI_PDIGEST 0) (word b.digest)
      let s := (s.wr (.MI_PDIGEST 1) (word (b.digest / 2 ^ 32))).wr .MI_DSCAN (word a.scan)
      if a.digest ≠ b.digest then s.diverge 1 else if a.flags ≠ b.flags then s.diverge 2 else s

/-- Two consecutive CMTs of the group have missed their due time (R413). -/
def State.heartbeatMiss (s : State) (g : Nat) : State :=
  let m := s.mirror
  match m.awaiting.find? (fun x => x.1 == g && m.awaiting.contains (g, x.2 + 1)) with
  | none => s
  | some x =>
    let s := s.reach (s.commitAt g (x.2 + 1) + s.field .MI_PEER 0 6 * 1600)
    let s := (s.setMirror { m with awaiting := m.awaiting.filter (fun y => !(y.1 == g && decide (y.2 ≤ x.2 + 1))) }).setFlag .MI_STAT 27 true
    if s.miState = 3 then s.setMirror { s.mirror with takeover := s.miGroups, heldScan := [], digesting := [] }
    else if s.miState = 2 then s.setMiState 4
    else if s.miState = 1 then s.raise 127
    else s

/-! ### Roles (R407, R418) -/

/-- HELLO of the peer. -/
def State.helloReceived (s : State) (m : List Byte) : State :=
  if s.miState = 0 then s
  else
    let sb := hf m 2 1 % 2 == 1
    let took := hf m 2 1 / 2 % 2 == 1
    let new := s.mirror.peer.isNone
    let s := s.setMirror { s.mirror with peer := some (sb, took), void := false }
    if !s.standby && !sb then
      if took then
        let s := s.setFlag .MI_STAT 23 true |>.setFlag .MI_STAT 24 false
        s.enterResync.sendHello
      else if s.flag .MI_STAT 24 then (if new then s.sendHello else s)
      else (s.setMirror { s.mirror with void := true }).setFlag .MI_STAT 26 true
    else if s.standby && sb then (s.setMirror { s.mirror with void := true }).setFlag .MI_STAT 26 true
    else
      let s := if new then s.sendHello else s
      if s.miState = 4 ∨ s.miState = 2 then s.enterResync else s

/-- MI_CTL.EN rises. -/
def State.miEnable (s : State) : State :=
  let sb := s.field .MI_CTL 29 2 == 2
  let s := s.setMirror { mirrorReset with suppressed := if sb then s.miGroups else [] }
  let s := s.setMiState (if sb then 2 else 1)
  match s.peerEdge with
  | none => (s.setMirror { s.mirror with void := true, suppressed := if sb then (List.range 8).filter (fun g => s.flag .MI_CTL g) else [] }).setFlag .MI_STAT 26 true
  | some _ => let s := s.sendHello; if sb then s.enterResync else s

/-- MI_CTL.EN is written 0: pairing ends. -/
def State.miDisable (s : State) : State :=
  let s := ((s.setFlag .MI_CTL 31 false).setFlag .MI_STAT 24 false).setMiState 0
  s.setMirror { mirrorReset with suppressed := s.mirror.suppressed }

/-- A write of MI_CTL: fields other than RESYNC only while EN is 0; a write of EN = 0 ends pairing and changes nothing
else. -/
def State.miCtlWrite (s : State) (v : Word) : WriteRes :=
  let old := s.rd .MI_CTL
  if bit old 31 then
    if !bit v 31 then (s.miDisable, none)
    else if fld old 29 2 != fld v 29 2 || fld old 0 8 != fld v 0 8 then s.stateRefused
    else if bit v 28 && (s.miState == 2 || s.miState == 3) then (s.enterResync, none)
    else (s, none)
  else if !(fld v 29 2 == 1 || fld v 29 2 == 2) then s.stateRefused
  else
    let s := s.wr .MI_CTL (setBit v 28 false)
    if bit v 31 then (s.miEnable, none) else (s, none)

/-- A write of MI_PEER. -/
def State.miPeerWrite (s : State) (v : Word) : WriteRes :=
  if fld v 0 6 = 0 ∨ 50 < fld v 0 6 then s.stateRefused else (s.wr .MI_PEER v, none)

/-- A MIRROR message from the peer. -/
def State.mirrorReceived (s : State) (src : Nat) (m : List Byte) : State :=
  if !s.flag .MI_CTL 31 || src != s.peerId then s
  else match hf m 0 1 with
    | 1 => s.frzReceived m
    | 2 => s.cmtReceived m
    | 3 => if s.miState = 2 then s.resyncLines m 16 else s
    | 4 => s.rsreqReceived m
    | 5 => s.helloReceived m
    | _ => s

/-! ### Commands -/

/-- MIRROR_CMT (R411, R412). -/
def execMirrorCmt (g : Nat) (s : State) : Out := guarded (decide (g < 8)) (s.compareCmt g)

/-- MIRROR_HEARTBEAT_MISS (R413). -/
def execMirrorHeartbeatMiss (g : Nat) (s : State) : Out := guarded (decide (g < 8)) (s.heartbeatMiss g)

/-- DIGEST_ENGINE_END (R411). -/
def execDigestEngineEnd (g : Nat) (s : State) : Out := guarded (decide (g < 8)) (s.digestEnd g)

end Sys2Proof.Machine
end

