-- ==== Sys2Proof/Machine/Fed.lean ====
section
/-! DEFINITION. What cells do on arrival: sequence control, routing and delivery; the training timers; federation time
(R390 to R403). -/

namespace Sys2Proof.Machine

/-! ### Delivery and routing (R393, R394, R399) -/

/-- The content of a MGMT message. -/
def mgmtContent (m : List Byte) : List Byte := (m.drop 8).take (hf m 0 4)

/-- MGMT messages that a link holds go to the mailbox, in order, as far as it has space. -/
def State.mgmtRelease : Nat → State → Nat → State
  | 0, s, _ => s
  | k + 1, s, h =>
    match (s.link h).held with
    | [] => s
    | bs :: rest =>
      if s.mboxFree < bs.length then s
      else
        let q := s.mboxPut bs
        match q.2 with
        | some _ => s
        | none => State.mgmtRelease k (q.1.setLink h { q.1.link h with held := rest }) h

/-- Every link retries what it holds: the mailbox has gained space (R393, R466). -/
def State.mgmtRetry (s : State) : State :=
  forEach (List.range 4) (fun h s => s.mgmtRelease (s.link h).held.length h) s

/-- A MGMT message for this node: into the mailbox, or held behind those that wait. -/
def State.mgmtDeliver (s : State) (n : Nat) (m : List Byte) : State :=
  let h := s.bondHead n
  let s := s.setLink h { s.link h with held := (s.link h).held ++ [mgmtContent m] }
  s.mgmtRelease (s.link h).held.length h

/-- A whole message for this block, by its type. -/
def State.deliver (s : State) (n ty src : Nat) (m : List Byte) : State :=
  match ty with
  | 2 => s.linkCtlReceived n m
  | 4 => s.enumReceived (s.edgeOf n) m
  | 5 => s.pubReceived src m
  | 6 => s.mirrorReceived src m
  | 8 => s.mgmtDeliver n m
  | _ => s

/-- A cell for this block: UPDATE cells go to the update engine one by one, the others to their message. -/
def State.takeCell (s : State) (n : Nat) (c : Cell) : State :=
  if c.ty = 7 then s.updCell c.som c.eom c.srcWord c.payload
  else
    let r := s.assemble n c
    match r.2 with
    | some m => r.1.deliver n c.ty c.srcWord m
    | none => r.1

/-- Add 1 to CRCCNT. -/
def State.countDiscard (s : State) (n : Nat) : State :=
  s.setField (.FD_LERR n) 16 16 (satAdd 0xFFFF (s.field (.FD_LERR n) 16 16) 1)

/-- Route an accepted cell (R399): a link-local cell, and one for the block's own ID, is delivered. -/
def State.routeCell (s : State) (n : Nat) (c : Cell) : State :=
  if localType c.ty then s.takeCell n c
  else match s.route c.dest with
    | .own => s.takeCell n c
    | .edge e => s.queueCells e [⟨c.ty, c.som, c.eom, false, c.dest, c.srcWord, false, c.payload⟩]
    | .nowhere => s.countDiscard n

/-- A sequenced cell arrives on a link that is UP (R394). -/
def State.seqCell (s : State) (n : Nat) (c : Cell) : State :=
  if !s.linkIsUp n then s
  else if !c.good then s.cellBad n
  else if !seqType c.ty then s
  else
    let r := (s.ackNak n c).seqAccept n c
    if r.2 then r.1.routeCell n c else r.1

/-- The cell is sequenced, good, of type `ty`, and completes a message whose first byte `p` accepts. -/
def State.completes (s : State) (n : Nat) (c : Cell) (ty : Nat) (p : Nat → Bool) : Bool :=
  let h := s.bondHead n
  let old := if c.som then [] else ((s.link h).parts.filter (fun x => x.1 == c.ty && x.2.1 == c.srcWord)).flatMap (fun x => x.2.2)
  c.good && c.ty == ty && c.eom && p (hf (old ++ c.payload) 0 1)

/-- A cell that a command names by the message it completes; any other cell leaves the state as it was. -/
def State.namedCell (s : State) (n : Nat) (c : Cell) (ty : Nat) (p : Nat → Bool) : State :=
  if s.completes n c ty p then s.seqCell n c else s

/-- An IDLE cell carries ACK and NAK (R396). -/
def State.idleCell (s : State) (n : Nat) (c : Cell) : State :=
  if !s.linkIsUp n then s
  else if !c.good then s.cellBad n
  else if c.ty = 0 then s.ackNak n c else s

/-! ### Training timers (R394 to R396) -/

/-- After 8 resends in a row without progress, or 16 CRC failures in a row, the link retrains. -/
def State.retrain (s : State) (n : Nat) : State :=
  if s.linkIsUp n && (decide (8 ≤ (s.link (s.bondHead n)).resends) || decide (16 ≤ (s.link n).crcRun)) then
    (s.setLink n { s.link n with crcRun := 0 }).linkTrain n
  else s

/-- The elastic buffer overflows or underflows. -/
def State.slip (s : State) (n : Nat) : State :=
  if s.linkIsUp n then (s.setFlag (.FD_LSTAT n) 27 true).linkTrain n else s

/-- Training has not ended within 100 µs. -/
def State.trainTimeout (s : State) (n : Nat) : State :=
  if s.linkState n = 2 then
    (((s.reach ((s.link n).trainedAt + 160000)).setFlag (.FD_LSTAT n) 28 true).linkLeave n 4)
  else s

/-- 1 ms after FAILED the link trains again. -/
def State.trainAgain (s : State) (n : Nat) : State :=
  if s.linkState n = 4 && s.flag (.FD_LCTL n) 31 then (s.reach ((s.link n).trainedAt + 1600000)).linkTrain n else s

/-! ### Federation time (R400 to R403) -/

/-- The payload of a TIME cell (R393). -/
def timeMsg (kind xnum depth tprio master a b : Nat) : List Byte :=
  leBytes 1 kind ++ leBytes 1 xnum ++ leBytes 1 depth ++ leBytes 1 tprio ++ leBytes 2 master ++ leBytes 2 0 ++ leBytes 8 a ++ leBytes 8 b

/-- Set the enumeration and time state. -/
def State.setFed (s : State) (f : Fed) : State := { s with fed := f }

/-- A TIME cell of a kind, good, on a link that is UP. -/
def State.timeCellOk (s : State) (n : Nat) (c : Cell) (kind : Nat) : Bool :=
  s.linkIsUp n && c.good && c.ty == 3 && hf c.payload 0 1 == kind

/-- Link `n` leads to the time parent. -/
def State.isTimeParent (s : State) (n : Nat) : Bool :=
  s.linkIsUp n && s.flag .FD_STAT 31 && !s.flag .FD_TSTAT 30 && s.field .FD_TSTAT 16 2 == n

/-- An exchange is due: DREQ with t1. -/
def State.timeDue (s : State) (n : Nat) : State :=
  if !s.isTimeParent n then s
  else
    let x := (s.fed.xnum + 1) % 256
    let s := s.setFed { s.fed with xnum := x, t1 := s.now, cur := none }
    s.setLink n { s.link n with timeOut := [timeMsg 1 x 0 0 0 s.now 0] }

/-- TPRIO of the time master. -/
def State.masterPrio (s : State) : Nat := if s.flag .FD_TSTAT 30 then s.field .FD_TCFG 24 8 else s.fed.mprio

/-- DREQ at the parent: DRESP with t2 and t3, then SYNC, which launches one cell time of 80 ns later. -/
def State.timeDreq (s : State) (n : Nat) (c : Cell) (phase launch : Nat) : State :=
  if !s.timeCellOk n c 1 then s
  else
    let x := hf c.payload 1 1
    let d := s.field .FD_TSTAT 20 4
    let m := s.field .FD_TSTAT 0 14
    s.setLink n { s.link n with
      timeOut := [timeMsg 2 x d s.masterPrio m (s.now + phase) launch, timeMsg 3 x d s.masterPrio m (launch + 128) 0] }

/-- DEPTH from the DEPTH of the time parent (R400, R404). -/
def State.setDepth (s : State) (d : Nat) : State :=
  (s.setField .FD_TSTAT 20 4 (satAdd 15 d 1)).setFlag .FD_TSTAT 27 (decide (9 < d + 1))

/-- The difference of two timestamps. -/
def timeDiff (a b : Nat) : Int := (a : Int) - (b : Int)

/-- DRESP at the child: (t4 - t1) - (t3 - t2), twice the delay of the exchange. -/
def State.timeDresp (s : State) (n : Nat) (c : Cell) (phase : Nat) : State :=
  if !(s.timeCellOk n c 2 && s.isTimeParent n) then s
  else
    let p := c.payload
    if hf p 1 1 ≠ s.fed.xnum then s
    else
      let d2 := timeDiff (s.now + phase) s.fed.t1 - timeDiff (hf p 16 8) (hf p 8 8)
      (s.setFed { s.fed with cur := some d2, mprio := hf p 3 1 }).setDepth (hf p 2 1)

/-- The mean one-way delay of the kept exchanges. -/
def hopDelay (l : List (Int × Int)) : Int := (l.map (·.1)).sum / (2 * l.length)
/-- The mean offset of the kept exchanges. -/
def hopOffset (l : List (Int × Int)) : Int := (2 * (l.map (·.2)).sum + (l.map (·.1)).sum) / (2 * l.length)

/-- The alignment of R402: the timebase steps by 40 ceil(e / 40), and the hold that follows lets the rest of the offset
pass without a count. -/
def State.alignTime (s : State) (e : Int) : State :=
  let a := ceil40 e
  let s := s.stepTimebase (modTime (s.now + a)) a
  let s := (s.setFlag .TB_STAT 2 true).setFlag .FD_TSTAT 31 true |>.setFlag .FD_TSTAT 29 false
  s.setFed { s.fed with joining := false, hops := [] }

/-- SYNC at the child: D and e of the last 16 exchanges, the alignment, and the check of TLIM. -/
def State.timeSync (s : State) (n : Nat) (c : Cell) (phase : Nat) : State :=
  if !(s.timeCellOk n c 3 && s.isTimeParent n) then s
  else match s.fed.cur with
    | none => s
    | some d2 =>
      let p := c.payload
      if hf p 1 1 ≠ s.fed.xnum then s
      else
        let l := s.fed.hops ++ [(d2, timeDiff (hf p 8 8) (s.now + phase))]
        let l := l.drop (l.length - 16)
        let e := hopOffset l
        let s := (s.setFed { s.fed with cur := none, hops := l, mprio := hf p 3 1 }).setDepth (hf p 2 1)
        let s := (s.wr (.FD_HOPDLY n) (wordI (hopDelay l))).wr .FD_TOFS (wordI e)
        if s.fed.joining then (if l.length = 16 then s.alignTime e else s)
        else if s.flag .TB_STAT 2 && decide ((s.field .FD_TCFG 16 8 : Int) < e.natAbs) then (s.setFlag .FD_TSTAT 28 true).raise 125
        else s

/-- A write of JOIN = 1 is refused (R402). -/
def State.joinRefused (s : State) : Bool :=
  !s.allIdle || (List.range s.build.can).any (fun c => s.ready 2 (16 + c) && !s.flag (.CN_CTL c) 0) || s.tbAdj.isSome

/-- An accepted JOIN. -/
def State.join (s : State) : State :=
  if s.flag .FD_TSTAT 30 then
    (s.setFlag .TB_STAT 2 true).setFlag .FD_TSTAT 31 true |>.setFed { s.fed with joining := false }
  else s.setFed { s.fed with joining := true, hops := [], cur := none }

/-- JOIN = 0. -/
def State.leave (s : State) : State :=
  (s.setFlag .TB_STAT 2 false).setFlag .FD_TSTAT 31 false |>.setFed { s.fed with joining := false }

/-- A write of FD_CTL (R390, R398, R402, R403). A write that keeps JOIN = 1 asks for a new alignment only after HOLDOVER or
TLIM. -/
def State.fdCtlWrite (s : State) (v : Word) : WriteRes :=
  let old := s.rd .FD_CTL
  let join := bit v 8 && (!bit old 8 || s.flag .FD_TSTAT 29 || s.flag .FD_TSTAT 28)
  if !bit v 31 && bit old 31 && (List.range 4).any (fun n => s.flag (.FD_LCTL n) 31) then s.stateRefused
  else if join && s.joinRefused then s.stateRefused
  else
    let s := s.wr .FD_CTL (v &&& 0x80000101)
    let s := if bit v 31 && !bit old 31 then s.wantUp 3 else if !bit v 31 && bit old 31 then s.wantDown 3 else s
    let s := if join then s.join else if !bit v 8 && bit old 8 then s.leave else s
    (if bit v 4 then s.startEnum else s, none)

/-- A write of FD_SUB (R406). -/
def State.subWrite (s : State) (j w : Nat) (v : Word) : WriteRes := (s.wr (.FD_SUB j w) v, none)

/-! ### Commands -/

/-- The command names one of the four links. -/
def linkOk (n : Nat) : Bool := decide (n < 4)

/-- The links run: in HALT they send and take nothing (R476). -/
def State.linksRun (s : State) : Bool := s.clk.running && !s.clk.held && s.blk != 7

/-- PHYRDY_CHANGE (R395). -/
def execPhyrdyChange (n : Nat) (up : Bool) (s : State) : Out := guarded (linkOk n) (s.phyChange n up)

/-- A TRAIN cell; when the link to the peer of a pair comes UP with it, HELLO is sent again (R407, R418). -/
def State.trainAndGreet (s : State) (n : Nat) (c : Cell) : State :=
  let t := s.trainCell n c
  if !s.linkIsUp n && t.linkIsUp n && t.flag .MI_CTL 31 && t.peerEdge == some (t.edgeOf n) then t.sendHello else t

/-- TRAIN_CELL (R395). -/
def execTrainCell (n : Nat) (c : Cell) (s : State) : Out := guarded (linkOk n) (if s.linksRun then s.trainAndGreet n c else s)

/-- TRAINING_TIMEOUT (R395). -/
def execTrainingTimeout (n : Nat) (s : State) : Out := guarded (linkOk n) (if s.linksRun then s.trainTimeout n else s)

/-- LINK_RETRAIN (R394). -/
def execLinkRetrain (n : Nat) (s : State) : Out := guarded (linkOk n) (if s.linksRun then s.retrain n else s)

/-- FAILED_TRAINING_RESTART (R395). -/
def execFailedTrainingRestart (n : Nat) (s : State) : Out := guarded (linkOk n) (if s.linksRun then s.trainAgain n else s)

/-- IDLE_CELL (R396). -/
def execIdleCell (n : Nat) (c : Cell) (s : State) : Out := guarded (linkOk n) (if s.linksRun then s.idleCell n c else s)

/-- SEQUENCED_CELL_RECEIVED (R394). -/
def execSequencedCellReceived (n : Nat) (c : Cell) (s : State) : Out := guarded (linkOk n) (if s.linksRun then s.seqCell n c else s)

/-- RESEND_TIMEOUT (R394). -/
def execResendTimeout (n : Nat) (s : State) : Out := guarded (linkOk n) (if s.linksRun then if s.linkIsUp n then s.resend n else s else s)

/-- ELASTIC_BUFFER_SLIP (R396). -/
def execElasticBufferSlip (n : Nat) (s : State) : Out := guarded (linkOk n) (if s.linksRun then s.slip n else s)

/-- LINKCTL_BONDSYNC (R397). -/
def execLinkctlBondsync (n : Nat) (s : State) : Out := guarded (linkOk n) (if s.linksRun then s.bondSync n else s)

/-- ENUM_OFFER (R398). -/
def execEnumOffer (n : Nat) (c : Cell) (s : State) : Out := guarded (linkOk n) (if s.linksRun then s.namedCell n c 4 (· == 1) else s)

/-- ENUM_DONE (R398). -/
def execEnumDone (n : Nat) (c : Cell) (s : State) : Out := guarded (linkOk n) (if s.linksRun then s.namedCell n c 4 (· == 2) else s)

/-- ENUM_REJ (R398). -/
def execEnumRej (n : Nat) (c : Cell) (s : State) : Out := guarded (linkOk n) (if s.linksRun then s.namedCell n c 4 (· == 3) else s)

/-- ENUM_MASTER (R400). -/
def execEnumMaster (n : Nat) (c : Cell) (s : State) : Out := guarded (linkOk n) (if s.linksRun then s.namedCell n c 4 (· == 4) else s)

/-- TIME_EXCHANGE_DUE (R401). -/
def execTimeExchangeDue (n : Nat) (s : State) : Out := guarded (linkOk n) (if s.linksRun then s.timeDue n else s)

/-- TIME_DREQ (R401). -/
def execTimeDreq (n : Nat) (c : Cell) (phase launch : Nat) (s : State) : Out := guarded (linkOk n) (if s.linksRun then s.timeDreq n c phase launch else s)

/-- TIME_DRESP (R401). -/
def execTimeDresp (n : Nat) (c : Cell) (phase : Nat) (s : State) : Out := guarded (linkOk n) (if s.linksRun then s.timeDresp n c phase else s)

/-- TIME_SYNC (R401, R402, R403). -/
def execTimeSync (n : Nat) (c : Cell) (phase : Nat) (s : State) : Out := guarded (linkOk n) (if s.linksRun then s.timeSync n c phase else s)

/-- FED_HOLDOVER (R403): the time-parent link leaves UP. -/
def execFedHoldover (s : State) : Out :=
  let n := s.field .FD_TSTAT 16 2
  .next (if s.flag .TB_STAT 2 && !s.flag .FD_TSTAT 30 then (if s.linkIsUp n then s.linkTrain n else s.holdover) else s)

/-- PUB_RECEIVED (R406). -/
def execPubReceived (n : Nat) (c : Cell) (s : State) : Out := guarded (linkOk n) (if s.linksRun then s.namedCell n c 5 (fun _ => true) else s)

/-- MGMT_MESSAGE_RECEIVED (R393). -/
def execMgmtMessageReceived (n : Nat) (c : Cell) (s : State) : Out := guarded (linkOk n) (if s.linksRun then s.namedCell n c 8 (fun _ => true) else s)

/-- MIRROR_HELLO (R407). -/
def execMirrorHello (n : Nat) (c : Cell) (s : State) : Out := guarded (linkOk n) (if s.linksRun then s.namedCell n c 6 (· == 5) else s)

/-- MIRROR_FRZ_RECEIVED (R410). -/
def execMirrorFrzReceived (n : Nat) (c : Cell) (s : State) : Out := guarded (linkOk n) (if s.linksRun then s.namedCell n c 6 (· == 1) else s)

/-- MIRROR_RSREQ (R417). -/
def execMirrorRsreq (n : Nat) (c : Cell) (s : State) : Out := guarded (linkOk n) (if s.linksRun then s.namedCell n c 6 (· == 4) else s)

/-- MIRROR_BULK (R417). -/
def execMirrorBulk (n : Nat) (c : Cell) (s : State) : Out := guarded (linkOk n) (if s.linksRun then s.namedCell n c 6 (· == 3) else s)

end Sys2Proof.Machine
end

