-- ==== Sys2Proof/Machine/ScanRows.lean ====
section
/-! DEFINITION. The commands of the scan sequencer, with everything that a freeze and a commit cause in the other units,
and the writes of the SC registers (R203 to R223, R384, R405, R409, R411, R462). -/

namespace Sys2Proof.Machine

/-! ### Freeze, release, commit -/

/-- The sequencer runs: in RUN, and in RECOVER, where commits are frozen (R54). -/
def State.seqRuns (s : State) : Bool := (s.blk == 2 || s.blk == 4) && s.clk.running && !s.clk.held

/-- A commit instant with its effects: transmissions, publications, the Mirror digest, and the restart of engines that an
activation changed. -/
def State.commitInstant (s : State) (g : Nat) : State :=
  let s := (State.passIdle (fun s g => s.commitDue g) 3 s g)
  if !s.onGrid g || !s.commitDue g then s
  else if !(s.group g).begun then s.takeCommit g
  else
    let k := s.nextCommit g
    let s := s.endSuppression g
    let r := s.scanCommit g
    let s := r.1.restartChanged
    let s := if r.2.1 = .committed then (((s.allEvents 17).canCommit g).publishAll g r.2.2) else s
    s.mirrorCommit g k r.2.1

/-- A freeze instant with its effects: the end of a resync before it; then the events, the copies that wait for it, and
the primary's FRZ. The block event reaches every thread (DEDUCED, as for the other block events). -/
def State.freezeInstant (s : State) (g : Nat) (levels : BitVec 512) : State :=
  let s := (State.passIdle (fun s g => s.freezeDue g) 3 s g)
  let s := if s.onGrid g && s.commitDue g && s.freezeDue g then s.commitInstant g else s
  if !s.onGrid g || !s.freezeDue g then s else
  let s := s.mirrorBeforeFreeze g
  let r := s.scanFreeze g levels
  let s := (r.1.canFreeze g).subFreeze g
  if r.2.1 then (s.allEvents 16).mirrorAfterFreeze g r.2.2 else s

/-! ### Register writes (R203, R204, R212, R222, R223) -/

/-- A write of SC_IMGBASE or SC_IMGSIZE. -/
def State.layoutWrite (s : State) (size : Bool) (v : Word) : WriteRes :=
  let t := s.wr (if size then .SC_IMGSIZE else .SC_IMGBASE) v
  let w := t.rd .SC_IMGSIZE
  let fits := [View.I, .F, .Q, .P, .M, .H].all (fun x => decide (t.viewBase x + t.viewSize x ≤ 0x800000))
  if !s.allIdle || decide (256 < fld w 0 9) || decide (256 < fld w 9 9) || decide (128 < fld w 18 8) || decide (32 < fld w 26 6) || !fits
  then (s.setFlag .SC_STAT 0 true, some .state)
  else (t, none)

/-- A refused access to SC_OWN: OWNERR sets. -/
def State.ownErr (s : State) : WriteRes := (s.setFlag .SC_STAT 1 true, some .state)

/-- Q-view word `i` lies in the output slice of a group that is not IDLE. -/
def State.ownFixed (s : State) (i : Nat) : Bool := (List.range 8).any (fun g => !s.gIdle g && s.inQSlice g (i / 16))

/-- Advance SC_OWNPTR. -/
def State.ownAdvance (s : State) (n : Nat) : State := s.wr .SC_OWNPTR (word ((s.field .SC_OWNPTR 0 18 + n) % 2 ^ 18))

/-- A write of SC_OWNPTR. -/
def State.ownPtrWrite (s : State) (v : Word) : WriteRes := if s.fill.isSome then s.ownErr else (s.wr .SC_OWNPTR v, none)

/-- A write of SC_OWNDATA. -/
def State.ownDataWrite (s : State) (v : Word) : WriteRes :=
  let i := s.field .SC_OWNPTR 0 18
  let b : Byte := BitVec.ofNat 8 (fld v 0 8)
  if s.fill.isSome || (s.ownFixed i && s.ownAt i != b) then s.ownErr else ((s.setOwn i b).ownAdvance 1, none)

/-- A range of Q-view words meets the output slice of a group that is not IDLE. -/
def State.rangeFixed (s : State) (lo n : Nat) : Bool :=
  (List.range 8).any (fun g => !s.gIdle g &&
    (let w := s.rd (.SC_QSLICE g)
     decide (0 < fld w 16 15) && decide (16 * fld w 0 14 < lo + n) && decide (lo < 16 * (fld w 0 14 + fld w 16 15))))

/-- A write of SC_OWNFILL. -/
def State.ownFillWrite (s : State) (v : Word) : WriteRes :=
  let p := s.field .SC_OWNPTR 0 18
  let n := fld v 0 19
  if s.fill.isSome || n == 0 || decide (s.viewSize .Q < 4 * (p + n)) || s.rangeFixed p n then s.ownErr
  else (({ s with fill := some (fld v 24 8, n) } : State).setFlag .SC_STAT 2 true, none)

/-- A fill ends. -/
def State.ownFillEnd (s : State) : State :=
  match s.fill with
  | none => s
  | some f =>
    let p := s.field .SC_OWNPTR 0 18
    let s := (List.range f.2).foldl (fun s i => s.setOwn (p + i) (BitVec.ofNat 8 f.1)) s
    (({ s with fill := none } : State).setFlag .SC_STAT 2 false).ownAdvance f.2

/-- A write of SC_GCTL: DBGSAFE, then the start of an IDLE group or the stop. -/
def State.gctlWrite (s : State) (g : Nat) (v : Word) : WriteRes :=
  let s := s.setFlag (.SC_GCTL g) 1 (bit v 1)
  (if bit v 0 then (if s.gIdle g then s.scanStart g else s) else s.scanStop g, none)

/-- A write of a configuration register of a group. -/
def State.groupCfgWrite (s : State) (g : Nat) (r : Reg) (v : Word) : WriteRes :=
  if s.gIdle g then (s.wr r v, none) else s.stateRefused

/-! ### Commands -/

/-- The command names one of the eight groups. -/
def groupOk (g : Nat) : Bool := decide (g < 8)

/-- SCAN_START_CHECKS_END (R203). -/
def execScanStartChecksEnd (g : Nat) (s : State) : Out := guarded (groupOk g) (if s.seqRuns then s.startChecksEnd g else s)

/-- STOP_COPIES_END (R204). -/
def execStopCopiesEnd (g : Nat) (s : State) : Out := guarded (groupOk g) (if s.seqRuns then s.stopCopiesEnd g else s)

/-- SCAN_FREEZE (R201, R205, R207, R237, R409, R410, R414). -/
def execScanFreeze (g : Nat) (levels : BitVec 512) (s : State) : Out :=
  guarded (groupOk g) (if s.seqRuns then s.freezeInstant g levels else s)

/-- SCAN_RELEASE (R211). -/
def execScanRelease (g : Nat) (s : State) : Out := guarded (groupOk g) (if s.seqRuns then (State.passIdle (fun s g => s.releaseDue g) 3 s g).scanRelease g else s)

/-- SCAN_COMMIT (R214, R216 to R220). -/
def execScanCommit (g : Nat) (s : State) : Out := guarded (groupOk g) (if s.seqRuns then s.commitInstant g else s)

/-- COPY_ENGINE_COPY_END (R207, R209): the samples of a freeze are written within 8 FABCLK cycles of its edge. -/
def execCopyEngineCopyEnd (wait : Nat) (s : State) : Out :=
  guarded (decide (wait ≤ 8)) (if s.seqRuns then s.copyEnd wait else s)

/-- SC_OWNFILL_END (R223). -/
def execScOwnfillEnd (s : State) : Out := .next s.ownFillEnd

end Sys2Proof.Machine
end

