-- ==== Sys2Proof/Machine/TimerRows.lean ====
section
/-! DEFINITION. The ticks of the timer channels with everything they drive, and the firings that Gauze task inputs hand
to their targets (R339, R340, R353 to R363, R367). -/

namespace Sys2Proof.Machine

/-- The events of one tick or step reach their routes and the CAN triggers (R359, R384). -/
def State.tmEvents (s : State) (n : Nat) (m u conv : Bool) : State :=
  let s := s.tmRoutes n m u conv
  if m || u then s.canTriggers n m u else s

/-- Source cycles, one TMRCLK edge each: a tick and its events. -/
def State.tmCycles : Nat → State → Nat → State
  | 0, s, _ => s
  | k + 1, s, n =>
    let r := State.tmFeed 1 s n
    State.tmCycles k (r.1.tmEvents n (r.2.1 != 0) (r.2.2 != 0) true) n

/-- TMRCLK edges bring `cycles` source cycles to a counting channel that is not in LFCLK mode (R353, R354). -/
def State.timerTick (s : State) (n cycles : Nat) : State :=
  if s.tmCounting n && s.field (.TM_CTL n) 21 2 != 3 && !s.tmrStopped then State.tmCycles cycles s n else s

/-- One LFCLK step (R367): all ticks of the step at once, each kind of event recorded once, no converter start. -/
def State.timerLfStep (s : State) (n : Nat) : State :=
  if s.tmCounting n && s.field (.TM_CTL n) 21 2 != 3 && s.tmrStopped && s.blk != 6 && s.blk != 0 then
    let r := State.tmFeed (lfCycles (s.field (.TM_CTL n) 26 2)) s n
    let s := if 1 < r.2.1 ∨ 1 < r.2.2 then r.1.setFlag (.TM_STAT n) 3 true else r.1
    s.tmEvents n (r.2.1 != 0) (r.2.2 != 0) false
  else s

/-- A link acts one edge after its master (R362, R363): the gate takes the master's compare level, and a waiting master
event resets the slave or is one source cycle of its prescaler. -/
def State.timerLink (s : State) (n : Nat) : State :=
  let x := s.timer n
  let pend := x.linkPend
  let s := s.setTimer n { x with linkPend := false, gate := s.masterLevel n }
  let link := s.field (.TM_CTL n) 21 2
  let conv := !s.tmrStopped
  if !pend || !s.flag (.TM_CTL n) 31 then s
  else if link = 2 then
    let r := s.tmLinkReset n
    r.1.tmEvents n r.2.1 r.2.2 conv
  else if link = 3 then
    if s.tmCounting n then
      let r := State.tmFeed 1 s n
      r.1.tmEvents n (r.2.1 != 0) (r.2.2 != 0) conv
    else s
  else s

/-! ### Firings taken from task inputs (R339, R340) -/

/-- The target of a task input takes firings now: its domain is ready and its clock runs; the core clock of a gated tile does
not (R445). An event task input is taken
by WAIT alone. -/
def State.taskTaken (s : State) (i : Nat) : Bool :=
  if s.clk.porst || s.clk.sysrst then false
  else if i < 512 then s.ready 2 (i / 64) && s.clk.running && s.blk != 5 && s.blk != 6 && s.blk != 7 && !s.tileGated (i / 64)
  else if i < 1024 then false
  else if i < 1232 then !s.clk.held && !s.tmrStopped
  else if i < 1240 then true
  else if i < 1256 then !s.clk.held && !s.tmrStopped
  else decide (i < 1258) && s.clk.running && !s.clk.held && s.blk != 6 && s.blk != 7

/-- The action of one taken firing. -/
def State.taskAct (s : State) (i : Nat) : State :=
  if i < 512 then
    let t := s.taskTarget i
    if t.1 then s.setEvent (i / 64) t.2.1 t.2.2 else s
  else if i < 1024 then s
  else if i < 1216 then
    let n := (i - 1024) / 3
    let k := (i - 1024) % 3
    if k = 0 then s.setTimer n { s.timer n with startReq := true }
    else if k = 1 then s.setTimer n { s.timer n with stopReq := true }
    else if s.flag (.TM_CTL n) 23 then s.tmCapture n true else s
  else if i < 1232 then s.raise (104 + (i - 1216))
  else if i < 1240 then (if s.flag .AP_WAKEEN (i - 1232) then s.requestWake (.gauze (i - 1232)) else s)
  else if i < 1256 then s.convStart (i - 1240)
  else s.kickEdge (i - 1256)

/-- One firing is taken from the count of a task input. -/
def State.taskTake (s : State) (i : Nat) : State :=
  let n := mget s.gz.cnt 0 i
  if n = 0 ∨ s.taskTaken i = false then s
  else ({ s with gz := { s.gz with cnt := mset s.gz.cnt i (n - 1) } } : State).taskAct i

/-! ### Commands -/

/-- TASK_INPUT_TAKE (R339, R340, R342, R347). -/
def execTaskInputTake (i : Nat) (s : State) : Out := guarded (decide (i < 1280)) (s.taskTake i)

/-- TIMER_TICK (R353, R355, R358 to R361). -/
def execTimerTick (n cycles : Nat) (s : State) : Out := guarded (decide (n < 64)) (s.timerTick n cycles)

/-- TIMER_LFCLK_STEP (R367). -/
def execTimerLfclkStep (n : Nat) (s : State) : Out := guarded (decide (n < 64)) (s.timerLfStep n)

/-- TIMER_LINK_EVENT (R362, R363). -/
def execTimerLinkEvent (n : Nat) (s : State) : Out := guarded (decide (n < 64)) (s.timerLink n)

end Sys2Proof.Machine
end

