-- ==== Sys2Proof/Machine/Tiles.lean ====
section
/-! DEFINITION. What writes of the TL and TH registers do, and the slot map (R72 to R77, R84, R87, R102, R104, R114). -/

namespace Sys2Proof.Machine

/-! ### Slot map (R72 to R74) -/

/-- The shadow map of a tile: kind and thread of each position, as its registers hold them. -/
def State.shadowMap (s : State) (t : Nat) : List (Nat × Nat) :=
  (List.range 16).map (fun i => (s.field (.TL_SLOTMAP t i) 6 2, s.field (.TL_SLOTMAP t i) 0 4))

/-- An entry in whose slot an ELASTIC or URGENT thread may issue: CLAIM or HOME (R73). -/
def claimable (e : Nat × Nat) : Bool := e.1 == 0 || e.1 == 2

/-- No two cyclically consecutive claimable positions are more than 4 apart. -/
def spacingOk (m : List (Nat × Nat)) : Bool :=
  (List.range 16).all (fun i => (List.range 4).any (fun j => claimable (m.getD ((i + j) % 16) (1, 0))))

/-- The positions of the entries of one kind for one thread. -/
def entriesOf (m : List (Nat × Nat)) (kind n : Nat) : List Nat :=
  (List.range 16).filter (fun i => m.getD i (0, 0) == (kind, n))

/-- The first failing check of a map load, or 0 (R72). -/
def State.mapFailure (s : State) (t : Nat) : Nat :=
  let m := s.shadowMap t
  let homes := m.filter (fun e => e.1 == 2)
  let fixed := fun n => entriesOf m 1 n
  if !spacingOk m then 1
  else if (List.range 16).any (fun n => decide (1 < (fixed n).length)) then 2
  else if decide (1 < homes.length) || homes.any (fun e => s.thClass t e.2 != 2) || m.any (fun e => e.1 == 3) then 3
  else if m.any (fun e => e.1 == 1 && (e.2 == 0 || s.thClass t e.2 != 1)) then 4
  else if (List.range 16).any (fun n => (s.groupsOf t n).any (fun g => !s.gIdle g)
      && fixed n != entriesOf (s.tile t).activeMap 1 n) then 5
  else if (List.range 16).any (fun n => s.thState t n != 0
      && ((s.thClass t n == 1 && (fixed n).isEmpty) || (s.thClass t n == 2 && !m.contains (2, n)))) then 6
  else 0

/-- A write of TL_CTL.MAPLOAD (R72, R74). -/
def State.mapLoad (s : State) (t : Nat) : State :=
  let f := s.mapFailure t
  if f = 0 then (s.setTile t { s.tile t with pendingMap := some (s.shadowMap t) }).setFlag (.TL_STAT t) 2 true
  else (s.setFlag (.TL_STAT t) 31 true).setField (.TL_STAT t) 28 3 f

/-- The pending map becomes the active map on the edge of a cycle in position 0, in which the tile has not issued yet
(R72). -/
def State.mapActivate (s : State) (t cycle : Nat) : State :=
  if !(s.clk.running && !s.clk.held) || cycle % 16 != 0 || (match (s.tile t).lastCycle with | none => false | some c => decide (cycle ≤ c)) then s
  else
    match (s.tile t).pendingMap with
    | none => s
    | some m =>
      let x := s.tile t
      (s.setTile t { x with activeMap := m, pendingMap := none, pair := none,
                            lastCycle := if cycle = 0 then x.lastCycle else some (cycle - 1) }).setFlag (.TL_STAT t) 2 false

/-! ### TL_CTL (R84, R87, R96, R102) -/

/-- Setting or clearing DETM leaves both caches and the branch target buffer empty (R84). -/
def State.setDetm (s : State) (t : Nat) (b : Bool) : State :=
  let s := if s.flag (.TL_CTL t) 0 == b then s else s.setTile t { s.tile t with icache := [], dcache := [], btb := [] }
  s.setFlag (.TL_CTL t) 0 b

/-- TL_CTL.START (R87). -/
def State.tileStart (s : State) (t : Nat) : State := if t = 0 ∨ s.thState t 0 ≠ 0 then s else s.startThread0 t

/-- A tile reset with what it leaves to the scan groups of its members (R96, R204, R220). -/
def State.tileRestart (s : State) (t : Nat) : State := (s.resetTile t).threadsChanged

/-- A write of TL_CTL; `host` tells of a port or of DBGACC. -/
def State.tlCtlWrite (s : State) (t : Nat) (host : Bool) (v : Word) : WriteRes :=
  if bit v 7 && !host then s.stateRefused
  else if bit v 7 then (s.tileRestart t, none)
  else
    let s := s.setDetm t (bit v 0)
    let s := if bit v 6 then s.mapLoad t else s
    (if bit v 5 then s.tileStart t else s, none)

/-! ### TL_HWROUTE (R114) -/

/-- A write of TL_HWROUTE: at once with an empty store buffer, else it waits. -/
def State.hwRouteWrite (s : State) (t : Nat) (v : Word) : WriteRes :=
  if (s.tile t).sb.isEmpty then ((s.wr (.TL_HWROUTE t) v).setTile t { s.tile t with hwRoute := none }, none)
  else (s.setTile t { s.tile t with hwRoute := some v }, none)

/-- A waiting TL_HWROUTE value takes effect once the store buffer is empty. -/
def State.hwRouteTake (s : State) (t : Nat) : State :=
  match (s.tile t).hwRoute with
  | none => s
  | some v => if (s.tile t).sb.isEmpty then (s.wr (.TL_HWROUTE t) v).setTile t { s.tile t with hwRoute := none } else s

/-! ### TH registers (R77, R102, R104) -/

/-- The host window that a thread address lies in (R104, R109). -/
def hwinOf (a : Nat) : Option Nat := if 0x04000000 ≤ a ∧ a < 0x05000000 then some ((a - 0x04000000) / 0x400000) else none

/-- Drop the cache lines of a thread's windows that the predicate names (R104). -/
def State.dropWindows (s : State) (t n : Nat) (p : Nat → Bool) : State :=
  let keep := fun (x : Nat × Word × Word) => x.1 != n || !(match hwinOf x.2.1.toNat with | some w => p w | none => false)
  s.setTile t { s.tile t with icache := (s.tile t).icache.filter keep, dcache := (s.tile t).dcache.filter keep }

/-- Thread `n` is a member of a group that is not IDLE. -/
def State.liveMember (s : State) (t n : Nat) : Bool := (s.groupsOf t n).any (fun g => !s.gIdle g)

/-- Some other thread of the tile is URGENT. -/
def State.otherUrgent (s : State) (t n : Nat) : Bool := (List.range 16).any (fun m => m != n && s.thClass t m == 2)

/-- A change of class within the limits of R77, of a HELD thread that is in no group that runs. -/
def State.classOk (s : State) (t n c : Nat) : Bool :=
  decide (c < 3) && (c == s.thClass t n ||
    (s.thState t n == 0 && !(n == 0 && c != 0) && !(c == 2 && s.otherUrgent t n) && !s.liveMember t n))

/-- A write of a TH register, its value already merged with what the write leaves alone. -/
def State.thWrite (s : State) (t n : Nat) (r : Reg) (v : Word) : WriteRes :=
  match r with
  | .TH_CTL .. => if s.classOk t n (fld v 0 2) then (s.wr r v, none) else s.stateRefused
  | .TH_PC .. => if s.thState t n = 0 ∨ s.thState t n = 4 then (s.wr r v, none) else s.stateRefused
  | .TH_HWIN _ _ w => ((s.dropWindows t n (· == w)).wr r v, none)
  | .TH_HWINHI .. => ((s.dropWindows t n (fun _ => true)).wr r v, none)
  | _ => (s.wr r v, none)

/-! ### Commands -/

/-- SLOT_MAP_ACTIVATE (R72). -/
def execSlotMapActivate (t : TileAt) (s : State) : Out := guarded (s.hasTile t.tile) (s.mapActivate t.tile t.cycle)

end Sys2Proof.Machine
end

