-- ==== Sys2Proof/Machine/LvuCtl.lean ====
section
/-! DEFINITION. The contexts of the LVU: binding, power-down and wake (R168 to R173, R192, R193, R444). -/

namespace Sys2Proof.Machine

/-- Set the state code of a context. -/
def State.setCtxState (s : State) (t c v : Nat) : State := s.setField (.LV_CSTAT t c) 0 3 v

/-- The group that is not IDLE of which a thread is a member, if any. -/
def State.liveGroup (s : State) (t n : Nat) : Option Nat := (s.groupsOf t n).find? (fun g => !s.gIdle g)

/-- The wake of context `c` asks for 8 grains: for a member of a running group from its reservation, else, or with too
few grains there, from the queue (R193, R444). -/
def State.askWake (s : State) (t c : Nat) : State :=
  let u := ApUser.lvuWake t c
  match (s.ctx t c).await with
  | none => s.apRequest u 8
  | some a =>
    match s.liveGroup t a.1 with
    | none => s.apRequest u 8
    | some g =>
      if s.flag (.AP_RSV g) 30 && decide (s.field (.AP_RSV g) 16 10 + 8 ≤ s.field (.AP_RSV g) 0 10) then
        ({ s with apDrawn := s.apDrawn ++ [(u, g)] } : State).setField (.AP_RSV g) 16 10 (s.field (.AP_RSV g) 16 10 + 8)
      else (s.apRequest u 8).detLost g 8

/-- A wake begins, from RET with its contents (R193). -/
def State.beginWake (s : State) (t c : Nat) (ret : Bool) : State :=
  let s := (s.setCtxState t c 2).setField (.LV_CSTAT t c) 16 16 (satAdd 0xFFFF (s.field (.LV_CSTAT t c) 16 16) 1)
  (s.setCtx t c { s.ctx t c with retained := ret, restoring := false }).askWake t c

/-- The wake of a context has its grains. -/
def State.wakeGranted (s : State) (t c : Nat) : Bool :=
  s.apHolds (.lvuWake t c) || s.apDrawn.any (fun x => x.1 = .lvuWake t c)

/-- A context becomes BOUND to a thread (R168, R170). -/
def State.bindCtx (s : State) (t c n : Nat) (pin : Bool) : State :=
  s.wr (.LV_CSTAT t c) (setFld (setBit (setFld (s.rd (.LV_CSTAT t c)) 0 3 4) 4 pin) 8 4 n)

/-- The context that VBIND takes (R170): the named one, or the first in the order of ANY. -/
def State.pickCtx (s : State) (t : Nat) (any : Bool) (c : Nat) : Option Nat :=
  if !any then some c
  else
    let first := fun (p : Nat → Bool) => (List.range 4).find? p
    (first (fun c => s.ctxState t c == 3)) <|> (first (fun c => s.ctxState t c == 1)) <|> (first (fun c => s.ctxState t c == 0))
      <|> (first (fun c => (s.ctxState t c == 2 || s.ctxState t c == 5) && (s.ctx t c).await.isNone))

/-- VFREE of the context a thread holds, or HALT's and tile reset's like: the pinned context of a running member stays,
and PINHOLD sets (R172). -/
def State.vfreeCtx (s : State) (t n c : Nat) : State :=
  if s.flag (.LV_CSTAT t c) 4 && s.liveMember t n then s.setFlag (.LV_STAT t) 0 true else s.freeCtx t c

/-- The idle time of a FREE context has run out (R192). -/
def State.idlePowerDown (s : State) (t c : Nat) : State :=
  let time := s.field (.LV_IDLE t) 0 16
  if s.ctxState t c = 3 ∧ time ≠ 0 then (s.reach ((s.ctx t c).idleSince + 1600 * time)).setCtxState t c 5 else s

/-- A power-down ends in RET or OFF (R192); a VBIND that waits for it starts the wake (R170). -/
def State.downEnd (s : State) (t c : Nat) : State :=
  if s.ctxState t c ≠ 5 then s
  else
    let ret := s.flag (.LV_CTL t) c
    let s := if ret then s else s.setCtx t c { ctxReset with await := (s.ctx t c).await }
    let s := s.setCtxState t c (if ret then 1 else 0)
    if (s.ctx t c).await.isSome then s.beginWake t c ret else s

/-- The ramp of a wake ends: its grains are released and the restore runs (R193). -/
def State.rampEnd (s : State) (t c : Nat) : State :=
  if s.ctxState t c = 2 ∧ (s.ctx t c).restoring = false ∧ s.wakeGranted t c = true then
    (s.endWakeGrains t c).setCtx t c { s.ctx t c with restoring := true }
  else s

/-- A write of LV_CTL (R172, R192): giving up the domain is refused while a context is BOUND. -/
def State.lvCtlWrite (s : State) (t : Nat) (v : Word) : WriteRes :=
  if s.flag (.LV_CTL t) 16 && !bit v 16 && (List.range 4).any (fun c => s.ctxState t c == 4) then s.stateRefused
  else
    let old := s.flag (.LV_CTL t) 16
    let s := s.wr (.LV_CTL t) v
    (if bit v 16 == old then s else if bit v 16 then s.wantUp (16 + t) else s.wantDown (16 + t), none)

/-! ### Commands -/

/-- The context is in the build. -/
def State.hasCtx (s : State) (t c : Nat) : Bool := s.build.lvu && s.hasTile t && decide (c < 4)

/-- LV_IDLE_POWER_DOWN (R192). -/
def execLvIdlePowerDown (t c : Nat) (s : State) : Out := guarded (s.hasCtx t c) (s.idlePowerDown t c)

/-- LVU_CONTEXT_DOWN_END (R170, R192). -/
def execLvuContextDownEnd (t c : Nat) (s : State) : Out := guarded (s.hasCtx t c) (s.downEnd t c)

/-- LVU_RAMP_END (R193, R438). -/
def execLvuRampEnd (t c : Nat) (s : State) : Out := guarded (s.hasCtx t c) (s.rampEnd t c)

end Sys2Proof.Machine
end

