-- ==== Sys2Proof/Machine/ApRows.lean ====
section
/-! DEFINITION. Aperture's grants with what they start, its registers, and the power states DOZE, SLEEP and OFF (R56, R438
to R450). -/

namespace Sys2Proof.Machine

/-! ### Grants (R438 to R444) -/

/-- What a grant starts. -/
def State.granted (s : State) (u : ApUser) : State :=
  match u with
  | .lvuWake _ _ | .engGroup _ => s
  | .tile t => s.wantUp (8 + t)
  | .bank b => s.startClear b
  | .burst p => s.setFlag (.HP_CTL p) 1 true
  | .link n => s.linkGranted n
  | .can => s.wantUp 2
  | .thread t n => s.setEvent t n 21
  | .rsv g => s.setFlag (.AP_RSV g) 30 true

/-- A request larger than B is passed over on the way to the next grant (R440). -/
def State.passedOver (s : State) : Bool := !(s.apOrder.takeWhile (fun c => s.apBudget < c.grains)).isEmpty

/-- Aperture considers its queue: a request above B is marked, and the first that fits is granted. -/
def State.apertureGrant (s : State) : State :=
  let s := if s.passedOver then s.setFlag .AP_STAT 29 true else s
  match s.apNext with
  | none => s
  | some c => (s.apGrant c).granted c.user

/-! ### Register writes -/

/-- A write of HP_CTL: burst mode is asked for, or left; the grains return once nothing above the lower limits is
outstanding (R271). -/
def State.hpCtlWrite (s : State) (p : Nat) (v : Word) : WriteRes :=
  let old := s.flag (.HP_CTL p) 0
  let s := s.setFlag (.HP_CTL p) 0 (bit v 0)
  if bit v 0 && !old then
    if s.apHolds (.burst p) then
      ((s.setPort p { s.port p with leaving := false }).setFlag (.HP_CTL p) 1 true, none)
    else (s.apRequest (.burst p) 4, none)
  else if !bit v 0 && old then
    let s := s.setFlag (.HP_CTL p) 1 false
    if s.apHolds (.burst p) then ((s.setPort p { s.port p with leaving := true }).burstDrain p, none)
    else (s.apRelease (.burst p), none)
  else (s, none)

/-- A write of AP_CFG (R439, R442). -/
def State.apCfgWrite (s : State) (v : Word) : WriteRes := ((s.wr .AP_CFG v).apOver, none)

/-- A write of AP_RSV (R443): GRAINS changes only while REQ and HELD are 0; a release is refused while the group is not
IDLE. -/
def State.apRsvWrite (s : State) (g : Nat) (v : Word) : WriteRes :=
  let r := Reg.AP_RSV g
  let req := s.flag r 31
  let held := s.flag r 30
  if (req || held) && fld v 0 10 != s.field r 0 10 then s.stateRefused
  else if req && !bit v 31 then
    if s.gIdle g then ((((s.setFlag r 31 false).setFlag r 30 false).apRelease (.rsv g)), none) else s.stateRefused
  else
    let s := (s.setField r 0 10 (fld v 0 10)).setFlag r 31 (bit v 31)
    (if bit v 31 && !req then s.apRequest (.rsv g) (fld v 0 10) else s, none)

/-- A tile may be given up: not tile 0, every thread HELD, and its LVU domain not requested (R450). -/
def State.tileMayGo (s : State) (t : Nat) : Bool :=
  t != 0 && (List.range 16).all (fun n => s.thState t n == 0) && !s.flag (.LV_CTL t) 16

/-- A write of AP_TILEEN (R450); the bits of absent tiles ignore it. -/
def State.tileEnWrite (s : State) (v : Word) : WriteRes :=
  let old := s.rd .AP_TILEEN
  if s.allTiles.any (fun t => bit old t && !bit v t && !s.tileMayGo t) then s.stateRefused
  else
    (forEach s.allTiles (fun t s =>
      let s := s.setFlag .AP_TILEEN t (bit v t)
      if bit v t && !bit old t then s.apRequest (.tile t) 6
      else if !bit v t && bit old t then (s.apRelease (.tile t)).wantDown (8 + t)
      else s) s, none)

/-! ### Power states (R446 to R449) -/

/-- Some wake source is enabled: in DOZE the kicks count as well (R448). -/
def State.wakeEnabled (s : State) (doze : Bool) : Bool :=
  s.field .AP_WAKEEN 0 (if doze then 10 else 8) != 0 ||
    (List.range 8).any (fun n => s.flag (.TB_CMP n 3) 31 && s.flag (.TB_CMP n 3) 29)

/-- The first failing condition of a DOZE request, or 0 (R446). -/
def State.dozeFailure (s : State) : Nat :=
  if !s.allIdle then 1
  else if s.allTiles.any (fun t => (List.range 32).any (fun e => s.eOn t e))
      || (List.range 16).any (fun c => s.hasCan c && !s.canInit c) || (List.range 4).any (fun n => s.flag (.FD_LCTL n) 31) then 2
  else if s.allThreads.any (fun x => !([0, 2, 5].contains (s.thState x.1 x.2))) then 3
  else if !s.wakeEnabled true then 4
  else 0

/-- A power-state request fails: PSERR and PSCAUSE. -/
def State.psError (s : State) (c : Nat) : State := (s.setFlag .AP_PSTAT 8 true).setField .AP_PSTAT 0 4 c

/-- DOZE is entered: the divided clocks but FABCLK and TMRCLK stop, and the memories go to retention (R447). -/
def State.enterDoze (s : State) : State := (({ s with opened := [], wakes := [] } : State).enterBlk 5).settle 3

/-- A power-state request (R446): accepted in RUN; a failing condition shows in AP_PSTAT. -/
def State.powerRequest (s : State) (req : Nat) : WriteRes :=
  if s.blk ≠ 2 then s.stateRefused
  else if req = 5 then (let f := s.dozeFailure; if f = 0 then s.enterDoze else s.psError f, none)
  else if req = 6 then (if s.wakeEnabled false then s.beginEntry 6 else s.psError 4, none)
  else if req = 0 then (s.beginEntry 0, none)
  else (s.psError 0xF, none)

/-- DOZE ends: the gated clocks open, and the block is in RUN (R448). -/
def State.leaveDoze (s : State) : State := (({ s with opened := [], wakes := [] } : State).enterBlk 2).settle 3

/-- A write of AP_PCTL: WAKE by a host ends DOZE; a nonzero REQ asks for a state. -/
def State.apPctlWrite (s : State) (host : Bool) (v : Word) : WriteRes :=
  if fld v 0 4 ≠ 0 then s.powerRequest (fld v 0 4)
  else (if bit v 8 && host && s.blk == 5 then s.leaveDoze else s, none)

/-- AP_PSTAT.WAKESRC after a wake. -/
def State.recordWake (s : State) (w : WakeSrc) : State :=
  match w with
  | .gauze j => s.setField .AP_PSTAT 16 4 j
  | .comparator n => s.setField .AP_PSTAT 16 4 (8 + n)
  | .kick _ => s

/-- A wake from DOZE is taken (R448). -/
def State.dozeWake (s : State) (w : WakeSrc) : State :=
  if s.blk = 5 ∧ s.wakes.contains w = true then (s.recordWake w).leaveDoze else s

/-- A wake from SLEEP is taken once the entry is complete (R448): CLK_REQ rises, and MAIN and TILE[0] power up when
CLK_ACK has come (R449). -/
def State.sleepWake (s : State) (w : WakeSrc) : State :=
  if s.blk = 6 ∧ s.entry = none ∧ s.wakes.contains w = true then
    ({ s.recordWake w with wakes := [] } : State).callBack
  else s

/-! ### Commands -/

/-- APERTURE_GRANT (R439 to R441). -/
def execApertureGrant (s : State) : Out := .next s.apertureGrant

/-- DOZE_WAKE (R448). -/
def execDozeWake (w : WakeSrc) (s : State) : Out := .next (s.dozeWake w)

/-- SLEEP_WAKE (R448, R449). -/
def execSleepWake (w : WakeSrc) (s : State) : Out := .next (s.sleepWake w)

end Sys2Proof.Machine
end

