-- ==== Sys2Proof/Machine/FaultRows.lean ====
section
/-! DEFINITION. The events of the fault collector, the writes of the FC page and of TL_FCACK (R420 to R437), and the writes
of BLK_STATE, BLK_BOOTDONE and BLK_BOOTPTR (R57, R61, R63). -/

namespace Sys2Proof.Machine

/-! ### Events -/

/-- The action of an expired window (R426). -/
def State.expiryAction (s : State) (n : Nat) : State :=
  let c := s.cur n
  let s := if 2 ≤ c then s.wr .FC_RSTAT (s.rd .FC_RSTAT ||| 3) else s
  if c = 3 then
    let s := s.setFlag .FC_RSTAT 2 true
    let s := if s.blk = 2 then s.enterBlk 4 else s
    if n < 64 ∧ s.flag (.FC_SCFG n) 4 = true then
      (s.tileRestart (n / 8)).setFlag .BLK_RSTCAUSE (8 + n / 8) true
    else s
  else s

/-- The window of record `n` expires (R425, R426): the action of CUR, then the raise and the new window. -/
def State.expire (s : State) (n : Nat) : State :=
  let c := s.cur n
  let s := s.expiryAction n
  let s := if c < 3 then (s.setField (.FC_SSTAT n) 28 2 (c + 1)).startWindow n else s.endWindow n
  s.notifyFault n true false

/-- The window of record `n` expires at its instant (R425, R426, R428): nothing while the block is in HALT (R430). -/
def State.windowExpiry (s : State) (n : Nat) : State :=
  match s.windows.find? (fun x => x.1 = n) with
  | none => s
  | some w =>
    if s.blk = 7 ∨ s.latched n = false ∨ s.acked n = true ∨ s.cur n = 0 then s
    else ((s.reach (w.2 + 1600 * s.field (.FC_WIN (s.cur n)) 0 24)).expire n).settle 3

/-- A FAULT_IN pin changes as synchronised (R44, R420). -/
def State.finChange (s : State) (j : Nat) (up : Bool) : State :=
  let rise := up && !bit s.faultIn j
  let s := { s with faultIn := setBit s.faultIn j up }
  if rise then s.raise (88 + j) else s

/-- In ALIVE mode the pin toggles while the fault condition is false (R436). -/
def State.aliveToggle (s : State) : State :=
  if s.flag .BLK_BOOTDONE 0 && s.flag .FC_CFG 8 && !s.faultHeld && !s.clk.held then { s with faultOut := !s.faultOut } else s

/-! ### Register writes -/

/-- A write of FC_ACK[i] (R431). -/
def State.fcAckWrite (s : State) (i : Nat) (v : Word) : WriteRes :=
  ((forEach (setBits v 32) (fun j s => s.ackRecord (32 * i + j)) s).settle 3, none)

/-- A write of FC_STAT[i] (R431). -/
def State.fcStatWrite (s : State) (i : Nat) (v : Word) : WriteRes :=
  ((forEach (setBits v 32) (fun j s => s.clearRecord (32 * i + j)) s).settle 3, none)

/-- A write of FC_SCFG[n]: with FORCE a forced occurrence under the fields as written (R432). -/
def State.fcScfgWrite (s : State) (n : Nat) (v : Word) : WriteRes :=
  let s := s.wr (.FC_SCFG n) v
  (if bit v 31 then ((s.setFlag (.FC_SCFG n) 31 false).occur n true).settle 3 else s, none)

/-- SAFEPAT and the commit freeze end together; each group's scan in progress is owed (R429). -/
def State.endReaction (s : State) : State :=
  let was := s.flag .FC_RSTAT 1
  let s := s.wr .FC_RSTAT (s.rd .FC_RSTAT &&& 4)
  if was then forEach (List.range 8) (fun g s => s.oweScan g) s else s

/-- Some latched record is unacknowledged at a severity or above. -/
def State.unacked (s : State) (sev : Nat) : Bool := s.anyRecord (fun w => bit w 31 && !bit w 27 && decide (sev ≤ fld w 28 2))

/-- A write of FC_RCTL (R429). -/
def State.fcRctlWrite (s : State) (v : Word) : WriteRes :=
  if !bit v 0 then (s, none)
  else if s.blk == 4 || s.unacked 2 then s.stateRefused
  else (s.endReaction, none)

/-- A write of FC_RSTAT or FC_CFG: the fault outputs follow (R436, R437). -/
def State.fcOutWrite (s : State) (r : Reg) (v : Word) : WriteRes := ((s.wr r v).settle 3, none)

/-- A write of TL_FCACK (R431, R433): ACK first, then CLR. -/
def State.tlFcackWrite (s : State) (v : Word) : WriteRes :=
  let n := fld v 0 7
  let s := if bit v 31 then s.ackRecord n else s
  ((if bit v 30 then s.clearRecord n else s).settle 3, none)

/-- The writer is thread 0 of tile 0, through either of its addresses. -/
def srcMaster : Src → Bool
  | .thread t n _ => t == 0 && n == 0
  | _ => false

/-- The writer is a thread. -/
def srcThread : Src → Bool
  | .thread .. => true
  | _ => false

/-- A write of BLK_STATE (R55, R57). The boot ROM's own store also sets BOOTERR (R59, DEDUCED). -/
def State.blkStateWrite (s : State) (src : Src) (v : Word) : WriteRes :=
  let req := fld v 16 4
  let rom := srcMaster src && s.blk == 1 && decide (0x0F800000 ≤ (s.rd (.TH_PC 0 0)).toNat ∧ (s.rd (.TH_PC 0 0)).toNat < 0x0F810000)
  let fin := fun (s : State) =>
    let s := if bit v 8 then s.setFlag .BLK_STATE 8 false else s
    if rom then s.setField .BLK_STATE 24 8 (fld v 24 8) else s
  if req = 0 then (fin s, none)
  else if req = 1 ∧ s.blk = 3 ∧ srcMaster src = true then (((fin s).enterBlk 1).settle 3, none)
  else if req = 3 ∧ s.blk = 1 ∧ srcMaster src = true then (((fin s).enterBlk 3).settle 3, none)
  else if req = 2 ∧ s.blk = 4 ∧ s.unacked 3 = false then ((((fin s).enterBlk 2).endReaction).settle 3, none)
  else s.stateRefused

/-- A write of BLK_BOOTDONE (R63). The boot is over: the versions of the running images show (R465). -/
def State.bootDoneWrite (s : State) (src : Src) (v : Word) : WriteRes :=
  if srcMaster src && fld v 16 16 == 0x5EA1 && s.lockOpen then
    ((((s.setFlag .BLK_BOOTDONE 0 true).enterBlk 2).bootImages).settle 3, none)
  else s.stateRefused

/-- A write of BLK_BOOTPTR (R61, R90). -/
def State.bootPtrWrite (s : State) (i : Nat) (v : Word) : WriteRes :=
  if s.blk ≠ 1 then s.stateRefused
  else
    let s := s.wr (.BLK_BOOTPTR i) v
    (if i = 0 ∧ bit v 0 = true then s.setEvent 0 0 11 else s, none)

/-! ### Commands -/

/-- FAULT_OCCURRENCE (R420 to R424). -/
def execFaultOccurrence (n : Nat) (s : State) : Out := guarded (decide (n < 128)) (s.raise n)

/-- FAULT_WINDOW_EXPIRY (R425 to R428). -/
def execFaultWindowExpiry (n : Nat) (s : State) : Out := guarded (decide (n < 128)) (s.windowExpiry n)

/-- FAULT_IN_RISE (R44, R420). -/
def execFaultInRise (j : Nat) (s : State) : Out := guarded (decide (j < 16)) (s.finChange j true)

/-- FAULT_IN_FALL (R420, R431). -/
def execFaultInFall (j : Nat) (s : State) : Out := guarded (decide (j < 16)) (s.finChange j false)

/-- ALIVE_TOGGLE (R436). -/
def execAliveToggle (s : State) : Out := .next s.aliveToggle

end Sys2Proof.Machine
end

