-- ==== Sys2Proof/Machine/Debug.lean ====
section
/-! DEFINITION. Debug: halts, steps and resumes of threads, tiles and the block, the state of a halted thread, and the TAP
(R467 to R477). -/

namespace Sys2Proof.Machine

/-! ### Thread halt and step (R469, R470, R472) -/

/-- A thread enters DBGHALT: the code it resumes to, the cause and index of DB_HSTAT, and the thread address of a hit. -/
def State.enterDbg (s : State) (t n back cause idx : Nat) (addr : Word) : State :=
  let x := s.thread t n
  let s := s.setThread t n { x with haltedFrom := back, haltReq := false, stepping := false, wait := if x.wait = .release then .release else .none }
  let s := (s.setThState t n 4).wr (.DB_HSTAT t n) (word (cause * 2 ^ 29 + idx * 2 ^ 24 + addr.toNat % 2 ^ 24))
  (s.debugHoldEntered t n).threadChanged t n

/-- The code that a halt of the thread resumes to: a WFE or CHWAIT is left and executes again, a member waits on after
SCANEND, a HELD thread stays HELD. -/
def State.haltBack (s : State) (t n : Nat) : Nat :=
  if s.thState t n = 0 then 0 else if (s.thread t n).wait = .release then 2 else 1

/-- Halt thread `n` (R469): a waiting VBIND, host store or TL_HWROUTE write completes first; a thread that is STOPPED stays
so. -/
def State.haltThread (s : State) (byTile : Bool) (t n : Nat) : State :=
  let c := s.thState t n
  if c = 4 ∨ c = 5 ∨ s.ready 2 t = false then s
  else
    if (s.thread t n).wait.completes then s.setThread t n { s.thread t n with haltReq := true, byTile := byTile }
    else (s.setThread t n { s.thread t n with byTile := byTile }).enterDbg t n (s.haltBack t n) (if byTile then 6 else 1) 0 0

/-- Resume thread `n` to the state it was halted from (R470). -/
def State.resumeThread (s : State) (t n : Nat) : State :=
  if s.thState t n ≠ 4 then s
  else
    let x := s.thread t n
    let s := s.setThread t n { x with byTile := false, skipBp := true }
    ((s.setThState t n (if x.wait = .release then 2 else min 1 x.haltedFrom)).debugHoldLeft t n).threadChanged t n

/-- Step thread `n`: it executes one instruction, a waiting member after its release (R470). -/
def State.stepThread (s : State) (t n : Nat) : State :=
  if s.thState t n ≠ 4 then s
  else
    let x := s.thread t n
    (s.setThread t n { x with stepping := true, skipBp := true }).setThState t n (if x.wait = .release then 2 else 1)

/-- Every thread of the mask is in DBGHALT. -/
def State.allHalted (s : State) (t : Nat) (v : Word) : Bool := (setBits v 16).all (fun n => s.thState t n == 4)

/-- A write of DB_THALT. -/
def State.thaltWrite (s : State) (t : Nat) (v : Word) : WriteRes :=
  (forEach (setBits v 16) (fun n s => s.haltThread false t n) s, none)

/-- A write of DB_TRES. -/
def State.tresWrite (s : State) (t : Nat) (v : Word) : WriteRes :=
  if s.allHalted t v then (forEach (setBits v 16) (fun n s => s.resumeThread t n) s, none) else s.stateRefused

/-- A write of DB_TSTEP. -/
def State.tstepWrite (s : State) (t : Nat) (v : Word) : WriteRes :=
  if s.allHalted t v then (forEach (setBits v 16) (fun n s => s.stepThread t n) s, none) else s.stateRefused

/-- A write of DB_TILE (R472). -/
def State.dbTileWrite (s : State) (t : Nat) (v : Word) : WriteRes :=
  if bit v 0 && bit v 1 then s.stateRefused
  else if bit v 0 then (forEach (List.range 16) (fun n s => s.haltThread true t n) s, none)
  else if bit v 1 then
    (forEach (List.range 16) (fun n s => if (s.thread t n).byTile then s.resumeThread t n else s) s, none)
  else (s, none)

/-- DB_THALT as it reads: the threads in DBGHALT. -/
def State.thaltRead (s : State) (t : Nat) : Word :=
  word ((List.range 16).foldl (fun a n => if s.thState t n = 4 then a + 2 ^ (16 + n) else a) 0)

/-! ### State of a halted thread (R471, R475) -/

/-- The tile and thread that DB_TSEL selects. -/
def State.dbSel (s : State) : Nat × Nat := (s.field .DB_TSEL 4 3, s.field .DB_TSEL 0 4)

/-- The selected thread is in DBGHALT. -/
def State.dbOpen (s : State) : Bool := s.hasTile s.dbSel.1 && s.thState s.dbSel.1 s.dbSel.2 == 4

/-- Word `w` of vector register `v` of a context. -/
def ctxWord (x : Ctx) (v w : Nat) : Word := (mget x.v 0 v).extractLsb' (32 * w) 32

/-- Replace a word of a vector register. -/
def setCtxWord (x : Ctx) (v w : Nat) (d : Word) : Ctx :=
  { x with v := mset x.v v (setFld (mget x.v 0 v) (32 * w) 32 d.toNat) }

/-- A read of DB_GREG[i], DB_BITST or DB_VDATA. -/
def State.dbRead (s : State) (r : Reg) : Except Cause Word :=
  let t := s.dbSel.1
  let n := s.dbSel.2
  if !s.dbOpen then .error .state
  else match r with
    | .DB_GREG i => .ok (s.g t n i)
    | .DB_BITST => .ok (s.rd (.BITST t n))
    | _ =>
      match s.boundCtx t n with
      | some c => .ok (ctxWord (s.ctx t c) (s.field .DB_VSEL 6 5) (s.field .DB_VSEL 0 6))
      | none => .error .state

/-- A value as BITST keeps it: a DEPTH above 8 stores 8, reserved bits read 0 (R141). -/
def bitstValue (v : Word) : Word := setFld (v &&& 0x0300FF01) 16 4 (min 8 (fld v 16 4))

/-- A write of DB_GREG[i], DB_BITST or DB_VDATA. -/
def State.dbWrite (s : State) (r : Reg) (v : Word) : WriteRes :=
  let t := s.dbSel.1
  let n := s.dbSel.2
  if !s.dbOpen then s.stateRefused
  else match r with
    | .DB_GREG i => (s.setG t n i v, none)
    | .DB_BITST => (s.wr (.BITST t n) (bitstValue v), none)
    | _ =>
      match s.boundCtx t n with
      | some c => (s.setCtx t c (setCtxWord (s.ctx t c) (s.field .DB_VSEL 6 5) (s.field .DB_VSEL 0 6) v), none)
      | none => s.stateRefused

/-- A write of DB_CHABORT (R475). -/
def State.chAbortWrite (s : State) (v : Word) : WriteRes :=
  let t := fld v 4 3
  let n := fld v 0 4
  if s.hasTile t && s.thState t n == 4 then ((s.dropReservation t n).setFlag (.TH_STAT t n) 8 true, none) else s.stateRefused

/-! ### Block halt (R476, R477) -/

/-- A write of DB_BLK. -/
def State.blkHalt (s : State) : WriteRes :=
  if s.blk = 1 ∨ s.blk = 2 ∨ s.blk = 3 ∨ s.blk = 4 then (s.setFlag .DB_BLK 3 true, none) else s.stateRefused

/-- The drain of the manager sides has ended: every divided clock stops, and the fault windows pause (R430, R476). -/
def State.blkHalted (s : State) : State :=
  if !s.flag .DB_BLK 3 || !s.managersIdle then s
  else if !(s.blk = 1 ∨ s.blk = 2 ∨ s.blk = 3 ∨ s.blk = 4) then s
  else
    let now := s.now
    let s := { s with pausedWin := s.pausedWin ++ s.windows.map (fun (x : Nat × Nat) => (x.1, now - x.2)), windows := [] }
    (((s.enterBlk 7).setFlag .DB_BLK 3 false).setFlag .DB_BLK 2 true).settle 3

/-- The controllers rejoin their buses by integration; an attempt on the bus was lost (R373, R476). -/
def State.cansRejoin (s : State) : State :=
  { s with cans := s.cans.map (fun x => (x.1, { x.2 with joined := false, buf := none, abort := false })) }

/-- DB_BLK.RESUME (R477). -/
def State.blkResume (s : State) : WriteRes :=
  if s.blk ≠ 7 then s.stateRefused
  else
    let s := if s.flag .TB_STAT 0 then s.tmrCounting.stepTimebase (ceilDiv s.now 40 * 40) 0 else s.stepTimebase s.now 0
    let s := forEach (List.range 8) (fun g s => (s.detLost g 11).detLost g 1) s
    let s := (s.enterBlk (s.field .BLK_STATE 4 4)).setFlag .DB_BLK 2 false
    let now := s.now
    let s := { s with windows := s.windows ++ s.pausedWin.map (fun (x : Nat × Nat) => (x.1, now - x.2)), pausedWin := [] }
    let s := s.cansRejoin
    let s := forEach (List.range 4) (fun n s => if s.linkState n = 2 ∨ s.linkState n = 3 then s.linkTrain n else s) s
    let s := s.mgrIssue
    (s.settle 3, none)

/-- A write of DB_BLK. -/
def State.dbBlkWrite (s : State) (v : Word) : WriteRes :=
  if bit v 0 && bit v 1 then s.stateRefused
  else if bit v 0 then s.blkHalt
  else if bit v 1 then s.blkResume
  else (s, none)

/-! ### TAP (R467, R468) -/

/-- The next state of the IEEE 1149.1 state machine. -/
def tapNext (st : TapSt) (tms : Bool) : TapSt :=
  match st with
  | .reset => if tms then .reset else .idle
  | .idle => if tms then .selDr else .idle
  | .selDr => if tms then .selIr else .capDr
  | .capDr => if tms then .ex1Dr else .shDr
  | .shDr => if tms then .ex1Dr else .shDr
  | .ex1Dr => if tms then .updDr else .pauseDr
  | .pauseDr => if tms then .ex2Dr else .pauseDr
  | .ex2Dr => if tms then .updDr else .shDr
  | .updDr => if tms then .selDr else .idle
  | .selIr => if tms then .reset else .capIr
  | .capIr => if tms then .ex1Ir else .shIr
  | .shIr => if tms then .ex1Ir else .shIr
  | .ex1Ir => if tms then .updIr else .pauseIr
  | .pauseIr => if tms then .ex2Ir else .pauseIr
  | .ex2Ir => if tms then .updIr else .shIr
  | .updIr => if tms then .selDr else .idle

/-- Length of the data register that an instruction selects. -/
def drLen (ir : Nat) : Nat := if ir = 1 then 32 else if ir = 8 then 64 else 1

/-- What Capture-DR loads. -/
def drCapture (x : Tap) : DWord :=
  if x.ir = 1 then 0x35A3338B
  else if x.ir = 8 then BitVec.ofNat 64 (x.data.toNat * 2 ^ 32 + x.cause * 2 ^ 24 + x.result)
  else 0

/-- One bit shifted in at the far end of an `n`-bit register. -/
def shiftBit (v : DWord) (n : Nat) (b : Bool) : DWord := setBit (v >>> 1) (n - 1) b

/-- The rising edge of TCK in the present state: capture or shift. -/
def tapRise (x : Tap) (tdi : Bool) : Tap :=
  match x.st with
  | .capDr => { x with sh := drCapture x }
  | .shDr => { x with sh := shiftBit x.sh (drLen x.ir) tdi }
  | .capIr => { x with sh := 1 }
  | .shIr => { x with sh := shiftBit x.sh 4 tdi }
  | _ => x

/-- Update-DR with DBGACC: GO starts an access unless one runs (R468). -/
def tapGo (x : Tap) : Tap :=
  if x.ir = 8 ∧ bit x.sh 0 = true ∧ x.result ≠ 3 then
    { x with result := 3, acc := some (bit x.sh 1, 4 * fld x.sh 8 24, word (fld x.sh 32 32)) }
  else x

/-- One cycle of TCK: the rising edge acts in the present state, the falling edge in the next one. -/
def tapClock (x : Tap) (tms tdi : Bool) : Tap :=
  let y := { tapRise x tdi with st := tapNext x.st tms }
  match y.st with
  | .reset => { y with ir := 1 }
  | .updDr => tapGo y
  | .updIr => { y with ir := fld y.sh 0 4 }
  | .shDr | .shIr => { y with tdo := bit y.sh 0 }
  | _ => y

/-! ### Commands -/

/-- BLOCK_HALT_COMPLETE (R476). -/
def execBlockHaltComplete (s : State) : Out := .next s.blkHalted

/-- TRST_N_ASSERT (R467). -/
def execTrstNAssert (s : State) : Out := .next { s with tap := tapReset }

/-- TAP_TCK_EDGE (R467, R468). -/
def execTapTckEdge (tms tdi : Bool) (s : State) : Out :=
  .next (if s.clk.porst then s else { s with tap := tapClock s.tap tms tdi })

end Sys2Proof.Machine
end

