-- ==== Sys2Proof/Machine/Access.lean ====
section
/-! DEFINITION. Accesses to the block window: the checks of R259 in their order, what reads return and writes do, and the
accesses of the host ports, of threads through the setup window and the tile-control address, and of DBGACC. -/

namespace Sys2Proof.Machine

/-- How an access ends. -/
inductive Acc where
  | ok
  | decerr
  | refused (c : Cause)
deriving DecidableEq, Repr

/-! ### The sender -/

/-- The sender is a host port or DBGACC. -/
def srcHost (src : Src) : Bool := !srcThread src

/-- The port of a host port's access. -/
def srcPort : Src → Option Nat
  | .port p _ => some p
  | _ => none

/-- The access carries SEC = 1: threads and DBGACC always do (R113, R468). -/
def srcSec : Src → Bool
  | .port _ sec => sec
  | _ => true

/-- Where an offset leads for a sender: the DB page and the TZ2 window do not decode for threads (R113), and DB_VDATA does
not without the LVU. -/
def State.decodeFor (s : State) (src : Src) (o : Nat) : Target :=
  let t := match src with
    | .port p _ => decodeWindow s.build p o
    | .tap => decodeWindow s.build 0 o
    | .thread .. => if o < 0x40000 ∧ o / 0x1000 ≠ 0x39 ∧ o / 0x1000 ≠ 0x3F then decodeSetup s.build 0 (o / 4 * 4) else .decerr
  if t = .reg .DB_VDATA ∧ s.build.lvu = false then .decerr else t

/-! ### Steps 2 to 8 of R259 -/

/-- The TZ2 window is enabled for the sender. -/
def State.tz2On (s : State) (src : Src) : Bool :=
  match src with
  | .port p _ => s.flag .HP_TZ2CFG p
  | _ => false

/-- The access needs SEC = 1 (R262 and the chapters it names). -/
def State.needsSec (s : State) (o : Nat) (tgt : Target) (write : Bool) (v : Word) : Bool :=
  let page := o / 0x1000
  page == 0x39 || (write &&
    (page == 2 || page == 3 || page == 0x38 || decide (0x10 ≤ page ∧ page < 0x20) ||
      match tgt with
      | .reg .BLK_STATE => fld v 16 4 == 2
      | .reg .HP_SEMBRK | .reg .FD_CTL | .reg .FD_TCFG | .reg (.FD_LCTL _) | .reg .TB_ADJ => true
      | .reg .MI_CTL | .reg .MI_PEER | .reg .MI_STAT | .reg (.MI_DIGEST _) | .reg (.MI_PDIGEST _) | .reg .MI_DSCAN
      | .reg (.MI_ENGSHADOW _) => true
      | .reg (.GZ_CH c) => s.chSecure c
      | .reg (.GZ_TASK i) => s.taskSecure i v
      | _ => false))

/-- Step 4 fails: SEC is missing, or a thread other than thread 0 of the tile writes its tile or LV page (R102, R113). -/
def State.secureFails (s : State) (src : Src) (o : Nat) (tgt : Target) (write : Bool) (v : Word) : Bool :=
  match src with
  | .thread t n _ => write && decide (0x10 ≤ o / 0x1000 ∧ o / 0x1000 < 0x20) && !(n == 0 && o / 0x1000 % 8 == t)
  | _ => !srcSec src && s.needsSec o tgt write v

/-- Step 5 fails: an RWB field would change and the lock does not let this sender change it (R13, R62). -/
def State.lockFails (s : State) (src : Src) (r : Reg) (v : Word) : Bool :=
  ((s.rd r ^^^ v) &&& (regAccess r).rwb) != 0 && !(s.lockOpen && srcMaster src)

/-- Step 6 fails: the port has no write right for the page. -/
def State.rightsFail (s : State) (p page : Nat) : Bool := !s.flag (.HP_WRMASK p (page / 32)) (page % 32)

/-- Step 7 fails: the page is bound to a semaphore that the port does not hold (R267). -/
def State.boundFails (s : State) (p page : Nat) : Bool :=
  let b := s.field (.HP_PGBIND (page / 4)) (8 * (page % 4)) 8
  page != 1 && decide (128 ≤ b) && !(s.flag (.HP_SEM (b % 32)) 0 && s.field (.HP_SEM (b % 32)) 8 2 == p + 1)

/-- The first word of the backing area of port `p` (R273). -/
def State.mbBase (s : State) (p : Nat) : Nat := smBase + s.field .HP_TZ2CFG 2 14 * 1024 + 512 * p

/-- The target of step 8 is ready (R67): the units of R65 by page; a hole answers whatever the readiness (R16). -/
def State.targetReady (s : State) (o : Nat) (tgt : Target) : Bool :=
  match tgt with
  | .mem a => s.memIsReady a
  | .reg r =>
    let page := o / 0x1000
    if page = 4 ∨ page = 5 then s.ready 3 4
    else if page = 6 ∨ page = 7 then s.ready 3 5
    else if 0x10 ≤ page ∧ page < 0x20 then s.ready 2 (page % 8)
    else if 0x20 ≤ page ∧ page < 0x28 then s.ready 1 (4 * (page % 8) + o % 0x800 / 0x40 / 8)
    else if 0x30 ≤ page ∧ page < 0x34 then r == .CN_DOMCTL || s.ready 2 (16 + (o - 0x30000) / 0x400)
    else if 0x34 ≤ page ∧ page < 0x36 then r == .FD_CTL || (s.pd 3).phase == .on
    else match r with
      | .MB p _ => s.memIsReady (s.mbBase p)
      | _ => true
  | _ => true

/-- Steps 1 to 8 for a read of the register at a word offset, or of a memory. -/
def State.readCheck (s : State) (src : Src) (o : Nat) : Acc :=
  let tgt := s.decodeFor src o
  if tgt = .decerr then .decerr
  else if o / 0x1000 = 0x3F ∧ s.tz2On src = false then .refused .tz2off
  else if s.secureFails src o tgt false 0 then .refused .secure
  else if !s.targetReady o tgt then .refused .notready
  else .ok

/-- Steps 1 to 8, but for step 3, for a write of the register at a word offset. -/
def State.writeCheck (s : State) (src : Src) (o : Nat) (v : Word) : Acc :=
  let tgt := s.decodeFor src o
  let page := o / 0x1000
  if tgt = .decerr then .decerr
  else if page = 0x3F ∧ s.tz2On src = false then .refused .tz2off
  else if s.secureFails src o tgt true v then .refused .secure
  else if (match tgt with | .reg r => s.lockFails src r v | _ => false) then .refused .locked
  else if (match src with | .port p _ => decide (o < 0x40000) && s.rightsFail p page | _ => false) then .refused .rights
  else if (match src with | .port p _ => decide (o < 0x40000) && s.boundFails p page | _ => false) then .refused .bound
  else if !s.targetReady o tgt then .refused .notready
  else .ok

/-! ### Reads -/

/-- HP_SEMSUM: the semaphores that are held. -/
def State.semSum (s : State) : Word := word ((List.range 32).foldl (fun a n => if s.flag (.HP_SEM n) 0 then a + 2 ^ n else a) 0)

/-- AP_STAT with OVER, B and U (R439, R442). -/
def State.apStat (s : State) : Word :=
  setFld (setFld (setBit (s.rd .AP_STAT) 31 (decide (s.apBudget < s.apUse))) 16 10 s.apBudget) 0 10 s.apUse

/-- A word whose bit `j` tells of fault record 32 i + j. -/
def State.faultBits (s : State) (i b : Nat) : Word :=
  word ((List.range 32).foldl (fun a j => if s.flag (.FC_SSTAT (32 * i + j)) b then a + 2 ^ j else a) 0)

/-- TM_STAT with LEVEL and CAPNEW. -/
def State.tmStat (s : State) (n : Nat) : Word :=
  setBit (setBit (setBit (s.rd (.TM_STAT n)) 9 (s.tmLevel n)) 4 (!(s.timer n).rise.isEmpty)) 5 (!(s.timer n).fall.isEmpty)

/-- TL_SLOTMAP[i] with the entry of the active map. -/
def State.slotMapRead (s : State) (t i : Nat) : Word :=
  let e := (s.tile t).activeMap.getD i (0, 0)
  setFld (setFld (s.rd (.TL_SLOTMAP t i)) 14 2 e.1) 8 4 e.2

/-- RG_STAT with CQWAIT and PREF. -/
def State.ringStat (s : State) (p r : Nat) : Word :=
  setFld (setBit (s.rd (.RG_STAT p r)) 29 (s.rgHeld p r)) 0 5 (s.ring p r).pref.length

/-- FE_STAT with the FIFO levels. -/
def State.feStat (s : State) (t e : Nat) : Word :=
  setFld (setFld (s.rd (.FE_STAT t e)) 20 4 (s.engine t e).tx.length) 16 4 (s.engine t e).rx.length

/-- The value a register shows, for those that are computed from other state. -/
def State.shown (s : State) (r : Reg) : Word :=
  match r with
  | .BLK_CONFIG => word (s.build.can * 2 ^ 12 + s.build.lvu.toNat * 2 ^ 8 + s.build.tilesLog2)
  | .HP_SEMSUM => s.semSum
  | .AP_STAT => s.apStat
  | .AP_PSTAT => setFld (s.rd r) 24 8 ((List.range 8).foldl (fun a t => if s.tileGated t then a + 2 ^ t else a) 0)
  | .FC_STAT i => s.faultBits i 31
  | .FC_ACK i => s.faultBits i 27
  | .TM_STAT n => s.tmStat n
  | .TM_CAPRISE n => ((s.timer n).rise.head?).getD 0
  | .TM_CAPFALL n => (((s.timer n).fall.head?).map (·.1)).getD 0
  | .SC_OWNDATA => word (s.ownAt (s.field .SC_OWNPTR 0 18)).toNat
  | .TL_SLOTMAP t i => s.slotMapRead t i
  | .TH_STAT t n => setBit (s.rd r) 9 (s.reserved t n).isSome
  | .FE_STAT t e => s.feStat t e
  | .FE_PROG t e i => mget (s.engine t e).prog 0 (16 * s.field (.FE_CTL t e) 2 1 + i)
  | .RG_STAT p r => s.ringStat p r
  | .CN_GTLO c => word (s.canGlobal c)
  | .CN_GTHI c => word (s.canGlobal c / 2 ^ 32)
  | .DB_THALT t => s.thaltRead t
  | _ => s.rd r

/-- Read a register: a POP register is popped when `pop` holds (R15, R258); a mailbox register is read in its backing
word (R273). -/
def State.readReg (s : State) (pop : Bool) (r : Reg) : State × Except Cause Word :=
  match r with
  | .TM_CAPRISE n => if pop then ((s.popRise n).1, .ok (s.popRise n).2) else (s, .ok (s.shown r))
  | .TM_CAPFALL n => if pop then ((s.popFall n).1, .ok (s.popFall n).2) else (s, .ok (s.shown r))
  | .DB_GREG _ | .DB_BITST | .DB_VDATA => (s, s.dbRead r)
  | .MB p i =>
    match s.dmaRead (s.mbBase p + 4 * i) 4 with
    | (s, .ok bs) => (s, .ok (word (ofLeBytes bs)))
    | (s, .error c) => (s, .error c)
  | _ => (s, .ok (s.shown r))

/-- A read of the register at a word offset by a sender. -/
def State.readAt (s : State) (src : Src) (o : Nat) (pop : Bool) : State × Acc × Word :=
  match s.readCheck src o with
  | .ok =>
    match s.decodeFor src o with
    | .reg r =>
      match s.readReg pop r with
      | (s, .ok v) => (s, .ok, v)
      | (s, .error c) => (s, .refused c, 0)
    | _ => (s, .ok, 0)
  | a => (s, a, 0)

/-! ### Register writes (R12 to R14) -/

/-- The bits of a register that the build has: those of absent tiles in SC_MEMBER are reserved (R12). -/
def State.present (s : State) : Reg → Word
  | .SC_MEMBER _ i => (if s.hasTile (2 * i) then 0xFFFF else 0) ||| (if s.hasTile (2 * i + 1) then 0xFFFF0000 else 0)
  | _ => 0xFFFFFFFF

/-- The value a register holds after a write under its access codes: RW and RWB fields take the written value, a 1 clears
a W1C bit, the rest keeps. -/
def State.merge (s : State) (r : Reg) (v : Word) : Word :=
  let a := regAccess r
  let m := (a.rw ||| a.rwb) &&& s.present r
  ((s.rd r &&& ~~~m) ||| (v &&& m)) &&& ~~~(v &&& a.w1c)

/-- A port acquires or releases a semaphore (R265); a thread's or DBGACC's write is refused. -/
def State.semWrite (s : State) (src : Src) (n : Nat) (v : Word) : WriteRes :=
  match src with
  | .port p _ =>
    let own := s.flag (.HP_SEM n) 0 && s.field (.HP_SEM n) 8 2 == p + 1
    if bit v 0 then
      (if own then (s, none)
       else if s.flag (.HP_SEM n) 0 then (s, some .semaphore)
       else (s.wr (.HP_SEM n) (word (256 * (p + 1) + 1)), none))
    else if own then ((s.wr (.HP_SEM n) 0).allEvents 20, none)
    else (s, some .semaphore)
  | _ => s.stateRefused

/-- HP_SEMBRK (R266). -/
def State.semBreak (s : State) (src : Src) (v : Word) : WriteRes :=
  if srcThread src then s.stateRefused
  else (forEach (setBits v 32) (fun n s => if s.flag (.HP_SEM n) 0 then (s.wr (.HP_SEM n) 0).allEvents 20 else s) s, none)

/-- A write of a mailbox register: the backing word, the notice count, the Gauze pulse (R273). -/
def State.mailWrite (s : State) (p i : Nat) (v : Word) : WriteRes :=
  match s.dmaWrite (s.mbBase p + 4 * i) (leBytes 4 v.toNat) with
  | (s, some c) => (s, some c)
  | (s, none) =>
    let n := s.rd (.MBCOUNT p i) + 1
    let s := s.wr (.MBCOUNT p i) n
    (((s.dmaWrite (s.mbBase p + 4 * (64 + i)) (leBytes 4 n.toNat)).1).sourcePulse (506 + p), none)

/-- SM_CLRREQ (R253): the whole write acts, or it is refused and REFUSED sets. -/
def State.clrReqWrite (s : State) (v : Word) : WriteRes :=
  if s.clrReqRefused v then (s.setFlag .SM_PDSTAT 0 true, some .state)
  else (forEach (setBits v 32) (fun b s => s.clearBank b) s, none)

/-- SM_PDCTL (R253). -/
def State.pdWrite (s : State) (v : Word) : WriteRes :=
  if s.pdCtlRefused v then (s.setFlag .SM_PDSTAT 0 true, some .state) else (s.pdCtlWrite v, none)

/-- A program word written while management services are paused counts as a change of its engine (R462). -/
def State.progWrite (s : State) (t e i : Nat) (v : Word) : WriteRes :=
  match s.feProgWrite t e i v with
  | (s, some c) => (s, some c)
  | (s, none) =>
    (if s.upd.paused && !s.upd.changed.contains (t, e) then s.setUpd { s.upd with changed := s.upd.changed ++ [(t, e)] } else s, none)

/-- Registers of the BLK, HP, AP and FC pages whose write does more than R12 says. -/
def State.writeBase (s : State) (src : Src) (r : Reg) (v : Word) : WriteRes :=
  let m := s.merge r v
  match r with
  | .BLK_STATE => s.blkStateWrite src v
  | .BLK_BOOTDONE => s.bootDoneWrite src v
  | .BLK_BOOTPTR i => s.bootPtrWrite i m
  | .HP_CTL p => s.hpCtlWrite p v
  | .HP_SEM n => s.semWrite src n v
  | .HP_SEMBRK => s.semBreak src v
  | .AP_CFG => s.apCfgWrite m
  | .AP_PCTL => s.apPctlWrite (srcHost src) v
  | .AP_TILEEN => s.tileEnWrite v
  | .AP_RSV g => s.apRsvWrite g v
  | .FC_CFG | .FC_RSTAT => s.fcOutWrite r m
  | .FC_RCTL => s.fcRctlWrite v
  | .FC_STAT i => s.fcStatWrite i v
  | .FC_ACK i => s.fcAckWrite i v
  | .FC_HVEC p 3 => s.vecCtlWrite p (.FC_HVEC p 0) (.FC_HVEC p 1) (.FC_HVEC p 2) r 0x80000001 v
  | .FC_SCFG n => s.fcScfgWrite n (setBit m 31 (bit v 31))
  | _ => (s.wr r m, none)

/-- Registers of the GZ, TM, TB, SC and SM pages. -/
def State.writeFabric (s : State) (src : Src) (r : Reg) (v : Word) : WriteRes :=
  let m := s.merge r v
  match r with
  | .GZ_CHFLAG i => s.gzFlagWrite i (srcPort src) (srcSec src) v
  | .GZ_PINSEL i => s.gzPinselWrite i m
  | .GZ_CH _ | .GZ_TTGT _ | .GZ_TASK _ => s.gzConfWrite (srcPort src) [(r, m)]
  | .TM_CTL n => s.tmCtlWrite n m
  | .TM_PRESC n => s.tmPrescWrite n m
  | .TM_ROUTE n => s.tmRouteWrite n m
  | .TM_CNT_LO n => s.tmCntWrite n false m
  | .TM_CNT_HI n => s.tmCntWrite n true m
  | .TM_PERIOD n => s.tmShadowWrite n false m
  | .TM_MATCH n => s.tmShadowWrite n true m
  | .TB_ADJ => s.tbAdjWrite v
  | .TB_CMP n i => s.cmpWrite n i m
  | .TM_GSTART i => s.tmGroupRun i true v
  | .TM_GSTOP i => s.tmGroupRun i false v
  | .SC_IMGBASE => s.layoutWrite false m
  | .SC_IMGSIZE => s.layoutWrite true m
  | .SC_OWNPTR => s.ownPtrWrite m
  | .SC_OWNDATA => s.ownDataWrite v
  | .SC_OWNFILL => s.ownFillWrite v
  | .SC_GCTL g => s.gctlWrite g v
  | .SC_PERIOD g | .SC_OFFSET g | .SC_PHASE g | .SC_FREEZELAT g | .SC_ISLICE g | .SC_QSLICE g | .SC_MSLICE g
  | .SC_MEMBER g _ | .SC_PBASE g | .SC_PBSIZE g => s.groupCfgWrite g r m
  | .SC_EDITCTL g => s.editCtlWrite g v
  | .SC_EDITTGT g i => s.editTgtWrite g i m
  | .SM_PDCTL => s.pdWrite v
  | .SM_CLRREQ => s.clrReqWrite v
  | _ => (s.wr r m, none)

/-- Registers of the TL, TH, LV and FE pages. -/
def State.writeTile (s : State) (src : Src) (r : Reg) (v : Word) : WriteRes :=
  let m := s.merge r v
  match r with
  | .TL_CTL t => s.tlCtlWrite t (srcHost src) v
  | .TL_HWROUTE t => s.hwRouteWrite t m
  | .TL_ENGGRP t => s.engGrpWrite t v
  | .TL_GZFIRE t => s.gzFire t v
  | .TL_FCACK _ => s.tlFcackWrite v
  | .TH_CTL t n | .TH_PC t n | .TH_HWINHI t n | .TH_HWIN t n _ => s.thWrite t n r m
  | .LV_CTL t => s.lvCtlWrite t m
  | .FE_CTL t e => s.feCtlWrite t e v
  | .FE_CFG t e => s.feCfgWrite t e 2 m
  | .FE_PINS t e => s.feCfgWrite t e 3 m
  | .FE_CLK t e => s.feCfgWrite t e 4 m
  | .FE_CMP t e => s.feCfgWrite t e 5 m
  | .FE_CMPMASK t e => s.feCfgWrite t e 6 m
  | .FE_CNT t e => s.feCfgWrite t e 7 m
  | .FE_IDLEPAT t e => s.feCfgWrite t e 8 m
  | .FE_PAT t e => s.feCfgWrite t e 9 m
  | .FE_SEG t e => s.feCfgWrite t e 10 m
  | .FE_SIO t e => s.feCfgWrite t e 11 m
  | .FE_PROG t e i => s.progWrite t e i v
  | _ => (s.wr r m, none)

/-- Registers of the RG, CN, FD, MI, UP, DB and MB pages. -/
def State.writeLink (s : State) (r : Reg) (v : Word) : WriteRes :=
  let m := s.merge r v
  match r with
  | .RG_CFG p q => s.rgCfgWrite p q m
  | .RG_BASE p q _ | .RG_FLOW p q | .RG_TARGET p q | .RG_CI p q => s.rgConfWrite p q r m
  | .RG_CQCFG p q => s.cqCfgWrite p q m
  | .RG_CQBASE p q i => s.cqBaseWrite p q i m
  | .RG_PCTL p => s.pctlWrite p m
  | .RG_SUMADDR p _ | .RG_DBBASE p _ => s.pollAddrWrite p r m
  | .RG_VECCTL p n => s.vecCtlWrite p (.RG_VECADDR p n 0) (.RG_VECADDR p n 1) (.RG_VECDATA p n) r 1 v
  | .CN_CTL c => s.canCtlWrite c m
  | .CN_NBT c => s.bitTimingWrite c false m
  | .CN_DBT c => s.bitTimingWrite c true m
  | .CN_MAPCMD c => s.mapCmdWrite c v
  | .CN_TXREQ c => s.txReqWrite c (fld v 0 14)
  | .CN_TXABORT c => s.txAbortWrite c (fld v 0 14)
  | .CN_TTCFG c => s.ttCfgWrite c m
  | .CN_DOMCTL => s.domCtlWrite m
  | .FD_CTL => s.fdCtlWrite v
  | .FD_LCTL n => s.lctlWrite n m
  | .FD_PUB i w => s.pubWrite i w m
  | .FD_SUB j w => s.subWrite j w m
  | .MI_CTL => s.miCtlWrite (v &&& 0xF00000FF)
  | .MI_PEER => s.miPeerWrite m
  | .MI_ENGSHADOW _ => if s.flag .MI_CTL 31 then s.stateRefused else (s.wr r m, none)
  | .UP_CMD => s.upCmdWrite v
  | .UP_MBOX => s.mboxWrite m
  | .UP_MBOXRD => ((s.wr r m).mgmtRetry, none)
  | .DB_BLK => s.dbBlkWrite v
  | .DB_GREG _ | .DB_BITST | .DB_VDATA => s.dbWrite r v
  | .DB_CHABORT => s.chAbortWrite v
  | .DB_THALT t => s.thaltWrite t v
  | .DB_TRES t => s.tresWrite t v
  | .DB_TSTEP t => s.tstepWrite t v
  | .DB_TILE t => s.dbTileWrite t v
  | .MB p i => s.mailWrite p i v
  | _ => (s.wr r m, none)

/-- Step 9 and the effect of a write of register `r`, which lies on page `page`. -/
def State.regWrite (s : State) (src : Src) (page : Nat) (r : Reg) (v : Word) : WriteRes :=
  if page < 4 then s.writeBase src r v
  else if page < 0x10 then s.writeFabric src r v
  else if page < 0x28 then s.writeTile src r v
  else s.writeLink r v

/-- A write of the register at a word offset, all its checks included. -/
def State.writeAt (s : State) (src : Src) (o : Nat) (v : Word) : State × Acc :=
  match s.writeCheck src o v with
  | .ok =>
    match s.decodeFor src o with
    | .reg r =>
      match s.regWrite src (o / 0x1000) r v with
      | (s, none) => (s, .ok)
      | (s, some c) => (s, .refused c)
    | .legacy p k =>
      match s.legacyWrite p k v with
      | (s, none) => (s, .ok)
      | (s, some c) => (s, .refused c)
    | _ => (s, .ok)
  | a => (s, a)

/-- Two words of one beat that R470 refuses together: HALT with RESUME or STEP of one thread. -/
def pairRefused (a b : Target) (va vb : Word) : Bool :=
  match a, b with
  | .reg (.DB_THALT _), .reg (.DB_TRES _) => fld (va &&& vb) 0 16 != 0
  | .reg (.DB_TSTEP _), .reg (.DB_TILE _) => fld va 0 16 != 0 && bit vb 0
  | _, _ => false

/-- The two words of a beat that both belong to the configuration of Gauze, which is checked as a whole (R343). -/
def State.gzPair (s : State) (a b : Target) (va vb : Word) : Option (List (Reg × Word)) :=
  match a, b with
  | .reg x, .reg y => if gzConfReg x && gzConfReg y then some [(x, s.merge x va), (y, s.merge y vb)] else none
  | _, _ => none

/-- A write of both registers of a beat (R258): each is judged in the state before; if either fails the whole write does,
with the cause of the lower; else both act. -/
def State.writePair (s : State) (src : Src) (o : Nat) (vl vh : Word) : State × Acc :=
  let a := s.writeAt src o vl
  let b := s.writeAt src (o + 4) vh
  if a.2 ≠ .ok then a
  else if b.2 ≠ .ok then b
  else if pairRefused (s.decodeFor src o) (s.decodeFor src (o + 4)) vl vh then (s, .refused .state)
  else match s.gzPair (s.decodeFor src o) (s.decodeFor src (o + 4)) vl vh with
  | some ws =>
    match s.gzConfWrite (srcPort src) ws with
    | (s, none) => (s, .ok)
    | (s, some c) => (s, .refused c)
  | none =>
    let x := b.1.writeAt src o vl
    if x.2 = .ok then x
    else
      let y := a.1.writeAt src (o + 4) vh
      if y.2 = .ok then y
      else match s.decodeFor src o with
        | .reg r => (b.1.wr r (s.merge r vl), .ok)
        | _ => (b.1, .ok)

/-! ### Accesses to memories -/

/-- The runs of bytes of a beat whose strobes are 1: first byte and length. -/
def strobeRuns (strb : BitVec 8) : List (Nat × Nat) :=
  ((List.range 8).filter (fun i => bit strb i && (i == 0 || !bit strb (i - 1)))).map (fun i =>
    (i, ((List.range (8 - i)).takeWhile (fun k => bit strb (i + k))).length))

/-- A write of the strobed bytes of a beat of a memory: all of it, or none (R196, R230, R251, R258). -/
def State.memWrite (s : State) (a : Nat) (data : DWord) (strb : BitVec 8) : State × Acc :=
  if canBase ≤ a then
    match (s.openMem a).canObjWrite a data strb with
    | (s, none) => (s, .ok)
    | (s, some c) => (s, .refused c)
  else
    let runs := strobeRuns strb
    let bytes := fun (x : Nat × Nat) => leBytes x.2 (fld data (8 * x.1) (8 * x.2))
    match (runs.filterMap (fun x => s.dmaWriteRefusal (a + x.1) x.2)).head? with
    | some c => (s, .refused c)
    | none =>
      let s := (s.openMem a).promoteRange a 8
      let part := [0, 1].filter (fun i => fld strb (4 * i) 4 != 0 && fld strb (4 * i) 4 != 15)
      let all := [0, 1].filter (fun i => fld strb (4 * i) 4 != 0)
      let r := s.eccTouch (part.map (fun i => s.phys (a + 4 * i))) (all.map (fun i => s.phys (a + 4 * i))) true
      if !r.2 then (r.1, .refused .ecc) else (forEach runs (fun x s => s.dmaPut (a + x.1) (bytes x)) r.1, .ok)

/-! ### Requests of the host ports (R257 to R261) -/

/-- The subordinate sides answer: their clock runs and MAIN is out of reset (R29, R36). -/
def State.portsServe (s : State) : Bool := s.clk.running && !s.clk.held && s.entry.isNone

/-- Give port `p` the response of a request. -/
def State.answer (s : State) (p addr : Nat) (write : Bool) (a : Acc) (d : Option DWord) : State :=
  match a with
  | .ok => s.respond p .okay d
  | .decerr => s.decErr p
  | .refused c => s.refuse p addr write c

/-- A subordinate read: the register that ADDR names decides the response, the other one of the beat reads along. -/
def State.portRead (s : State) (p : Nat) (sec : Bool) (addr : Nat) : State :=
  let src := Src.port p sec
  let o := addr / 8 * 8
  match s.decodeFor src (addr / 4 * 4) with
  | .mem a =>
    match s.readCheck src addr with
    | .ok =>
      match s.dmaRead (a / 8 * 8) 8 with
      | (s, .ok bs) => s.answer p addr false .ok (some (BitVec.ofNat 64 (ofLeBytes bs)))
      | (s, .error c) => s.refuse p addr false c
    | x => s.answer p addr false x none
  | _ =>
    let hi := addr / 4 % 2 == 1
    let r := s.readAt src (addr / 4 * 4) true
    let other := (r.1.readAt src (if hi then o else o + 4) false).2.2
    let d := if hi then r.2.2.toNat * 2 ^ 32 + other.toNat else other.toNat * 2 ^ 32 + r.2.2.toNat
    r.1.answer p addr false r.2.1 (some (BitVec.ofNat 64 d))

/-- The strobes of a word cover its register in part (R258); a word with no register has nothing to cover (R16). -/
def State.strobedInPart (s : State) (src : Src) (o strb : Nat) : Bool :=
  strb != 0 && strb != 15 && s.decodeFor src o != .hole

/-- What a register holds, as the value of a write that changes nothing. -/
def State.present? (s : State) : Target → Word
  | .reg r => s.rd r
  | _ => 0

/-- A subordinate write of a beat with its strobes (R258). A write with no strobe passes the checks of R259 for the register
that ADDR names, and writes nothing. -/
def State.beatWrite (s : State) (src : Src) (addr : Nat) (data : DWord) (strb : BitVec 8) : State × Acc :=
  let o := addr / 8 * 8
  let lo := fld strb 0 4
  let hi := fld strb 4 4
  let vl := word (fld data 0 32)
  let vh := word (fld data 32 32)
  match s.decodeFor src o with
  | .mem a =>
    (match s.writeCheck src o 0 with
     | .ok => s.memWrite a data strb
     | x => (s, x))
  | tgt =>
    if tgt = .decerr ∧ s.decodeFor src (o + 4) = .decerr then (s, .decerr)
    else if o / 0x1000 = 0x3F ∧ s.tz2On src = false then (s, .refused .tz2off)
    else if s.strobedInPart src o lo || s.strobedInPart src (o + 4) hi then (s, .refused .partialStrobe)
    else if lo != 0 && hi != 0 then s.writePair src o vl vh
    else if lo != 0 then s.writeAt src o vl
    else if hi != 0 then s.writeAt src (o + 4) vh
    else (s, s.writeCheck src (addr / 4 * 4) (s.present? (s.decodeFor src (addr / 4 * 4))))

/-- A subordinate write with its response. -/
def State.portWrite (s : State) (p : Nat) (sec : Bool) (addr : Nat) (data : DWord) (strb : BitVec 8) : State :=
  let r := s.beatWrite (.port p sec) addr data strb
  r.1.answer p addr true r.2 none

/-! ### Writes of both ports in one FABCLK cycle (R264, R265) -/

/-- Port `p` loses a free semaphore that both ports acquire in one cycle: port A takes an even one, port B an odd one
(R265). -/
def State.semLost (s : State) (p addr : Nat) (a b : PortBeat) : Bool :=
  let k := 1 - p
  let ask := fun (w : PortBeat) => fld w.strb (4 * k) 4 == 15 && bit w.data (32 * k)
  ask a && ask b && (match s.decodeFor (.port p true) (addr / 8 * 8 + 4 * k) with
    | .reg (.HP_SEM n) => !s.flag (.HP_SEM n) 0
    | _ => false)

/-- The outcome of the write of port `p` under the checks, judged before the cycle. -/
def State.tiedAcc (s : State) (p addr : Nat) (a b : PortBeat) : Acc :=
  if s.semLost p addr a b then .refused .semaphore
  else let w := if p = 0 then a else b
    (s.beatWrite (.port p w.sec) addr w.data w.strb).2

/-- Word `k` of a beat as port `p` writes it. -/
def State.tiedWord (s : State) (p addr k : Nat) (w : PortBeat) : State :=
  if fld w.strb (4 * k) 4 = 15 then
    let x := s.writeAt (.port p w.sec) (addr / 8 * 8 + 4 * k) (word (fld w.data (32 * k) 32))
    if x.2 = .ok then x.1 else s
  else s

/-- Both ports write one beat of the setup region in one cycle: of each register the loser acts first and the winner second,
port A winning where bit 2 of the offset is 0 (R264). A write that a check refuses does not act. In memory, which both ports
never meet in one cycle, port A's write comes first (R246). -/
def State.tiedWrite (s : State) (addr : Nat) (a b : PortBeat) : State :=
  if addr < 0x40000 then
    let ra := s.tiedAcc 0 addr a b
    let rb := s.tiedAcc 1 addr a b
    let u := match ra, rb with
      | .ok, .ok => (((s.tiedWord 1 addr 0 b).tiedWord 0 addr 0 a).tiedWord 0 addr 1 a).tiedWord 1 addr 1 b
      | .ok, _ => (s.beatWrite (.port 0 a.sec) addr a.data a.strb).1
      | _, .ok => (s.beatWrite (.port 1 b.sec) addr b.data b.strb).1
      | _, _ => s
    (u.answer 0 addr true ra none).answer 1 addr true rb none
  else (s.portWrite 0 a.sec addr a.data a.strb).portWrite 1 b.sec addr b.data b.strb

/-- The write of port `p` and that of the other port in the same cycle. -/
def State.portTie (s : State) (p addr : Nat) (w o : PortBeat) : State :=
  if p = 0 then s.tiedWrite addr w o else s.tiedWrite addr o w

/-! ### Accesses of threads (R102, R113) -/

/-- A store by a thread to the setup region: the detail and REFCAUSE of the PROT that it raises, if it does. The record SHM of
a member's access comes after the write, so that it wins over a clear of SC_DETLOST by the same store (R17, R226). -/
def State.threadWrite (s : State) (t n : Nat) (viaTile : Bool) (o : Nat) (v : Word) : State × Option (Nat × Nat) :=
  let note := fun (x : State) => if viaTile then x else forEach (s.groupsOf t n) (fun g x => x.detLost g 4) x
  if viaTile && n != 0 then (note s, some (4, 0))
  else if !viaTile && n != 0 && !s.flag (.TH_WPERM t n) 14 then (note s, some (1, 0))
  else match s.writeAt (.thread t n viaTile) o v with
    | (s, .ok) => (note s, none)
    | (s, .decerr) => (note s, some (1, 0))
    | (s, .refused c) => (note s, some (if c = .notready then (2, 0) else (5, c.code)))

/-- A load by a thread from the setup region: its word, or the detail and REFCAUSE of the PROT. -/
def State.threadRead (s : State) (t n : Nat) (viaTile : Bool) (o : Nat) : State × Except (Nat × Nat) Word :=
  let tb := o == 0x7000 || o == 0x7004
  let s := if viaTile then s else s.detLostBy t n (if tb then 3 else 4)
  match s.readAt (.thread t n viaTile) o true with
  | (s, .ok, v) => (s, .ok v)
  | (s, .decerr, _) => (s, .error (1, 0))
  | (s, .refused c, _) => (s, .error (if c = .notready then (2, 0) else (5, c.code)))

/-- A core fault with what it leaves to the scan groups of the tile's members. -/
def State.stopTile (s : State) (t n cause detail refc : Nat) (pc addr : Word) : State :=
  (s.coreFault t n cause detail refc pc addr).threadsChanged

/-- A core fault that is detected in a CORECLK cycle. -/
def State.stopOn (s : State) (t n cycle cause detail refc : Nat) (pc addr : Word) : State :=
  let u := s.stopTile t n cause detail refc pc addr
  u.setTile t { u.tile t with faultAt := some cycle }

/-- Another thread of a stopped tile meets a core fault: on the edge of the recorded fault MULTI sets, and the record is that
of the lower-numbered thread (R96). -/
def State.faultToo (s : State) (t n cycle cause : Nat) (pc addr : Word) : State :=
  let m := s.field (.TL_FREC t 0) 16 4
  if (s.tile t).faultAt ≠ some cycle ∨ n = m then s
  else
    let s := if n < m then
      ((s.wr (.TL_FREC t 0) (word (2 ^ 31 + s.field (.TL_FREC t 0) 29 1 * 2 ^ 29 + n * 2 ^ 16 + cause * 2 ^ 8))).wr
        (.TL_FREC t 1) pc).wr (.TL_FREC t 2) addr
      else s
    s.setFlag (.TL_FREC t 0) 30 true

/-! ### One register write by any sender -/

/-- The sender exists, and the offset is one it can name. -/
def State.srcOk (s : State) (src : Src) (o : Nat) : Bool :=
  match src with
  | .port p _ => decide (p < 2 ∧ o < 0x4000000)
  | .thread t n viaTile => s.hasThread t n && decide (o < 0x40000) && (!viaTile || o / 0x1000 == 0x10 + t)
  | .tap => decide (o < 0x4000000)

/-- The write of one 32-bit word at an offset by a sender, with its response or, for a thread, the fault of a refusal
(R102, R113, R257, R468). A sender that is not served, or a thread that does not execute, writes nothing. -/
def State.busWrite (s : State) (src : Src) (o : Nat) (v : Word) : State :=
  match src with
  | .port p sec =>
    if !s.portsServe then s
    else
      let data : DWord := BitVec.ofNat 64 (if o / 4 % 2 = 1 then v.toNat * 2 ^ 32 else v.toNat)
      s.portWrite p sec o data (if o / 4 % 2 = 1 then 0xF0 else 0x0F)
  | .thread t n viaTile =>
    if !s.portsServe || s.thState t n != 1 then s
    else match s.threadWrite t n viaTile o v with
      | (s, none) => s
      | (s, some d) =>
        s.stopTile t n 2 d.1 d.2 (s.rd (.TH_PC t n)) (word ((if viaTile then 0x0F000000 + o % 0x1000 else 0x08000000 + o)))
  | .tap =>
    if !s.portsServe then s
    else
      let r := s.beatWrite .tap o (BitVec.ofNat 64 (if o / 4 % 2 = 1 then v.toNat * 2 ^ 32 else v.toNat))
        (if o / 4 % 2 = 1 then 0xF0 else 0x0F)
      match r.2 with
      | .ok => r.1.respond 2 .okay none
      | .decerr => r.1.decErr 2
      | .refused c => r.1.respond 2 .refused (some (BitVec.ofNat 64 c.code))

/-- A read of one 32-bit word by DBGACC. -/
def State.tapRead (s : State) (o : Nat) : State × Acc × Word :=
  match s.decodeFor .tap o with
  | .mem a =>
    match s.readCheck .tap o with
    | .ok =>
      match s.dmaRead a 4 with
      | (s, .ok bs) => (s, .ok, word (ofLeBytes bs))
      | (s, .error c) => (s, .refused c, 0)
    | x => (s, x, 0)
  | _ => s.readAt .tap o true

/-- The write of register `r` by a sender, as a command of its own: the register's indices are those of the maximum
build; an absent part answers as R6 says. -/
def State.regRow (s : State) (src : Src) (r : Reg) (v : Word) : Out :=
  match regOffset r with
  | none => .fault .noSuchPart
  | some o => guarded (s.srcOk src o && decide (decodeSetup ⟨3, true, 16⟩ (match r with | .MB p _ => p | _ => 0) o = .reg r))
      (s.busWrite src o v)

end Sys2Proof.Machine
end

