-- ==== Sys2Proof/Machine/AccessRows.lean ====
section
/-! DEFINITION. The commands that access the block window: requests of the ports, single register writes by their names,
and DBGACC. -/

namespace Sys2Proof.Machine

/-! ### Requests -/

/-- REGISTER_WRITE (R14): a write of one 32-bit word at an offset. -/
def execRegisterWrite (src : Src) (off : Nat) (v : Word) (s : State) : Out :=
  guarded (s.srcOk src off && decide (off % 4 = 0)) (s.busWrite src off v)

/-- SUBORDINATE_READ (R257). -/
def execSubordinateRead (p : Nat) (sec : Bool) (addr : Nat) (s : State) : Out :=
  guarded (s.srcOk (.port p sec) addr) (if s.portsServe then s.portRead p sec addr else s)

/-- SUBORDINATE_WRITE (R258, R264): with `tie`, the other port writes the same beat in the same FABCLK cycle. -/
def execSubordinateWrite (p : Nat) (sec : Bool) (addr : Nat) (data : WriteData) (strb : BitVec 8) (s : State) : Out :=
  guarded (s.srcOk (.port p sec) addr) (if !s.portsServe then s else match data.tie with
    | none => s.portWrite p sec addr data.data strb
    | some o => s.portTie p addr ⟨sec, data.data, strb⟩ o)

/-- A read of one 32-bit word at an offset by a sender. -/
def State.busRead (s : State) (src : Src) (o : Nat) : State :=
  if !s.portsServe then s
  else match src with
  | .port p sec => s.portRead p sec o
  | .thread t n viaTile =>
    if s.thState t n != 1 then s
    else match s.threadRead t n viaTile o with
      | (s, .ok _) => s
      | (s, .error d) => s.stopTile t n 2 d.1 d.2 (s.rd (.TH_PC t n)) (word (if viaTile then 0x0F000000 + o % 0x1000 else 0x08000000 + o))
  | .tap =>
    match s.tapRead o with
    | (s, .ok, v) => s.respond 2 .okay (some (BitVec.ofNat 64 v.toNat))
    | (s, .decerr, _) => s.decErr 2
    | (s, .refused c, _) => s.respond 2 .refused (some (BitVec.ofNat 64 c.code))

/-- DEBUG_STATE_ACCESS (R471): a read or a write of the DB page. -/
def execDebugStateAccess (src : Src) (off : Nat) (write : Bool) (v : Word) (s : State) : Out :=
  guarded (s.srcOk src off && decide (0x39000 ≤ off ∧ off < 0x3A000 ∧ off % 4 = 0))
    (if write then s.busWrite src off v else s.busRead src off)

/-- DBGACC_UPDATE (R468): the access that GO started ends, with its result for the next Capture-DR. -/
def execDbgaccUpdate (s : State) : Out :=
  .next (match s.tap.acc with
    | none => s
    | some (w, o, v) =>
      if !s.portsServe then s
      else
        let r : State × Acc × Word :=
          if w then
            let b := s.beatWrite .tap o (BitVec.ofNat 64 (if o / 4 % 2 = 1 then v.toNat * 2 ^ 32 else v.toNat))
              (if o / 4 % 2 = 1 then 0xF0 else 0x0F)
            (b.1, b.2, 0)
          else s.tapRead o
        let x := r.1.tap
        match r.2.1 with
        | .ok => { r.1 with tap := { x with acc := none, result := 0, cause := 0, data := r.2.2 } }
        | .decerr => { r.1 with tap := { x with acc := none, result := 2, cause := 0, data := 0 } }
        | .refused c => { r.1 with tap := { x with acc := none, result := 1, cause := c.code, data := 0 } })

/-- CAN_OBJECT_WRITE (R376). -/
def execCanObjectWrite (src : Src) (addr : Nat) (data : DWord) (strb : BitVec 8) (s : State) : Out :=
  guarded (s.srcOk src addr && srcHost src && decide (canBase ≤ addr ∧ addr < canBase + 0x140000))
    (if !s.portsServe then s
     else match src with
      | .port p sec => s.portWrite p sec addr data strb
      | _ =>
        let r := s.beatWrite src addr data strb
        match r.2 with
        | .ok => r.1.respond 2 .okay none
        | .decerr => r.1.decErr 2
        | .refused c => r.1.respond 2 .refused (some (BitVec.ofNat 64 c.code)))

/-- LEGACY_DOORBELL_WRITE (R296): byte offset `o` of the page of port `p`. -/
def execLegacyDoorbellWrite (src : Src) (p o : Nat) (v : Word) (s : State) : Out :=
  guarded (s.srcOk src 0 && srcHost src && decide (p < 2 ∧ o < 0x1000 ∧ o % 4 = 0)) (s.busWrite src (0x100000 + 0x10000 * p + o) v)

/-- TM_CAPRISE_POP (R365): a port reads TM_CAPRISE[n]. -/
def execTmCaprisePop (p : Nat) (sec : Bool) (n : Nat) (s : State) : Out :=
  guarded (decide (p < 2 ∧ n < 64)) (if s.portsServe then s.portRead p sec (0x6024 + 0x40 * n) else s)

/-- TM_CAPFALL_POP (R365): a port reads TM_CAPFALL[n]. -/
def execTmCapfallPop (p : Nat) (sec : Bool) (n : Nat) (s : State) : Out :=
  guarded (decide (p < 2 ∧ n < 64)) (if s.portsServe then s.portRead p sec (0x6028 + 0x40 * n) else s)

/-- APERTURE_RELEASE (R438): the register write by which a holder gives its grains back. -/
def execApertureRelease (src : Src) (off : Nat) (v : Word) (s : State) : Out :=
  guarded (s.srcOk src off && decide (off % 4 = 0)) (s.busWrite src off v)

/-- AP_PCTL_OFF (R446, R449): the request for OFF, whose code 0 a plain register write does not act on. -/
def execApPctlOff (src : Src) (s : State) : Out :=
  guarded (s.srcOk src 0x2008)
    (if !s.portsServe then s
     else match src with
      | .thread t n _ =>
        if s.thState t n != 1 then s
        else
          let s := s.detLostBy t n 4
          let stop := fun (s : State) (detail refc : Nat) => s.stopTile t n 2 detail refc (s.rd (.TH_PC t n)) 0x08002008
          if n != 0 && !s.flag (.TH_WPERM t n) 14 then stop s 1 0
          else match s.writeCheck src 0x2008 0 with
            | .ok => (match s.powerRequest 0 with
              | (s, none) => s
              | (s, some c) => stop s 5 c.code)
            | .decerr => stop s 1 0
            | .refused c => if c = .notready then stop s 2 0 else stop s 5 c.code
      | _ =>
        let p := match src with | .port p _ => p | _ => 2
        match s.writeCheck src 0x2008 0 with
        | .ok => (match s.powerRequest 0 with
          | (s, none) => s.respond p .okay none
          | (s, some c) => if p = 2 then s.respond 2 .refused (some (BitVec.ofNat 64 c.code)) else s.refuse p 0x2008 true c)
        | .decerr => s.decErr p
        | .refused c => if p = 2 then s.respond 2 .refused (some (BitVec.ofNat 64 c.code)) else s.refuse p 0x2008 true c)

/-! ### Writes of single registers -/

/-- BLK_STATE_REQ_BOOT (R57). -/
def execBlkStateReqBoot (src : Src) (s : State) : Out := s.regRow src .BLK_STATE 0x10000

/-- BLK_STATE_REQ_RUN (R57). -/
def execBlkStateReqRun (src : Src) (s : State) : Out := s.regRow src .BLK_STATE 0x20000

/-- BLK_STATE_REQ_TEST (R57). -/
def execBlkStateReqTest (src : Src) (s : State) : Out := s.regRow src .BLK_STATE 0x30000

/-- BLK_BOOTDONE_WRITE (R63). -/
def execBlkBootdoneWrite (src : Src) (v : Word) (s : State) : Out := s.regRow src .BLK_BOOTDONE v

/-- BLK_BOOTPTR_WRITE (R61). -/
def execBlkBootptrWrite (src : Src) (i : Nat) (v : Word) (s : State) : Out := s.regRow src (.BLK_BOOTPTR i) v

/-- HP_SEM_ACQUIRE (R265): semaphores need no SEC. -/
def execHpSemAcquire (p : Nat) (n : SemTry) (s : State) : Out :=
  let k := n.sem % 2
  let w : PortBeat := ⟨false, if k = 0 then 1 else 0x100000000, if k = 0 then 0x0F else 0xF0⟩
  if n.tie then guarded (decide (p < 2 ∧ n.sem < 32)) (if s.portsServe then s.portTie p (0x1100 + 4 * n.sem) w w else s)
  else s.regRow (.port p false) (.HP_SEM n.sem) 1

/-- HP_SEM_RELEASE (R265). -/
def execHpSemRelease (p n : Nat) (s : State) : Out := s.regRow (.port p false) (.HP_SEM n) 0

/-- HP_SEMBRK (R266). -/
def execHpSembrk (src : Src) (v : Word) (s : State) : Out := s.regRow src .HP_SEMBRK v

/-- BURST_MODE_REQUEST (R271). -/
def execBurstModeRequest (src : Src) (p : Nat) (s : State) : Out := s.regRow src (.HP_CTL p) 1

/-- BURST_MODE_LEAVE (R271). -/
def execBurstModeLeave (src : Src) (p : Nat) (s : State) : Out := s.regRow src (.HP_CTL p) 0

/-- TZ2_MAILBOX_WRITE (R273). -/
def execTz2MailboxWrite (p i : Nat) (v : Word) (s : State) : Out := s.regRow (.port p false) (.MB p i) v

/-- TL_CTL_MAPLOAD (R72): DETM as it stands. -/
def execTlCtlMapload (src : Src) (t : Nat) (s : State) : Out := s.regRow src (.TL_CTL t) ((s.rd (.TL_CTL t) &&& 1) ||| 0x40)

/-- TL_CTL_TRST (R96). -/
def execTlCtlTrst (src : Src) (t : Nat) (s : State) : Out := s.regRow src (.TL_CTL t) ((s.rd (.TL_CTL t) &&& 1) ||| 0x80)

/-- TL_CTL_START (R87): DETM as it stands. -/
def execTlCtlStart (src : Src) (t : Nat) (s : State) : Out := s.regRow src (.TL_CTL t) ((s.rd (.TL_CTL t) &&& 1) ||| 0x20)

/-- TL_CTL_DETM_WRITE (R84). -/
def execTlCtlDetmWrite (src : Src) (t : Nat) (detm : Bool) (s : State) : Out := s.regRow src (.TL_CTL t) (if detm then 1 else 0)

/-- TL_HWROUTE_WRITE (R114). -/
def execTlHwrouteWrite (src : Src) (t : Nat) (v : Word) (s : State) : Out := s.regRow src (.TL_HWROUTE t) v

/-- TH_HWIN_WRITE (R104): word `i` below 4 is TH_HWIN[i], word 4 is TH_HWINHI. -/
def execThHwinWrite (src : Src) (t n i : Nat) (v : Word) (s : State) : Out :=
  s.regRow src (if i = 4 then .TH_HWINHI t n else .TH_HWIN t n i) v

/-- TH_REGISTER_WRITE (R102): the register at word `i` of the thread's block. -/
def execThRegisterWrite (src : Src) (t n i : Nat) (v : Word) (s : State) : Out :=
  match regTH t n i with
  | some r => s.regRow src r v
  | none => .fault .noSuchPart

/-- LV_CTL_WRITE (R173). -/
def execLvCtlWrite (src : Src) (t : Nat) (v : Word) (s : State) : Out := s.regRow src (.LV_CTL t) v

/-- SC_GCTL_RUN_START (R203). -/
def execScGctlRunStart (src : Src) (g : Nat) (dbgsafe : Bool) (s : State) : Out := s.regRow src (.SC_GCTL g) (if dbgsafe then 3 else 1)

/-- SC_GCTL_RUN_STOP (R204). -/
def execScGctlRunStop (src : Src) (g : Nat) (dbgsafe : Bool) (s : State) : Out := s.regRow src (.SC_GCTL g) (if dbgsafe then 2 else 0)

/-- SC_IMGLAYOUT_WRITE (R222). -/
def execScImglayoutWrite (src : Src) (size : Bool) (v : Word) (s : State) : Out := s.regRow src (if size then .SC_IMGSIZE else .SC_IMGBASE) v

/-- SC_OWNDATA_WRITE (R212). -/
def execScOwndataWrite (src : Src) (v : Word) (s : State) : Out := s.regRow src .SC_OWNDATA v

/-- SC_OWNFILL_WRITE (R223). -/
def execScOwnfillWrite (src : Src) (v : Word) (s : State) : Out := s.regRow src .SC_OWNFILL v

/-- EDIT_ARM (R236). -/
def execEditArm (src : Src) (g : Nat) (s : State) : Out := s.regRow src (.SC_EDITCTL g) 1

/-- EDIT_CANCEL (R236). -/
def execEditCancel (src : Src) (g : Nat) (s : State) : Out := s.regRow src (.SC_EDITCTL g) 2

/-- SC_EDITTGT_WRITE (R236). -/
def execScEdittgtWrite (src : Src) (g i : Nat) (v : Word) (s : State) : Out := s.regRow src (.SC_EDITTGT g i) v

/-- SM_CLRREQ_WRITE (R253). -/
def execSmClrreqWrite (src : Src) (v : Word) (s : State) : Out := s.regRow src .SM_CLRREQ v

/-- SM_PDCTL_WRITE (R253). -/
def execSmPdctlWrite (src : Src) (v : Word) (s : State) : Out := s.regRow src .SM_PDCTL v

/-- RING_ENABLE (R279). -/
def execRingEnable (src : Src) (p r : Nat) (v : Word) (s : State) : Out := s.regRow src (.RG_CFG p r) (setBit v 31 true)

/-- RING_DISABLE (R280). -/
def execRingDisable (src : Src) (p r : Nat) (s : State) : Out := s.regRow src (.RG_CFG p r) (setBit (s.rd (.RG_CFG p r)) 31 false)

/-- CQ_ENABLE (R279). -/
def execCqEnable (src : Src) (p q : Nat) (v : Word) (s : State) : Out := s.regRow src (.RG_CQCFG p q) (setBit v 31 true)

/-- CQ_DISABLE (R279). -/
def execCqDisable (src : Src) (p q : Nat) (s : State) : Out := s.regRow src (.RG_CQCFG p q) (setBit (s.rd (.RG_CQCFG p q)) 31 false)

/-- VECTOR_UNMASK (R289). -/
def execVectorUnmask (src : Src) (p v : Nat) (s : State) : Out := s.regRow src (.RG_VECCTL p v) 0

/-- ENGINE_ENABLE (R329): WBANK as it stands. -/
def execEngineEnable (src : Src) (t e : Nat) (s : State) : Out := s.regRow src (.FE_CTL t e) ((s.rd (.FE_CTL t e) &&& 5) ||| 1)

/-- ENGINE_FLUSH (R329): EN and WBANK as they stand. -/
def execEngineFlush (src : Src) (t e : Nat) (s : State) : Out := s.regRow src (.FE_CTL t e) ((s.rd (.FE_CTL t e) &&& 5) ||| 0x40)

/-- ENGINE_SWAP (R331): EN and WBANK as they stand. -/
def execEngineSwap (src : Src) (t e : Nat) (s : State) : Out := s.regRow src (.FE_CTL t e) ((s.rd (.FE_CTL t e) &&& 5) ||| 0x10)

/-- ENGINE_FORCE (R332): EN and WBANK as they stand. -/
def execEngineForce (src : Src) (t e : Nat) (s : State) : Out := s.regRow src (.FE_CTL t e) ((s.rd (.FE_CTL t e) &&& 5) ||| 0x30)

/-- ENGINE_OVRCLR (R326): EN and WBANK as they stand. -/
def execEngineOvrclr (src : Src) (t e : Nat) (s : State) : Out := s.regRow src (.FE_CTL t e) ((s.rd (.FE_CTL t e) &&& 5) ||| 0x80)

/-- ENGINE_DISABLE (R329): WBANK as it stands. -/
def execEngineDisable (src : Src) (t e : Nat) (s : State) : Out := s.regRow src (.FE_CTL t e) (s.rd (.FE_CTL t e) &&& 4)

/-- ENGINE_PROGRAM_WRITE (R330). -/
def execEngineProgramWrite (src : Src) (t e i : Nat) (v : Word) (s : State) : Out := s.regRow src (.FE_PROG t e i) v

/-- ENGINE_CONFIG_WRITE (R330): the register at word `i` of the engine's block. -/
def execEngineConfigWrite (src : Src) (t e i : Nat) (v : Word) (s : State) : Out :=
  match regFEe t e i with
  | some r => s.regRow src r v
  | none => .fault .noSuchPart

/-- ENGINE_GROUP_REQUEST (R328). -/
def execEngineGroupRequest (src : Src) (t : Nat) (v : Word) (s : State) : Out := s.regRow src (.TL_ENGGRP t) v

/-- GZ_CONFIG_WRITE (R343): a write of a register of the GZ pages. -/
def execGzConfigWrite (src : Src) (off : Nat) (v : Word) (s : State) : Out :=
  guarded (s.srcOk src off && decide (0x4000 ≤ off ∧ off < 0x6000 ∧ off % 4 = 0)) (s.busWrite src off v)

/-- GZ_PINSEL_WRITE (R336). -/
def execGzPinselWrite (src : Src) (i : Nat) (v : Word) (s : State) : Out := s.regRow src (.GZ_PINSEL i) v

/-- TL_GZFIRE (R333). -/
def execTlGzfire (src : Src) (t : Nat) (v : Word) (s : State) : Out := s.regRow src (.TL_GZFIRE t) v

/-- TB_ADJ_WRITE (R351). -/
def execTbAdjWrite (src : Src) (v : Word) (s : State) : Out := s.regRow src .TB_ADJ v

/-- TIMER_ENABLE (R354). -/
def execTimerEnable (src : Src) (n : Nat) (v : Word) (s : State) : Out := s.regRow src (.TM_CTL n) (setBit v 31 true)

/-- TM_GSTART (R354). -/
def execTmGstart (src : Src) (i : Nat) (v : Word) (s : State) : Out := s.regRow src (.TM_GSTART i) v

/-- TM_GSTOP (R354). -/
def execTmGstop (src : Src) (i : Nat) (v : Word) (s : State) : Out := s.regRow src (.TM_GSTOP i) v

/-- TIMER_SHADOW_WRITE (R356). -/
def execTimerShadowWrite (src : Src) (n : Nat) (isMatch : Bool) (v : Word) (s : State) : Out := s.regRow src (if isMatch then .TM_MATCH n else .TM_PERIOD n) v

/-- TM_COUNTER_WRITE (R354). -/
def execTmCounterWrite (src : Src) (n : Nat) (hi : Bool) (v : Word) (s : State) : Out := s.regRow src (if hi then .TM_CNT_HI n else .TM_CNT_LO n) v

/-- CN_DOMCTL_WRITE (R372). -/
def execCnDomctlWrite (src : Src) (v : Word) (s : State) : Out := s.regRow src .CN_DOMCTL v

/-- CAN_INIT_LEAVE (R373). -/
def execCanInitLeave (src : Src) (c : Nat) (v : Word) (s : State) : Out := s.regRow src (.CN_CTL c) (setBit v 0 false)

/-- CN_TXREQ (R383). -/
def execCnTxreq (src : Src) (c : Nat) (v : Word) (s : State) : Out := s.regRow src (.CN_TXREQ c) v

/-- CN_TXABORT (R385). -/
def execCnTxabort (src : Src) (c : Nat) (v : Word) (s : State) : Out := s.regRow src (.CN_TXABORT c) v

/-- CAN_MAP (R378). -/
def execCanMap (src : Src) (c : Nat) (v : Word) (s : State) : Out := s.regRow src (.CN_MAPCMD c) (setFld v 30 2 1)

/-- CAN_UNMAP (R378). -/
def execCanUnmap (src : Src) (c : Nat) (v : Word) (s : State) : Out := s.regRow src (.CN_MAPCMD c) (setFld v 30 2 2)

/-- CAN_BIT_TIMING_WRITE (R374). -/
def execCanBitTimingWrite (src : Src) (c : Nat) (data : Bool) (v : Word) (s : State) : Out := s.regRow src (if data then .CN_DBT c else .CN_NBT c) v

/-- FD_LINK_ENABLE (R390). -/
def execFdLinkEnable (src : Src) (n : Nat) (v : Word) (s : State) : Out := s.regRow src (.FD_LCTL n) (setBit v 31 true)

/-- FD_LINK_DISABLE (R390). -/
def execFdLinkDisable (src : Src) (n : Nat) (v : Word) (s : State) : Out := s.regRow src (.FD_LCTL n) (setBit v 31 false)

/-- FD_CTL_DOMEN_WRITE (R390). -/
def execFdCtlDomenWrite (src : Src) (v : Word) (s : State) : Out := s.regRow src .FD_CTL v

/-- FD_CTL_ENUM (R398). -/
def execFdCtlEnum (src : Src) (v : Word) (s : State) : Out := s.regRow src .FD_CTL (setBit v 4 true)

/-- FED_JOIN (R402). -/
def execFedJoin (src : Src) (v : Word) (s : State) : Out := s.regRow src .FD_CTL (setBit v 8 true)

/-- FED_LEAVE (R403). -/
def execFedLeave (src : Src) (v : Word) (s : State) : Out := s.regRow src .FD_CTL (setBit v 8 false)

/-- MI_ENABLE (R407). -/
def execMiEnable (src : Src) (v : Word) (s : State) : Out := s.regRow src .MI_CTL (setBit v 31 true)

/-- MI_DISABLE (R418). -/
def execMiDisable (src : Src) (v : Word) (s : State) : Out := s.regRow src .MI_CTL (setBit v 31 false)

/-- MI_RESYNC (R417). -/
def execMiResync (src : Src) (v : Word) (s : State) : Out := s.regRow src .MI_CTL (setBit v 28 true)

/-- FC_ACK (R431). -/
def execFcAck (src : Src) (i : Nat) (v : Word) (s : State) : Out := s.regRow src (.FC_ACK i) v

/-- FC_STAT_CLEAR (R431). -/
def execFcStatClear (src : Src) (i : Nat) (v : Word) (s : State) : Out := s.regRow src (.FC_STAT i) v

/-- FC_SCFG_FORCE (R432): the other fields as they stand. -/
def execFcScfgForce (src : Src) (n : Nat) (s : State) : Out := s.regRow src (.FC_SCFG n) (s.rd (.FC_SCFG n) ||| 0x80000000)

/-- FC_RCTL_RELEASE (R429). -/
def execFcRctlRelease (src : Src) (s : State) : Out := s.regRow src .FC_RCTL 1

/-- TL_FCACK_ACK (R433). -/
def execTlFcackAck (src : Src) (t n : Nat) (s : State) : Out := s.regRow src (.TL_FCACK t) (word (2 ^ 31 + n % 128))

/-- TL_FCACK_CLR (R433). -/
def execTlFcackClr (src : Src) (t n : Nat) (s : State) : Out := s.regRow src (.TL_FCACK t) (word (2 ^ 30 + n % 128))

/-- AP_RSV_REQUEST (R443). -/
def execApRsvRequest (src : Src) (g : Nat) (grains : Nat) (s : State) : Out := s.regRow src (.AP_RSV g) (word (2 ^ 31 + grains % 1024))

/-- AP_RSV_RELEASE (R443). -/
def execApRsvRelease (src : Src) (g : Nat) (s : State) : Out := s.regRow src (.AP_RSV g) (s.rd (.AP_RSV g) &&& 0x3FF)

/-- AP_PCTL_DOZE (R446). -/
def execApPctlDoze (src : Src) (s : State) : Out := s.regRow src .AP_PCTL 5

/-- AP_PCTL_SLEEP (R449). -/
def execApPctlSleep (src : Src) (s : State) : Out := s.regRow src .AP_PCTL 6

/-- AP_PCTL_WAKE (R448). -/
def execApPctlWake (src : Src) (s : State) : Out := s.regRow src .AP_PCTL 0x100

/-- AP_TILEEN_WRITE (R450). -/
def execApTileenWrite (src : Src) (v : Word) (s : State) : Out := s.regRow src .AP_TILEEN v

/-- UP_CMD_SEND (R458). -/
def execUpCmdSend (src : Src) (s : State) : Out := s.regRow src .UP_CMD 1

/-- UP_CMD_ACTIVATE (R459). -/
def execUpCmdActivate (src : Src) (s : State) : Out := s.regRow src .UP_CMD 2

/-- UP_CMD_CONFIRM (R463). -/
def execUpCmdConfirm (src : Src) (s : State) : Out := s.regRow src .UP_CMD 3

/-- UP_CMD_DISCARD (R465). -/
def execUpCmdDiscard (src : Src) (s : State) : Out := s.regRow src .UP_CMD 5

/-- UP_CMD_FALLBACK (R464). -/
def execUpCmdFallback (src : Src) (v : Word) (s : State) : Out := s.regRow src .UP_CMD (setFld v 0 4 4)

/-- DB_THALT (R469). -/
def execDbThalt (src : Src) (t : Nat) (v : Word) (s : State) : Out := s.regRow src (.DB_THALT t) v

/-- DB_TRES (R470). -/
def execDbTres (src : Src) (t : Nat) (v : Word) (s : State) : Out := s.regRow src (.DB_TRES t) v

/-- DB_TSTEP (R470). -/
def execDbTstep (src : Src) (t : Nat) (v : Word) (s : State) : Out := s.regRow src (.DB_TSTEP t) v

/-- DB_TILE_HALT (R472). -/
def execDbTileHalt (src : Src) (t : Nat) (s : State) : Out := s.regRow src (.DB_TILE t) 1

/-- DB_TILE_RESUME (R472). -/
def execDbTileResume (src : Src) (t : Nat) (s : State) : Out := s.regRow src (.DB_TILE t) 2

/-- DB_BLK_HALT (R476). -/
def execDbBlkHalt (src : Src) (s : State) : Out := s.regRow src .DB_BLK 1

/-- DB_BLK_RESUME (R477). -/
def execDbBlkResume (src : Src) (s : State) : Out := s.regRow src .DB_BLK 2

/-- DB_CHABORT (R475). -/
def execDbChabort (src : Src) (v : Word) (s : State) : Out := s.regRow src .DB_CHABORT v

end Sys2Proof.Machine
end

