-- ==== Sys2Proof/Machine/Operands.lean ====
section
/-! DEFINITION. The fields of a Rhaesh instruction word, and which row of the instruction set a word is (R115 to R118,
R147, R153 to R155, R175, R178 to R185). -/

namespace Sys2Proof.Machine

/-! ### Fields (R116, R146, R178) -/

/-- Bits 31:26. -/
def opcode (w : Word) : Nat := fld w 26 6
/-- Bits 25:21: Gd, Gs of a store, Gs1 of a branch, Vd. -/
def fD (w : Word) : Nat := fld w 21 5
/-- Bits 20:16: Gs1, Gbase, Gs2 of a branch, Vs1. -/
def fS1 (w : Word) : Nat := fld w 16 5
/-- Bits 15:11: Gs2, Vs2, Gstride, Gidx, Vidx. -/
def fS2 (w : Word) : Nat := fld w 11 5
/-- funct of the R format. -/
def fR (w : Word) : Nat := fld w 0 11
/-- funct of the I format, size code of the M format. -/
def fI (w : Word) : Nat := fld w 12 4
/-- imm12, zero-extended. -/
def imm12 (w : Word) : Nat := fld w 0 12
/-- imm12 or off12, sign-extended (R118). -/
def simm12 (w : Word) : Word := sext 12 (fld w 0 12)
/-- off16 in bytes (R118). -/
def off16 (w : Word) : Word := sext 16 (fld w 0 16) * 4
/-- off21 in bytes (R118). -/
def off21 (w : Word) : Word := sext 21 (fld w 0 21) * 4
/-- imm20 shifted to bits 31:12 (R124). -/
def imm20 (w : Word) : Word := word (fld w 0 20 * 4096)
/-- The M bit of the vector formats. -/
def fM (w : Word) : Bool := bit w 10
/-- funct of the vector formats. -/
def fV (w : Word) : Nat := fld w 0 10

/-! ### Rows -/

/-- The bit instructions with a space operand (R147). -/
inductive BitOp where
  | bld | bldn | band | bandn | bor | born | bxor | bst | bset | brst | btog | brise | bfall
deriving DecidableEq, Repr

/-- The rows of the instruction set, one for each thread instruction of the opcode table. -/
inductive Row where
  | intReg | intImm | ext | exts | ins | lui | auipc | load | store | amoadd | amoswap | cas
  | jal | jalr | branch | loop | csrrd | csrwr | fence | iflush
  | bitOp (k : BitOp)
  | bpush | bpop | bands | bors | bnot | bseta | bclra | bmovg | bmova
  | wfe | evsend | trap | brk | rete | halt | scanend | tset | trelease
  | chopen | chput | chclose | chget | vbind | vfree | apreq | aprel
  | vsetvl | vint | vfix | sfp | vfp | vload | vstore | vgather | vscatter
deriving DecidableEq, Repr

/-- The row, if the condition on the word's fields holds. -/
def rowIf (c : Bool) (r : Row) : Option Row := if c then some r else none

/-- Opcode 0x01 (R119). -/
def intRegFunct (f : Nat) : Bool := decide (f ≤ 0x13) || f == 0x20 || f == 0x21 || f == 0x22 || decide (0x24 ≤ f ∧ f ≤ 0x27)

/-- Opcode 0x02 (R123). -/
def rowExt (w : Word) : Option Row :=
  if fld w 2 4 ≠ 0 ∨ 31 < fS2 w + fld w 6 5 then none
  else if fld w 0 2 = 0 then some .ext
  else if fld w 0 2 = 1 then some .exts
  else if fld w 0 2 = 2 then some .ins
  else none

/-- Opcode 0x08 (R129). -/
def rowAmo (w : Word) : Option Row :=
  if fR w = 0 then some .amoadd else if fR w = 1 then some .amoswap else if fR w = 2 then some .cas else none

/-- Opcode 0x3F (R107, R138, R139). -/
def rowCsr (w : Word) : Option Row :=
  if fI w = 0 then rowIf (fS1 w == 0) .csrrd
  else if fI w = 1 then rowIf (fD w == 0) .csrwr
  else if fI w = 2 then rowIf (fD w == 0 && fS1 w == 0 && imm12 w == 0) .fence
  else if fI w = 3 then rowIf (fD w == 0 && decide (imm12 w ≤ 2)) .iflush
  else none

/-- The bit instruction of an X opcode (R147). -/
def bitOpOf (o : Nat) : Option BitOp :=
  [BitOp.bld, .bldn, .band, .bandn, .bor, .born, .bxor, .bst, .bset, .brst, .btog, .brise, .bfall][o - 0x20]?

/-- Opcodes 0x20 to 0x39: an X instruction or its XI twin; BRISE and BFALL name space H only (R147, R148). -/
def rowBit (w : Word) : Option Row :=
  match bitOpOf (if opcode w < 0x2D then opcode w else opcode w - 0x0D) with
  | none => none
  | some k => rowIf ((k != .brise && k != .bfall) || fld w 24 2 == 3) (.bitOp k)

/-- Opcode 0x3A (R153). -/
def rowAcc (w : Word) : Option Row :=
  if fld w 4 22 ≠ 0 then none
  else [Row.bpush, .bpop, .bands, .bors, .bnot, .bseta, .bclra][fld w 0 4]?

/-- Opcode 0x3B (R154). -/
def rowMov (w : Word) : Option Row :=
  if fld w 24 2 ≠ 0 ∨ fld w 1 18 ≠ 0 then none else if bit w 0 then some .bmova else some .bmovg

/-- Gd, Gs1 and imm12 are 0. -/
def plain (w : Word) : Bool := fD w == 0 && fS1 w == 0 && imm12 w == 0

/-- Opcode 0x3C (R155, R157, R162). -/
def rowSys (w : Word) : Option Row :=
  if fI w = 0 then rowIf (fS1 w == 0 && imm12 w == 0) .wfe
  else if fI w = 1 then some .evsend
  else if fI w = 2 then rowIf (fD w == 0 && fS1 w == 0 && decide (imm12 w < 256)) .trap
  else if fI w = 3 then rowIf (plain w) .brk
  else if fI w = 4 then rowIf (plain w) .rete
  else if fI w = 5 then rowIf (plain w) .halt
  else if fI w = 6 then rowIf (plain w) .scanend
  else if fI w = 7 then rowIf (decide (fld w 4 8 ≤ 0x20) || (decide (fld w 4 8 ≤ 0x23) && fS1 w == 0)) .tset
  else if fI w = 8 then rowIf (fS1 w == 0 && decide (imm12 w < 16)) .trelease
  else none

/-- imm12 names a channel (R163). -/
def chanField (w : Word) : Bool := decide (imm12 w < 128) && (bit w 6 || decide (imm12 w < 32))

/-- Opcode 0x3D (R155, R163, R164). -/
def rowChan (w : Word) : Option Row :=
  if fI w = 0 then rowIf (fD w == 0 && fS1 w == 0 && chanField w) .chopen
  else if fI w = 1 then rowIf (fD w == 0 && imm12 w == 0) .chput
  else if fI w = 2 then rowIf (plain w) .chclose
  else if fI w = 3 then rowIf (fD w % 4 == 0 && fS1 w == 0 && chanField w) .chget
  else none

/-- Opcode 0x3E (R155, R166). -/
def rowUnit (w : Word) : Option Row :=
  if fI w = 0 then rowIf (fS1 w == 0 && decide (imm12 w < 16)) .vbind
  else if fI w = 1 then rowIf (plain w) .vfree
  else if fI w = 2 then some .apreq
  else if fI w = 3 then rowIf (fS1 w == 0 && imm12 w == 0) .aprel
  else none

/-- A masked instruction does not name V0 as its destination (R176). -/
def maskOk (w : Word) : Bool := !(fM w && fD w == 0)

/-- funct of opcode 0x19, or of 0x1D with funct[9] = 0 (R179). -/
def rowVint (w : Word) (f : Nat) : Option Row :=
  if f = 6 ∨ f = 7 then rowIf (fS2 w == 0 && maskOk w) .vint
  else if f = 0x30 then rowIf (!fM w) .vint
  else if f = 0x40 ∨ f = 0x41 ∨ f = 0x42 then some .vint
  else rowIf ((decide (f ≤ 5) || decide (0x10 ≤ f ∧ f ≤ 0x16) || decide (0x18 ≤ f ∧ f ≤ 0x1A) || decide (0x20 ≤ f ∧ f ≤ 0x23)
    || f == 0x43) && maskOk w) .vint

/-- funct of opcode 0x1A, or of 0x1D with funct[9] = 1 (R181). -/
def rowVfix (w : Word) (f : Nat) : Option Row := rowIf ((decide (f ≤ 3) || f == 0x10 || f == 0x18 || f == 0x19) && maskOk w) .vfix

/-- Opcode 0x1E (R184). -/
def rowSfp (w : Word) : Option Row :=
  let f := fV w % 1024
  rowIf (decide (f ≤ 3) || (f == 4 && fS2 w == 0) || f == 5 || f == 6 || f == 8 || decide (0x10 ≤ f ∧ f ≤ 0x12) || f == 0x18
    || f == 0x19 || f == 0x1A || f == 0x1C || f == 0x1D) .sfp

/-- Opcode 0x1F (R184). -/
def rowVfp (w : Word) : Option Row :=
  let f := fV w
  rowIf ((decide (f ≤ 2) || f == 5 || f == 6 || f == 8 || decide (0x10 ≤ f ∧ f ≤ 0x12) || f == 0x18 || f == 0x19) && maskOk w) .vfp

/-- Opcode 0x1B (R185): unit-stride, strided or scalar F. -/
def rowVmem (w : Word) : Option Row :=
  let f := fV w / 2
  let st := bit w 0
  if f = 2 ∨ f = 6 then some (if st then .vstore else .vload)
  else if (f = 0 ∧ fS2 w = 0) ∨ f = 1 then rowIf (st || maskOk w) (if st then .vstore else .vload)
  else none

/-- Opcode 0x1C (R185). -/
def rowVidx (w : Word) : Option Row :=
  if fV w / 2 = 0 then rowIf (bit w 0 || maskOk w) (if bit w 0 then .vscatter else .vgather) else none

/-- Opcodes 0x18 to 0x1F: the instructions of a bound context (R106). -/
def lvuOpcode (w : Word) : Bool := decide (0x18 ≤ opcode w ∧ opcode w ≤ 0x1F)

/-- The word needs a bound context before it is decoded: opcodes 0x18 to 0x1F, and a CSR access in 0x700 to 0x7FF whatever
its must-be-0 fields hold (R106). -/
def needsCtx (w : Word) : Bool :=
  lvuOpcode w || (opcode w == 0x3F && decide (fI w ≤ 1) && decide (0x700 ≤ imm12 w ∧ imm12 w < 0x800))

/-- The rows of opcodes 0x18 to 0x1F. -/
def rowLvu (w : Word) : Option Row :=
  let o := opcode w
  if o = 0x18 then rowIf (decide (fI w ≤ 4) && imm12 w == 0) .vsetvl
  else if o = 0x19 then rowVint w (fV w)
  else if o = 0x1A then rowVfix w (fV w)
  else if o = 0x1B then rowVmem w
  else if o = 0x1C then rowVidx w
  else if o = 0x1D then (if bit w 9 then rowVfix w (fld w 0 9) else rowVint w (fld w 0 9))
  else if o = 0x1E then rowSfp w
  else rowVfp w

/-- The row of a word, or none for an undefined encoding (R115, R117): an undefined opcode or funct, or a must-be-0 field
that holds another value. -/
def rowOf (w : Word) : Option Row :=
  let o := opcode w
  if o = 0x01 then rowIf (intRegFunct (fR w)) .intReg
  else if o = 0x02 then rowExt w
  else if o = 0x03 then rowIf (decide (fI w ≤ 5) || (decide (fI w ≤ 8) && fld w 5 7 == 0)) .intImm
  else if o = 0x04 then rowIf (!bit w 20) .lui
  else if o = 0x05 then rowIf (!bit w 20) .auipc
  else if o = 0x06 then rowIf (decide (fI w ≤ 5) && !(fI w == 3 && bit w 21)) .load
  else if o = 0x07 then rowIf (decide (fI w ≤ 3) && !(fI w == 3 && bit w 21)) .store
  else if o = 0x08 then rowAmo w
  else if o = 0x09 then some .jal
  else if o = 0x0A then rowIf (fI w == 0) .jalr
  else if 0x0B ≤ o ∧ o ≤ 0x10 then some .branch
  else if o = 0x11 then rowIf (fS1 w == 0 && fld w 0 16 != 0) .loop
  else if 0x18 ≤ o ∧ o ≤ 0x1F then rowLvu w
  else if 0x20 ≤ o ∧ o ≤ 0x39 then rowBit w
  else if o = 0x3A then rowAcc w
  else if o = 0x3B then rowMov w
  else if o = 0x3C then rowSys w
  else if o = 0x3D then rowChan w
  else if o = 0x3E then rowUnit w
  else if o = 0x3F then rowCsr w
  else none

end Sys2Proof.Machine
end

