-- ==== Sys2Proof/Machine/Flags.lean ====
section
/-! DEFINITION. The flags of a thread: ISTAT (R107, R120), the accumulator and bit stack of BITST (R141, R142), and the
flags of FCSR (R177). -/

namespace Sys2Proof.Machine

/-- Set ISTAT.SAT or ISTAT.DZ, which are sticky. -/
def State.setIstat (s : State) (t n : Nat) (sat dz : Bool) : State :=
  let s := if sat then s.setFlag (.ISTAT t n) 0 true else s
  if dz then s.setFlag (.ISTAT t n) 1 true else s

/-- ACC of a BITST value. -/
def accOf (b : Word) : Bool := bit b 0

/-- A BITST value with ACC replaced. -/
def withAcc (b : Word) (a : Bool) : Word := setBit b 0 a

/-- Push a bit (R142). -/
def bitPush (b : Word) (v : Bool) : Word :=
  let d := fld b 16 4
  let b' := if d = 8 then setBit b 24 true else setFld b 16 4 (d + 1)
  setFld b' 8 8 (2 * fld b 8 8 + v.toNat)

/-- Pop a bit (R142): the bit, and the value after. -/
def bitPop (b : Word) : Bool × Word :=
  let d := fld b 16 4
  if d = 0 then (false, setBit b 25 true)
  else (bit b 8, setFld (setFld b 8 8 (fld b 8 8 / 2)) 16 4 (d - 1))

/-- The five floating-point flags. -/
structure FpFlags where
  nv : Bool
  dz : Bool
  of : Bool
  uf : Bool
  nx : Bool
deriving DecidableEq, Repr

/-- No flag. -/
def noFlags : FpFlags := ⟨false, false, false, false, false⟩

/-- Flags of two operations. -/
def FpFlags.or (a b : FpFlags) : FpFlags := ⟨a.nv || b.nv, a.dz || b.dz, a.of || b.of, a.uf || b.uf, a.nx || b.nx⟩

/-- FCSR with flags set: bit 8 NV, 7 DZ, 6 OF, 5 UF, 4 NX (R177, log entry 61). -/
def fcsrSet (v : Word) (f : FpFlags) : Word :=
  v ||| word (f.nv.toNat * 256 + f.dz.toNat * 128 + f.of.toNat * 64 + f.uf.toNat * 32 + f.nx.toNat * 16)

end Sys2Proof.Machine
end

