-- ==== Sys2Proof/Machine/Issue.lean ====
section
/-! DEFINITION. The issue of one thread instruction: who may issue in a slot (R69 to R83), the fetch (R78, R110, R128),
breakpoints (R473, R474), and how an instruction ends: completed, jumped, an exception or interrupt taken (R91, R94), a
core fault (R95). -/

namespace Sys2Proof.Machine

/-! ### Slots (R69, R70, R75, R76) -/

/-- The entry of the active map in a cycle: kind 0 CLAIM, 1 FIXED, 2 HOME, and thread. -/
def State.slotEntry (s : State) (t cycle : Nat) : Nat × Nat := (s.tile t).activeMap.getD (cycle % 16) (0, 0)

/-- A thread is eligible: ACTIVE, not waiting, and its previous instruction has ended (R70). -/
def State.eligible (s : State) (t n cycle : Nat) : Bool :=
  s.thState t n == 1 && (s.thread t n).wait == .none && decide ((s.thread t n).readyAt ≤ cycle)

/-- The thread numbers in round-robin order, from the one after the thread that last issued in a CLAIM slot (R76). -/
def State.claimOrder (s : State) (t : Nat) : List Nat :=
  let from' := match (s.tile t).lastClaim with | none => 0 | some l => l + 1
  (List.range 16).map (fun k => (from' + k) % 16)

/-- The thread that issues in a CLAIM slot: the URGENT thread if eligible, else the next eligible ELASTIC one (R75). -/
def State.claimThread (s : State) (t cycle : Nat) : Option Nat :=
  match (List.range 16).find? (fun n => s.thClass t n == 2 && s.eligible t n cycle) with
  | some n => some n
  | none => (s.claimOrder t).find? (fun n => s.thClass t n == 0 && s.eligible t n cycle)

/-- The slot of a cycle is given to thread `n` (R75). -/
def State.slotGives (s : State) (t n cycle : Nat) : Bool :=
  match s.slotEntry t cycle with
  | (0, _) => s.claimThread t cycle == some n
  | (1, m) => m == n
  | (2, _) => s.thClass t n == 2
  | _ => false

/-- The cores are clocked: not in DOZE, SLEEP, OFF or HALT (R447, R476). -/
def State.coresRun (s : State) : Bool := s.clk.running && !s.clk.held && (s.blk == 1 || s.blk == 2 || s.blk == 3 || s.blk == 4)

/-- TH_STAT.DEPTH. -/
def State.depth (s : State) (t n : Nat) : Nat := s.field (.TH_STAT t n) 4 2

/-- Inputs that are pending and raise an interrupt (R91). -/
def State.intPending (s : State) (t n : Nat) : Word := s.rd (.TH_EVPEND t n) &&& s.rd (.TH_EVIE t n)

/-- R91 allows an interrupt now: IE 1, DEPTH 0, and no step under STEPIE = 0 (R470). -/
def State.intAllowed (s : State) (t n : Nat) : Bool :=
  s.flag (.TH_CTL t n) 4 && s.depth t n == 0 && !((s.thread t n).stepping && !s.flag .DB_CTL 1)

/-- The interrupt that is taken at the thread's next boundary: the lowest pending enabled input (R91). -/
def State.intDue (s : State) (t n : Nat) : Option Nat :=
  if s.intAllowed t n then (List.range 32).find? (fun b => bit (s.intPending t n) b) else none

/-- The core has issued nothing in the cycle so far, and issues to the thread now (R69, R70, R75, R91). -/
def State.mayIssue (s : State) (i : Issue) : Bool :=
  s.coresRun && s.eligible i.tile i.thread i.cycle && (s.intDue i.tile i.thread).isNone
    && (match (s.tile i.tile).lastCycle with | none => true | some c => decide (c < i.cycle))
    && s.slotGives i.tile i.thread i.cycle

/-! ### Dual issue (R82, R83) -/

/-- Caches, prediction and dual issue serve the thread: ELASTIC or URGENT, and DETM 0 (R78, R82, R84). -/
def State.elastic (s : State) (t n : Nat) : Bool := s.thClass t n != 1 && !s.flag (.TL_CTL t) 0

/-- An integer, logic, shift, compare or bitfield instruction other than MUL, DIV and REM. -/
def pairable (w : Word) : Bool :=
  match rowOf w with
  | some .intReg => decide (fR w < 0x20)
  | some .intImm | some .ext | some .exts | some .ins | some .lui | some .auipc => true
  | _ => false

/-- A pairable instruction reads or writes register `r`. -/
def touches (w : Word) (r : Nat) : Bool :=
  fD w == r || match rowOf w with
    | some .intReg => fS1 w == r || fS2 w == r
    | some .intImm | some .ext | some .exts | some .ins => fS1 w == r
    | _ => false

/-- A breakpoint of the tile names the thread and the address (R473). -/
def State.breakpoint (s : State) (t n : Nat) (a : Word) : Option Nat :=
  (List.range 8).find? (fun i => s.flag (.DB_BP t i 1) 31 && s.flag (.DB_BP t i 1) n && s.field (.DB_BP t i 0) 2 30 == fld a 2 30)

/-- The instruction issues as the second of a pair, in the slot of the first (R83). -/
def State.mayPair (s : State) (i : Issue) (w : Word) : Bool :=
  let t := i.tile
  let n := i.thread
  s.coresRun && (s.tile t).lastCycle == some i.cycle && s.thState t n == 1 && (s.thread t n).wait == .none
    && !(s.thread t n).stepping && s.elastic t n && !(s.thread t n).taken && pairable w
    && (s.breakpoint t n (s.rd (.TH_PC t n))).isNone
    && match (s.tile t).pair with
       | some (m, r) => m == n && (r == 0 || !touches w r)
       | none => false

/-! ### Thread addresses (R104, R109) -/

/-- The parts of a thread's address map (R109). -/
inductive Rgn where
  | scratch | shared | host (w : Nat) | tilePage | rom | setup | unmapped
deriving DecidableEq, Repr

/-- The part that an address lies in. -/
def rgnOf (a : Nat) : Rgn :=
  if a < 0x80000 then .scratch
  else if 0x01000000 ≤ a ∧ a < 0x01800000 then .shared
  else if 0x04000000 ≤ a ∧ a < 0x05000000 then .host ((a - 0x04000000) / 0x400000)
  else if 0x08000000 ≤ a ∧ a < 0x08040000 then .setup
  else if 0x0F000000 ≤ a ∧ a < 0x0F001000 then .tilePage
  else if 0x0F800000 ≤ a ∧ a < 0x0F810000 then .rom
  else .unmapped

/-- The block-window offset of a scratchpad or shared-memory address (R478). -/
def memAddr (t a : Nat) : Nat := if a < 0x80000 then spBase t + a else smBase + (a - 0x01000000)

/-- The host address of a host-window address (R104). -/
def State.hostAddr (s : State) (t n a : Nat) : Nat :=
  let o := (a - 0x04000000) % 0x400000
  s.field (.TH_HWINHI t n) 0 20 * 2 ^ 44 + s.field (.TH_HWIN t n ((a - 0x04000000) / 0x400000)) 10 22 * 2 ^ 22 + o

/-- The accesses of a thread through window `w` use the caches (R82, R104). -/
def State.cached (s : State) (t n w : Nat) : Bool := s.elastic t n && s.flag (.TH_HWIN t n w) 1

/-- The port of window `w` (R114). -/
def State.hwPort (s : State) (t w : Nat) : Nat := s.field (.TL_HWROUTE t) w 1

/-- The manager side that window `w` uses can issue one more read now (R269, R271). -/
def State.hostRoom (s : State) (t w : Nat) : Bool :=
  let p := s.hwPort t w
  s.mgrRuns && decide ((s.mgrOut p false).length < s.maxOut p false)

/-! ### Fetch -/

/-- How a fetch ends: with the word, with an exception, with a core fault; `other`: the word there is not the one that
the command carries, so the command does not happen. -/
inductive FetchEnd where
  | run
  | miss
  | fault (cause detail : Nat)
  | other
deriving DecidableEq, Repr

/-- A fetch from scratchpad or shared memory at a block-window offset. -/
def State.fetchMem (s : State) (a : Nat) (w : Word) : State × FetchEnd :=
  if !s.memIsReady a then (s, .fault 2 2)
  else
    let p := s.readPhys a
    let s' := s.eccRead [p] false
    if s.eccOf p = some .uncorrectable then (s', .fault 3 0)
    else if s.readWord a = w then (s', .run) else (s, .other)

/-- A fetch through a host window: the instruction cache holds the word, or it comes from the host, when the port of the
window has a read to spare (R82, R128, R271). -/
def State.fetchHost (s : State) (t n win : Nat) (a w : Word) : State × FetchEnd :=
  let s0 := s
  let s := s.detLostBy t n 2
  if s.thClass t n = 1 then (s, .fault 2 3)
  else if !s.flag (.TH_HWIN t n win) 0 then (s, .miss)
  else if !s.flag (.TH_WPERM t n) (8 + win) then (s, .fault 2 1)
  else if !s.cached t n win then (if s.hostRoom t win then (s, .run) else (s0, .other))
  else match (s.tile t).icache.find? (fun x => x.1 == n && x.2.1 == a) with
    | some x => if x.2.2 = w then (s, .run) else (s, .other)
    | none =>
      if s.hostRoom t win then (s.setTile t { s.tile t with icache := ((n, a, w) :: (s.tile t).icache).take 4096 }, .run)
      else (s0, .other)

/-- The fetch of word `w` at the thread's PC (R78, R109, R110, R128). -/
def State.fetch (s : State) (t n : Nat) (w : Word) : State × FetchEnd :=
  let pc := s.rd (.TH_PC t n)
  let fixed := s.thClass t n == 1
  match rgnOf pc.toNat with
  | .scratch => s.fetchMem (memAddr t pc.toNat) w
  | .shared => if fixed then (s, .fault 2 3) else s.fetchMem (memAddr t pc.toNat) w
  | .host win => s.fetchHost t n win pc w
  | .rom => if fixed then (s, .fault 2 3) else if t = 0 ∧ n = 0 then (s, .run) else (s, .fault 2 1)
  | _ => (s, .fault 2 (if fixed then 3 else 1))

/-! ### Exceptions and interrupts (R91, R94) -/

/-- Enter the exception handler (R94): DEPTH rises, the saved PC goes to TH_EPC[DEPTH - 1], XCAUSE and for TRAP TRAPNUM are
recorded, IE clears. -/
def State.takeException (s : State) (t n x : Nat) (saved : Word) (trapnum : Option Nat) : State :=
  let d := s.depth t n
  let st := setFld (setFld (s.rd (.TH_STAT t n)) 4 2 (d + 1)) 16 8 x
  let st := match trapnum with | some k => setFld st 24 8 k | none => st
  ((((s.wr (.TH_EPC t n d) saved).wr (.TH_STAT t n) st).setFlag (.TH_CTL t n) 4 false).wr (.TH_PC t n)
    ((s.rd (.TH_VBASE t n) &&& 0xFFFFFC00) + 0x200))

/-- Enter interrupt `b` (R91): its pending bit clears, the PC is saved in TH_EPC[0], DEPTH becomes 1, IE clears, XCAUSE is
0x40 + b, and execution goes on at VBASE + 16 b. -/
def State.takeInterrupt (s : State) (t n b : Nat) : State :=
  let st := setFld (setFld (s.rd (.TH_STAT t n)) 4 2 1) 16 8 (0x40 + b)
  (((((s.setFlag (.TH_EVPEND t n) b false).wr (.TH_EPC t n 0) (s.rd (.TH_PC t n))).wr (.TH_STAT t n) st).setFlag
    (.TH_CTL t n) 4 false).wr (.TH_PC t n) ((s.rd (.TH_VBASE t n) &&& 0xFFFFFC00) + word (16 * b)))

/-- Return from an exception or interrupt (R94, R158): DEPTH falls, and IE sets when it reaches 0. -/
def State.returnException (s : State) (t n : Nat) : State :=
  let d := s.depth t n - 1
  let s := s.setField (.TH_STAT t n) 4 2 d
  if d = 0 then s.setFlag (.TH_CTL t n) 4 true else s

/-! ### Ends of an instruction -/

/-- What the execution of an instruction comes to. -/
inductive InsnEnd where
  /-- completed; the next instruction follows, or the hardware loop goes back -/
  | done (s : State) (occ : Nat)
  /-- completed with a new PC; `taken` tells of a taken branch or jump -/
  | jump (s : State) (pc : Word) (occ : Nat) (taken : Bool)
  /-- an exception with the PC of the instruction saved, and no effect -/
  | exc (s : State) (x : Nat)
  /-- TRAP with its number -/
  | trap (k : Nat)
  /-- BREAK, or a watchpoint hit with its number and address: debug cause, index, address -/
  | brk (cause idx : Nat) (addr : Word)
  /-- a core fault: cause, detail, refusal cause, address of the access -/
  | fault (s : State) (cause detail refc : Nat) (addr : Word)
  /-- the instruction waits; the state holds the wait; the least occupancy from the issue on (R71) -/
  | wait (s : State) (occ : Nat)
  /-- completed; the thread issues nothing further, its PC is set -/
  | ended (s : State)
  /-- a store has taken the power from MAIN: no thread remains -/
  | gone (s : State)
  /-- the instruction cannot go on yet: nothing happens -/
  | stall
deriving DecidableEq, Repr

/-- After an instruction, an interrupt entry or the end of a wait, a step or a halt that waited halts the thread (R469,
R470); `back` is the code it resumes to. -/
def State.afterInsn (s : State) (t n back : Nat) : State :=
  let x := s.thread t n
  if x.stepping then s.enterDbg t n back 2 0 0
  else if x.haltReq then s.enterDbg t n back (if x.byTile then 6 else 1) 0 0
  else s

/-- The tile has issued in a cycle (R69, R76, R101). -/
def State.issued (s : State) (i : Issue) : State :=
  let x := s.tile i.tile
  let claim := (s.slotEntry i.tile i.cycle).1 == 0 && s.thClass i.tile i.thread == 0
  s.setTile i.tile { x with lastCycle := some i.cycle, dlArmed := true, pair := none,
                            lastClaim := if claim then some i.thread else x.lastClaim }

/-- The thread is occupied up to a cycle (R70), and its breakpoints act again. -/
def State.occupy (s : State) (t n until' : Nat) (taken : Bool) : State :=
  s.setThread t n { s.thread t n with readyAt := until', skipBp := false, taken := taken }

/-- The loop-back of R126, part of the completion of the instruction at `pc`, which would go on at `npc`: the state and
the next PC. -/
def State.loopBackTo (s : State) (t n : Nat) (pc npc : Word) : State × Word :=
  if s.flag (.LCTL t n) 31 && s.field (.LCTL t n) 0 2 == s.depth t n && s.rd (.LEND t n) == pc then
    let c := s.rd (.LCOUNT t n) - 1
    let s := s.wr (.LCOUNT t n) c
    if c ≠ 0 then (s, s.rd (.LSTART t n)) else (s.setFlag (.LCTL t n) 31 false, npc)
  else (s, npc)

/-- The loop-back of an instruction after which the next one in memory follows. -/
def State.loopBack (s : State) (t n : Nat) (pc : Word) : State × Word := s.loopBackTo t n pc (pc + 4)

/-- A completed instruction moves the PC on; the pair that it may begin is noted (R83). -/
def State.complete (s : State) (i : Issue) (w pc : Word) (occ : Nat) : State :=
  let t := i.tile
  let n := i.thread
  let first := s.elastic t n && pairable w && !(s.thread t n).taken && !(s.thread t n).stepping
    && (s.tile t).lastCycle != some i.cycle
  let r := s.loopBack t n pc
  let s := ((r.1.wr (.TH_PC t n) r.2).issued i).occupy t n (i.cycle + occ) false
  let s := if first && r.2 == pc + 4 then s.setTile t { s.tile t with pair := some (n, fD w) } else s
  s.afterInsn t n 1

/-- An exception of the instruction at `pc`, or DOUBLE at DEPTH 2 (R94). -/
def State.raiseExc (s : State) (i : Issue) (x : Nat) (pc saved : Word) (trapnum : Option Nat) : State :=
  let t := i.tile
  let n := i.thread
  if s.depth t n = 2 then s.stopOn t n i.cycle 7 0 0 pc 0
  else (((s.takeException t n x saved trapnum).issued i).occupy t n (i.cycle + 4) false).afterInsn t n 1

/-- A BREAK or a hit: it halts the thread under BRKHALT, else raises XCAUSE 0x02 (R474). -/
def State.breakHit (s : State) (i : Issue) (pc : Word) (cause idx : Nat) (addr : Word) : State :=
  if s.flag .DB_CTL 0 then s.enterDbg i.tile i.thread 1 cause idx addr else s.raiseExc i 2 pc pc none

/-- The state after an instruction of word `w` at `pc`, which began in state `s`. -/
def State.retire (s : State) (i : Issue) (w pc : Word) (e : InsnEnd) : State :=
  let t := i.tile
  let n := i.thread
  match e with
  | .done s' occ => s'.complete i w pc occ
  | .jump s' npc occ taken => (((s'.wr (.TH_PC t n) npc).issued i).occupy t n (i.cycle + occ) taken).afterInsn t n 1
  | .exc s' x => s'.raiseExc i x pc pc none
  | .trap k =>
    if s.depth t n = 2 then s.stopOn t n i.cycle 7 0 0 pc 0
    else let r := s.loopBack t n pc; r.1.raiseExc i 1 pc r.2 (some k)
  | .brk cause idx addr => s.breakHit i pc cause idx addr
  | .fault s' cause detail refc addr => (s'.issued i).stopOn t n i.cycle cause detail refc pc addr
  | .wait s' occ => (s'.issued i).occupy t n (i.cycle + occ) false
  | .ended s' => ((s'.issued i).occupy t n (i.cycle + 4) false).afterInsn t n (s'.haltBack t n)
  | .gone s' => s'
  | .stall => s

/-! ### One instruction -/

/-- The instruction of word `w` after its fetch: the breakpoint (R473), NOCTX (R106), an undefined encoding (R115), and
the body of its row. A word of another row is not this command's instruction. -/
def State.execute (s0 s : State) (i : Issue) (w : Word) (row : Row) (body : State → InsnEnd) : State :=
  let t := i.tile
  let n := i.thread
  let pc := s.rd (.TH_PC t n)
  match (if (s.thread t n).skipBp then none else s.breakpoint t n pc) with
  | some k => s.breakHit i pc 4 k 0
  | none =>
    if needsCtx w && (s.boundCtx t n).isNone then s.raiseExc i 4 pc pc none
    else match rowOf w with
      | none => (s.issued i).stopOn t n i.cycle 1 0 0 pc 0
      | some r =>
        if r ≠ row then s0
        else match body s with
          | .stall => s0
          | e => s.retire i w pc e

/-- The issue of the instruction of word `w`, of row `row`, whose effect is `body`; a pair forms only with a second
instruction that is fetched without fault (R83). -/
def State.runInsn (s : State) (i : Issue) (w : Word) (row : Row) (body : State → InsnEnd) : State :=
  if s.mayPair i w then
    match s.fetch i.tile i.thread w with
    | (s', .run) => s.execute s' i w row body
    | _ => s
  else if s.mayIssue i then
    match s.fetch i.tile i.thread w with
    | (_, .other) => s
    | (s', .miss) => s'.raiseExc i 3 (s.rd (.TH_PC i.tile i.thread)) (s.rd (.TH_PC i.tile i.thread)) none
    | (s', .fault c d) =>
      (s'.issued i).stopOn i.tile i.thread i.cycle c d 0 (s.rd (.TH_PC i.tile i.thread)) (s.rd (.TH_PC i.tile i.thread))
    | (s', .run) => s.execute s' i w row body
  else s

/-- The outcome of a thread instruction as a command. -/
def insn (s : State) (i : Issue) (w : Word) (row : Row) (body : State → InsnEnd) : Out :=
  guarded (s.hasThread i.tile i.thread) (s.runInsn i w row body)

end Sys2Proof.Machine
end

