-- ==== Sys2Proof/Machine/IntOps.lean ====
section
/-! DEFINITION. The integer, bitfield and control instructions (R119 to R126). -/

namespace Sys2Proof.Machine

/-! ### Arithmetic (R119, R120) -/

/-- A result with the flags ISTAT.SAT and ISTAT.DZ that it sets. -/
structure IntRes where
  val : Word
  sat : Bool
  dz : Bool
deriving DecidableEq, Repr

/-- A result that sets no flag. -/
def plainRes (v : Word) : IntRes := ⟨v, false, false⟩

/-- A comparison writes 1 or 0. -/
def boolRes (b : Bool) : IntRes := plainRes (if b then 1 else 0)

/-- An exact result clamped to a range, with SAT when it clamps. -/
def clampRes (lo hi r : Int) : IntRes :=
  if hi < r then ⟨wordI hi, true, false⟩ else if r < lo then ⟨wordI lo, true, false⟩ else plainRes (wordI r)

/-- Quotient and remainder of DIV and REM, DZ for a zero divisor (R120). -/
def divRem (signed : Bool) (a b : Word) : Word × Word × Bool :=
  if b = 0 then (0xFFFFFFFF, a, true)
  else if signed && a == 0x80000000 && b == 0xFFFFFFFF then (0x80000000, 0, false)
  else if signed then (wordI (a.toInt.tdiv b.toInt), wordI (a.toInt.tmod b.toInt), false)
  else (word (a.toNat / b.toNat), word (a.toNat % b.toNat), false)

/-- The operation of opcode 0x01 (R119, R120). -/
def intOp (f : Nat) (a b : Word) : IntRes :=
  let sh := b.toNat % 32
  if f = 0x00 then plainRes (a + b)
  else if f = 0x01 then plainRes (a - b)
  else if f = 0x02 then plainRes (a &&& b)
  else if f = 0x03 then plainRes (a ||| b)
  else if f = 0x04 then plainRes (a ^^^ b)
  else if f = 0x05 then plainRes (a <<< sh)
  else if f = 0x06 then plainRes (a >>> sh)
  else if f = 0x07 then plainRes (a.sshiftRight sh)
  else if f = 0x08 then boolRes (a == b)
  else if f = 0x09 then boolRes (a != b)
  else if f = 0x0A then boolRes (decide (a.toInt < b.toInt))
  else if f = 0x0B then boolRes (decide (a.toNat < b.toNat))
  else if f = 0x0C then plainRes (if a.toInt < b.toInt then a else b)
  else if f = 0x0D then plainRes (if a.toInt < b.toInt then b else a)
  else if f = 0x0E then plainRes (if a.toNat < b.toNat then a else b)
  else if f = 0x0F then plainRes (if a.toNat < b.toNat then b else a)
  else if f = 0x10 then clampRes (-0x80000000) 0x7FFFFFFF (a.toInt + b.toInt)
  else if f = 0x11 then clampRes (-0x80000000) 0x7FFFFFFF (a.toInt - b.toInt)
  else if f = 0x12 then clampRes 0 0xFFFFFFFF ((a.toNat : Int) + b.toNat)
  else if f = 0x13 then clampRes 0 0xFFFFFFFF ((a.toNat : Int) - b.toNat)
  else if f = 0x20 then plainRes (a * b)
  else if f = 0x21 then plainRes (wordI (a.toInt * b.toInt / 2 ^ 32))
  else if f = 0x22 then plainRes (word (a.toNat * b.toNat / 2 ^ 32))
  else if f = 0x24 then ⟨(divRem true a b).1, false, (divRem true a b).2.2⟩
  else if f = 0x25 then ⟨(divRem false a b).1, false, (divRem false a b).2.2⟩
  else if f = 0x26 then ⟨(divRem true a b).2.1, false, (divRem true a b).2.2⟩
  else ⟨(divRem false a b).2.1, false, (divRem false a b).2.2⟩

/-- The operation of opcode 0x03 (R122). -/
def immOp (f : Nat) (a : Word) (imm : Nat) : Word :=
  if f = 0 then a + sext 12 imm
  else if f = 1 then a &&& word imm
  else if f = 2 then a ||| word imm
  else if f = 3 then a ^^^ word imm
  else if f = 4 then (if a.toInt < (sext 12 imm).toInt then 1 else 0)
  else if f = 5 then (if a.toNat < (sext 12 imm).toNat then 1 else 0)
  else if f = 6 then a <<< (imm % 32)
  else if f = 7 then a >>> (imm % 32)
  else a.sshiftRight (imm % 32)

/-- Extract a bitfield (R123). -/
def extField (signed : Bool) (a : Word) (pos wm1 : Nat) : Word :=
  if signed then sext (wm1 + 1) (fld a pos (wm1 + 1)) else word (fld a pos (wm1 + 1))

/-! ### Branches (R71, R125) -/

/-- The condition of a branch opcode. -/
def branchCond (o : Nat) (a b : Word) : Bool :=
  if o = 0x0B then a == b
  else if o = 0x0C then a != b
  else if o = 0x0D then decide (a.toInt < b.toInt)
  else if o = 0x0E then decide (b.toInt ≤ a.toInt)
  else if o = 0x0F then decide (a.toNat < b.toNat)
  else decide (b.toNat ≤ a.toNat)

/-- A taken branch or jump: 4 cycles if the branch target buffer predicted it, else 8; the buffer keeps the newest 64
(R71, R82). -/
def State.takeBranch (s : State) (t n : Nat) (pc target : Word) : InsnEnd :=
  if s.elastic t n then
    if (s.tile t).btb.contains (pc, target) then .jump s target 4 true
    else .jump (s.setTile t { s.tile t with
      btb := ((pc, target) :: (s.tile t).btb.filter (fun (x : Word × Word) => x.1 != pc)).take 64 }) target 8 true
  else .jump s target 8 true

/-! ### Commands -/

/-- INTEGER_REGISTER_OP (R119 to R121). -/
def execIntegerRegisterOp (i : Issue) (w : Word) (s : State) : Out :=
  insn s i w .intReg (fun s =>
    let r := intOp (fR w) (s.g i.tile i.thread (fS1 w)) (s.g i.tile i.thread (fS2 w))
    .done ((s.setIstat i.tile i.thread r.sat r.dz).setG i.tile i.thread (fD w) r.val) (if 0x24 ≤ fR w then 12 else 4))

/-- INTEGER_IMMEDIATE_OP (R122). -/
def execIntegerImmediateOp (i : Issue) (w : Word) (s : State) : Out :=
  insn s i w .intImm (fun s =>
    .done (s.setG i.tile i.thread (fD w) (immOp (fI w) (s.g i.tile i.thread (fS1 w)) (imm12 w))) 4)

/-- EXT (R123). -/
def execExtract (i : Issue) (w : Word) (s : State) : Out :=
  insn s i w .ext (fun s =>
    .done (s.setG i.tile i.thread (fD w) (extField false (s.g i.tile i.thread (fS1 w)) (fS2 w) (fld w 6 5))) 4)

/-- EXTS (R123). -/
def execExtractS (i : Issue) (w : Word) (s : State) : Out :=
  insn s i w .exts (fun s =>
    .done (s.setG i.tile i.thread (fD w) (extField true (s.g i.tile i.thread (fS1 w)) (fS2 w) (fld w 6 5))) 4)

/-- INS (R123). -/
def execInsertField (i : Issue) (w : Word) (s : State) : Out :=
  insn s i w .ins (fun s =>
    .done (s.setG i.tile i.thread (fD w)
      (setFld (s.g i.tile i.thread (fD w)) (fS2 w) (fld w 6 5 + 1) (s.g i.tile i.thread (fS1 w)).toNat)) 4)

/-- LUI (R124). -/
def execLui (i : Issue) (w : Word) (s : State) : Out :=
  insn s i w .lui (fun s => .done (s.setG i.tile i.thread (fD w) (imm20 w)) 4)

/-- AUIPC (R124). -/
def execAuipc (i : Issue) (w : Word) (s : State) : Out :=
  insn s i w .auipc (fun s =>
    .done (s.setG i.tile i.thread (fD w) (s.rd (.TH_PC i.tile i.thread) + imm20 w)) 4)

/-- JAL (R125). -/
def execJal (i : Issue) (w : Word) (s : State) : Out :=
  insn s i w .jal (fun s =>
    let pc := s.rd (.TH_PC i.tile i.thread)
    (s.setG i.tile i.thread (fD w) (pc + 4)).takeBranch i.tile i.thread pc (pc + off21 w))

/-- JALR (R111, R125): the target is formed before Gd is written. -/
def execJalr (i : Issue) (w : Word) (s : State) : Out :=
  insn s i w .jalr (fun s =>
    let pc := s.rd (.TH_PC i.tile i.thread)
    let target := (s.g i.tile i.thread (fS1 w) + simm12 w) &&& 0xFFFFFFFC
    (s.setG i.tile i.thread (fD w) (pc + 4)).takeBranch i.tile i.thread pc target)

/-- BRANCH (R125): BEQ, BNE, BLT, BGE, BLTU, BGEU by opcode; bits 25:21 and 20:16 name the operands. -/
def execBranch (i : Issue) (w : Word) (s : State) : Out :=
  insn s i w .branch (fun s =>
    let pc := s.rd (.TH_PC i.tile i.thread)
    if branchCond (opcode w) (s.g i.tile i.thread (fD w)) (s.g i.tile i.thread (fS1 w)) then
      s.takeBranch i.tile i.thread pc (pc + off16 w)
    else .done s 4)

/-- LOOP (R126). -/
def execHwLoop (i : Issue) (w : Word) (s : State) : Out :=
  insn s i w .loop (fun s =>
    let t := i.tile
    let n := i.thread
    let pc := s.rd (.TH_PC t n)
    let k := word (4 * fld w 0 16)
    let c := s.g t n (fD w)
    if c = 0 then (let r := s.loopBackTo t n pc (pc + k + 4); .jump r.1 r.2 4 false)
    else .done ((((s.wr (.LCOUNT t n) c).wr (.LSTART t n) (pc + 4)).wr (.LEND t n) (pc + k)).wr (.LCTL t n)
      (word (2 ^ 31 + s.depth t n))) 4)

end Sys2Proof.Machine
end

