-- ==== Sys2Proof/Machine/MemOps.lean ====
section
/-! DEFINITION. Loads, stores, atomics, FENCE and IFLUSH (R127 to R140): the checks of R128, split accesses, the host store
buffer, the caches, watchpoints (R473), and what accesses do to the timing-independence guarantee (R226). -/

namespace Sys2Proof.Machine

/-! ### Checks (R103, R110, R112, R113, R128) -/

/-- The kinds of access. -/
inductive AccKind where
  | load | store | amo
deriving DecidableEq, Repr

/-- How a check of R128 fails: an exception, or a core fault with its detail. -/
inductive Stop where
  | exc (x : Nat)
  | fault (cause detail : Nat)
deriving DecidableEq, Repr

/-- The access as one part, or as the two parts of a split access: address and length (R131). -/
def splitParts (a n : Nat) : List (Nat × Nat) :=
  if a % n = 0 then [(a, n)] else [(a, n - a % n), ((a + n - a % n) % 2 ^ 32, a % n)]

/-- The thread owns the word of the Q view (R212). -/
def State.ownsWord (s : State) (t n i : Nat) : Bool := (s.ownAt i).toNat == 0x80 + 16 * t + n

/-- The thread owns every word of the Q view that a range of bytes touches. -/
def State.ownsRange (s : State) (t n o len : Nat) : Bool :=
  (List.range ((o % 4 + len + 3) / 4)).all (fun k => s.ownsWord t n (o / 4 + k))

/-- Steps 2, 4, 5 and 6 in shared memory: atomics only outside the image, stores to no I or P view, TH_WPERM outside the
image, ownership in the Q view, readiness (R103, R128, R129, R196). -/
def State.sharedStop (s : State) (t n : Nat) (k : AccKind) (a len : Nat) : Option Stop :=
  let ready := if s.memIsReady (memAddr t a) then none else some (Stop.fault 2 2)
  match s.viewOf (memAddr t a) with
  | none =>
    if (k != .store && !s.flag (.TH_WPERM t n) 13) || (k != .load && !s.flag (.TH_WPERM t n) 12) then some (.fault 2 1) else ready
  | some (v, o) =>
    if k = .amo then some (.fault 2 1)
    else if k = .load then ready
    else if v = .I ∨ v = .P then some (.fault 2 1)
    else if v = .Q ∧ s.ownsRange t n o len = false then some (.fault 5 0)
    else ready

/-- Steps 2 to 6 for one part of an access of `sz` bytes (R109, R112, R113, R128). -/
def State.partStop (s : State) (t n : Nat) (k : AccKind) (sz a len : Nat) : Option Stop :=
  match rgnOf a with
  | .scratch => if s.memIsReady (memAddr t a) then none else some (.fault 2 2)
  | .shared => s.sharedStop t n k a len
  | .host w =>
    if k = .amo then some (.fault 2 1)
    else if !s.flag (.TH_HWIN t n w) 0 then some (.exc 3)
    else if !s.flag (.TH_WPERM t n) (if k = .store then 4 + w else w) then some (.fault 2 1)
    else none
  | .tilePage =>
    if sz ≠ 4 ∨ len ≠ 4 ∨ k = .amo then some (.fault 2 1) else if k = .store ∧ n ≠ 0 then some (.fault 2 4) else none
  | .setup =>
    if sz ≠ 4 ∨ len ≠ 4 ∨ k = .amo then some (.fault 2 1)
    else if k = .store ∧ n ≠ 0 ∧ s.flag (.TH_WPERM t n) 14 = false then some (.fault 2 1)
    else none
  | .rom => if t = 0 ∧ k = .load then none else some (.fault 2 1)
  | .unmapped => some (.fault 2 1)

/-- The first part that fails, with its address. -/
def State.accessStop (s : State) (t n : Nat) (k : AccKind) (sz : Nat) (ps : List (Nat × Nat)) : Option (Stop × Nat) :=
  ps.findSome? (fun p => (s.partStop t n k sz p.1 p.2).map (fun st => (st, p.1)))

/-- A failed check as the end of the instruction. -/
def stopEnd (s : State) (st : Stop) (a : Nat) : InsnEnd :=
  match st with
  | .exc x => .exc s x
  | .fault c d => .fault s c d 0 (word a)

/-- The checks of decode and readiness on a word of the tile page or the setup window (R112, R113, R128). -/
def State.setupStop (s : State) (t n a : Nat) : Option Stop :=
  let o := match rgnOf a with
    | .tilePage => some (0x10000 + 0x1000 * t + a % 0x1000)
    | .setup => some (a - 0x08000000)
    | _ => none
  match o with
  | none => none
  | some o =>
    let src := Src.thread t n (rgnOf a == .tilePage)
    if s.decodeFor src o = .decerr then some (.fault 2 1)
    else if !s.targetReady o (s.decodeFor src o) then some (.fault 2 2)
    else none

/-! ### Watchpoints (R473) -/

/-- A watchpoint of the tile that the part of an access hits: the lowest-numbered one. -/
def State.watch (s : State) (t n : Nat) (k : AccKind) (a len : Nat) : Option Nat :=
  (List.range 4).find? (fun i =>
    let c := s.rd (.DB_WP t i 1)
    let kind := fld c 29 2
    let sh := fld c 16 5
    bit c 31 && bit c n && (kind == 3 || (kind == 1 && k != .store) || (kind == 2 && k != .load))
      && (List.range len).any (fun j => (a + j) >>> sh == (s.rd (.DB_WP t i 0)).toNat >>> sh))

/-- The first part that hits a watchpoint: its number and the part's address. -/
def State.watchParts (s : State) (t n : Nat) (k : AccKind) (ps : List (Nat × Nat)) : Option (Nat × Nat) :=
  ps.findSome? (fun p => (s.watch t n k p.1 p.2).map (fun i => (i, p.1)))

/-! ### The guarantee (R226) -/

/-- The address lies in the I, Q or M slice of a group of which the thread is a member, IDLE groups included (R198). -/
def State.inOwnSlice (s : State) (t n a : Nat) : Bool :=
  let gs := (List.range 8).filter (fun g => s.isMember g t n)
  match s.viewOf (memAddr t a) with
  | some (.I, o) => gs.any (fun g => s.inISlice g (o / 64))
  | some (.Q, o) => gs.any (fun g => s.inQSlice g (o / 64))
  | some (.M, o) => gs.any (fun g => s.inMSlice g (o / 64))
  | _ => false

/-- A member's access reaches shared memory outside the group's I, Q and M slices and the H view: SHM. -/
def State.noteShared (s : State) (t n a : Nat) : State :=
  forEach (s.groupsOf t n) (fun g s =>
    let own := match s.viewOf (memAddr t a) with
      | some (.I, o) => s.inISlice g (o / 64)
      | some (.Q, o) => s.inQSlice g (o / 64)
      | some (.M, o) => s.inMSlice g (o / 64)
      | some (.H, _) => true
      | _ => false
    if own then s else s.detLost g 4) s

/-- A member's access reaches a host window, whatever its outcome: HWIN. -/
def State.noteHost (s : State) (t n : Nat) (ps : List (Nat × Nat)) : State :=
  if ps.any (fun p => match rgnOf p.1 with | .host _ => true | _ => false) then s.detLostBy t n 2 else s

/-! ### Scratchpad and shared memory -/

/-- A thread's read of one part: the state with errors reported, and the bytes, or none for an uncorrectable word. -/
def State.memLoad (s : State) (t n a len : Nat) : State × Option (List Byte) :=
  let m := memAddr t a
  let s := if rgnOf a = .shared then s.noteShared t n a else s
  let ws := wordsOf s.readPhys m len
  (s.eccRead ws false, if s.eccBad ws then none else some (s.readBytes m len))

/-- A thread's write of one part, with all it does to marks, banks, edits and the guarantee. -/
def State.memStore (s : State) (t n a : Nat) (bs : List Byte) : State :=
  let m := memAddr t a
  let s := (s.eccWrite m bs.length false).1
  if rgnOf a = .shared then ((s.noteShared t n a).extWrite m (some (t, n))).writeBytes m bs
  else forEach (List.range bs.length) (fun j s => (s.touchActive t (a + j)).touchShadow t (a + j)) (s.writeBytes m bs)

/-! ### Host windows (R133 to R137) -/

/-- The window of a host-window address. -/
def winOf (a : Nat) : Nat := (a - 0x04000000) / 0x400000

/-- A store-buffer entry overlaps a range of host addresses. -/
def sbOverlaps (e : SbEntry) (ha len : Nat) : Bool := decide (e.addr < ha + len ∧ ha < e.addr + e.bytes.length)

/-- What the store buffer does to a load (R135). -/
inductive Forward where
  | passes
  | data (bs : List Byte)
  | waits
deriving DecidableEq, Repr

/-- The youngest entry that overlaps a load decides (R135). -/
def State.forward (s : State) (t ha len : Nat) : Forward :=
  match (s.tile t).sb.reverse.find? (fun e => sbOverlaps e ha len) with
  | none => .passes
  | some e => if e.addr ≤ ha ∧ ha + len ≤ e.addr + e.bytes.length then .data ((e.bytes.drop (ha - e.addr)).take len) else .waits

/-- The data cache's word for a thread address. -/
def State.dcWord (s : State) (t n a : Nat) : Option Word :=
  ((s.tile t).dcache.find? (fun x => x.1 == n && x.2.1 == word a)).map (·.2.2)

/-- The bytes of a range from the data cache, if it holds every word of it. -/
def State.dcBytes (s : State) (t n a len : Nat) : Option (List Byte) :=
  let ws := (List.range ((a % 4 + len + 3) / 4)).map (fun k => s.dcWord t n (a / 4 * 4 + 4 * k))
  if ws.all (·.isSome) then some (((ws.flatMap (fun w => leBytes 4 (w.getD 0).toNat)).drop (a % 4)).take len) else none

/-- Words that a load brought are installed in the data cache, 2048 at most. -/
def State.dcInstall (s : State) (t n a : Nat) (bs : List Byte) : State :=
  if a % 4 = 0 ∧ bs.length % 4 = 0 then
    let new := (List.range (bs.length / 4)).map (fun k => (n, word (a + 4 * k), word (ofLeBytes ((bs.drop (4 * k)).take 4))))
    let old := (s.tile t).dcache.filter (fun x => !new.any (fun y => y.1 == x.1 && y.2.1 == x.2.1))
    s.setTile t { s.tile t with dcache := (new ++ old).take 2048 }
  else s

/-- A drained store updates the bytes of its line in the data cache (R137). -/
def State.dcUpdate (s : State) (t : Nat) (e : SbEntry) : State :=
  s.setTile t { s.tile t with dcache := (s.tile t).dcache.map (fun (x : Nat × Word × Word) =>
    let ha := s.hostAddr t x.1 x.2.1.toNat
    (x.1, x.2.1, word (ofLeBytes ((List.range 4).map (fun k =>
      if e.addr ≤ ha + k ∧ ha + k < e.addr + e.bytes.length then e.bytes.getD (ha + k - e.addr) 0
      else BitVec.ofNat 8 (fld x.2.2 (8 * k) 8))))) ) }

/-- What one part of a load gives. -/
inductive Got where
  | bytes (bs : List Byte) (occ : Nat)
  | stop (cause detail refc : Nat)
  | stall
deriving DecidableEq, Repr

/-- A load of one part from a host window; `out` holds the bytes that the host answers, `wait` cycles after the issue
(R71, R128, R135). -/
def State.hostLoad (s : State) (t n a len wait : Nat) (out : List Byte) (err : Bool) : State × Got :=
  match s.forward t (s.hostAddr t n a) len with
  | .waits => (s, .stall)
  | .data bs => (s, .bytes bs 6)
  | .passes =>
    match (if s.cached t n (winOf a) then s.dcBytes t n a len else none) with
    | some bs => (s, .bytes bs 6)
    | none =>
      if !s.hostRoom t (winOf a) then (s, .stall)
      else if err then (s, .stop 4 0 0)
      else (if s.cached t n (winOf a) then s.dcInstall t n a out else s, .bytes out (wait + 4))

/-- The occupancy of one part in scratchpad or shared memory, `wait` the cycles that the bank arbitration costs an ELASTIC or
URGENT thread, 16 at most (R71, R79, R131, R247). -/
def State.memOcc (s : State) (t n a wait : Nat) (split : Bool) : Nat :=
  if rgnOf a ≠ .shared then (if split then 8 else 6)
  else if s.inOwnSlice t n a then (if split then 12 else 8)
  else if s.thClass t n = 1 then 32
  else (if split then 10 else 8) + min wait 16

/-- A load of one part (R127, R128 step 7). -/
def State.loadPart (s : State) (t n a len wait : Nat) (split : Bool) (out : List Byte) (err : Bool) : State × Got :=
  match rgnOf a with
  | .scratch | .shared =>
    (match s.memLoad t n a len with
     | (s', some bs) => (s', .bytes bs (s.memOcc t n a wait split))
     | (s', none) => (s', .stop 3 0 0))
  | .host _ => s.hostLoad t n a len wait out err
  | .rom => (s, .bytes out 6)
  | .tilePage =>
    (match s.threadRead t n true (0x10000 + 0x1000 * t + a % 0x1000) with
     | (s', .ok v) => (s', .bytes (leBytes 4 v.toNat) 8)
     | (s', .error e) => (s', .stop 2 e.1 e.2))
  | .setup =>
    (match s.threadRead t n false (a - 0x08000000) with
     | (s', .ok v) => (s', .bytes (leBytes 4 v.toNat) (12 + wait))
     | (s', .error e) => (s', .stop 2 e.1 e.2))
  | .unmapped => (s, .stop 2 1 0)

/-- The parts of a load in order: bytes and the larger occupancy, or the first that fails with its address; `err` tells of
the first part, `err2` of the second (R132). -/
def State.loadParts (s : State) (t n wait : Nat) (split err err2 : Bool) : List (Nat × Nat) → List Byte → State × Got × Nat
  | [], _ => (s, .bytes [] 0, 0)
  | p :: ps, out =>
    match s.loadPart t n p.1 p.2 wait split (((List.range p.2).map (fun k => out.getD k 0))) err with
    | (s, .bytes bs occ) =>
      match State.loadParts s t n wait split err2 err2 ps (out.drop p.2) with
      | (s, .bytes bs' occ', a) => (s, .bytes (bs ++ bs') (max occ occ'), a)
      | x => x
    | (s, g) => (s, g, p.1)

/-- A load of `sz` bytes from `a`, all checks included; `k` is what its bytes do (R127, R128, R131, R132). -/
def State.loadAccess (s : State) (t n a sz wait : Nat) (h : HostData) (k : State → Nat → Nat → InsnEnd) : InsnEnd :=
  let ps := splitParts a sz
  let s := s.noteHost t n ps
  match s.accessStop t n .load sz ps with
  | some (st, b) => stopEnd s st b
  | none =>
    match s.watchParts t n .load ps with
    | some (i, b) => .brk 5 i (word b)
    | none =>
      match s.loadParts t n wait (decide (1 < ps.length)) h.err h.err2 ps h.bytes with
      | (s, .bytes bs occ, _) => k s (ofLeBytes bs) occ
      | (s, .stop c d r, b) => .fault s c d r (word b)
      | (_, .stall, _) => .stall

/-! ### Stores -/

/-- Enter a store in the store buffer and send it (R134, R136). -/
def State.bufferStore (s : State) (t n a : Nat) (pc : Word) (bs : List Byte) : State :=
  let p := s.hwPort t (winOf a)
  let ha := s.hostAddr t n a
  (s.setTile t { s.tile t with sb := (s.tile t).sb ++ [⟨p, ha, bs, n, pc, word a⟩] }).mgrWrite p ha bs (.store t)

/-- A store of one part: the state, or the fault of a setup-region store with its detail and REFCAUSE. -/
def State.storePart (s : State) (t n a : Nat) (pc : Word) (bs : List Byte) : State × Option (Nat × Nat) :=
  match rgnOf a with
  | .scratch | .shared => (s.memStore t n a bs, none)
  | .host w =>
    if s.thClass t n = 1 then (s.mgrWrite (s.hwPort t w) (s.hostAddr t n a) bs (.threadStore t n), none)
    else (s.bufferStore t n a pc bs, none)
  | .tilePage => s.threadWrite t n true (0x10000 + 0x1000 * t + a % 0x1000) (word (ofLeBytes bs))
  | .setup => s.threadWrite t n false (a - 0x08000000) (word (ofLeBytes bs))
  | _ => (s, some (1, 0))

/-- The parts of a store in ascending order, lower address first. -/
def State.storeParts (s : State) (t n : Nat) (pc : Word) : List (Nat × Nat) → List Byte → State × Option (Nat × Nat)
  | [], _ => (s, none)
  | p :: ps, bs =>
    match s.storePart t n p.1 pc (bs.take p.2) with
    | (s, none) => State.storeParts s t n pc ps (bs.drop p.2)
    | x => x

/-- The parts that lie in host windows: port, host address, thread address. -/
def State.hostParts (s : State) (t n : Nat) (ps : List (Nat × Nat)) : List (Nat × Nat × Word × Option Nat) :=
  ps.filterMap (fun p => match rgnOf p.1 with
    | .host w => some (s.hwPort t w, s.hostAddr t n p.1, word p.1, none)
    | _ => none)

/-- A store must wait: no room in the store buffer, or for a FIXED thread an entry that overlaps it (R133 to R135). -/
def State.storeWaits (s : State) (t n : Nat) (ps : List (Nat × Nat)) : Bool :=
  let k := (s.hostParts t n ps).length
  if s.thClass t n = 1 then
    ps.any (fun p => match rgnOf p.1 with | .host _ => (s.tile t).sb.any (fun e => sbOverlaps e (s.hostAddr t n p.1) p.2) | _ => false)
  else decide (0 < k ∧ 8 < (s.tile t).sb.length + k)

/-- The occupancy of one part of a store (R71, R112, R113, R134). -/
def State.storeOcc (s : State) (t n a wait : Nat) (split : Bool) : Nat :=
  match rgnOf a with
  | .scratch | .shared => s.memOcc t n a wait split
  | .host _ => if s.thClass t n = 1 then 4 else 6
  | .setup => 8 + wait
  | _ => 8

/-- The thread has written TL_HWROUTE of its tile, and the value waits for the store buffer to empty, the thread with it
(R114). -/
def State.routeWaits (s : State) (t n a : Nat) : Bool :=
  n == 0 && (a == 0x0F00001C || a == 0x0801001C + 0x1000 * t) && (s.tile t).hwRoute.isSome

/-- A store of `sz` bytes to `a`, all checks included (R127, R128, R131, R132). -/
def State.storeAccess (s : State) (t n a sz v wait : Nat) (pc : Word) : InsnEnd :=
  let ps := splitParts a sz
  let split := decide (1 < ps.length)
  let s := s.noteHost t n ps
  match s.accessStop t n .store sz ps with
  | some (st, b) => stopEnd s st b
  | none =>
    match s.watchParts t n .store ps with
    | some (i, b) => .brk 5 i (word b)
    | none =>
      if s.storeWaits t n ps then .stall
      else match ps.find? (fun p => (rgnOf p.1 == .scratch || rgnOf p.1 == .shared) && s.eccStops (memAddr t p.1) p.2) with
      | some p => .fault (s.eccWrite (memAddr t p.1) p.2 false).1 3 0 0 (word p.1)
      | none =>
        let occ := (ps.map (fun p => s.storeOcc t n p.1 wait split)).foldl max 0
        let hp := if s.thClass t n = 1 then s.hostParts t n ps else []
        match s.storeParts t n pc ps (leBytes sz v) with
        | (s, some d) => .fault s 2 d.1 d.2 (word a)
        | (s, none) =>
          if !s.clk.running || s.clk.held then .gone s
          else if !hp.isEmpty then .wait (s.setWait t n (.hostStore hp)) occ
          else if s.routeWaits t n a then .wait (s.setWait t n .hwRoute) occ
          else .done s occ

/-! ### Atomics (R129) -/

/-- An atomic on the word at `a`: `f` gives the new word from the old one, if there is one to write. -/
def State.atomicAccess (s : State) (t n gd a wait : Nat) (f : Word → Option Word) : InsnEnd :=
  if a % 4 ≠ 0 then .fault s 6 0 0 (word a)
  else
    let s := s.noteHost t n [(a, 4)]
    match s.accessStop t n .amo 4 [(a, 4)] with
    | some (st, b) => stopEnd s st b
    | none =>
      match s.watch t n .amo a 4 with
      | some i => .brk 5 i (word a)
      | none =>
        let occ := s.memOcc t n a wait false
        match s.memLoad t n a 4 with
        | (s, none) => .fault s 3 0 0 (word a)
        | (s, some bs) =>
          let old := word (ofLeBytes bs)
          let s := match f old with | some v => s.memStore t n a (leBytes 4 v.toNat) | none => s
          .done (s.setG t n gd old) occ

/-! ### FENCE and IFLUSH (R138, R139) -/

/-- Some store-buffer entry of the thread has not drained. -/
def State.ownsBuffered (s : State) (t n : Nat) : Bool := (s.tile t).sb.any (fun e => e.thread == n)

/-- Invalidate the whole of the selected caches and the branch target buffer. -/
def State.flushAll (s : State) (t : Nat) (i d : Bool) : State :=
  let x := s.tile t
  s.setTile t { x with icache := if i then [] else x.icache, dcache := if d then [] else x.dcache, btb := [] }

/-- Invalidate the line of thread address `a` in the selected caches, and the branch targets in it; an address outside
the host windows invalidates nothing. -/
def State.flushLine (s : State) (t n a : Nat) (i d : Bool) : State :=
  if (hwinOf a).isNone then s
  else
    let x := s.tile t
    let line := s.hostAddr t n a / 64
    let keep := fun (y : Nat × Word × Word) => s.hostAddr t y.1 y.2.1.toNat / 64 != line
    s.setTile t { x with icache := if i then x.icache.filter keep else x.icache,
                         dcache := if d then x.dcache.filter keep else x.dcache,
                         btb := x.btb.filter (fun (y : Word × Word) => y.2.toNat / 64 != a / 64) }

/-! ### Commands -/

/-- The address Gbase + sext(off12). -/
def State.mAddr (s : State) (t n : Nat) (w : Word) : Nat := (s.g t n (fS1 w) + simm12 w).toNat

/-- Bytes of a size code (R127). -/
def sizeOf' (c : Nat) : Nat := if c = 0 ∨ c = 4 then 1 else if c = 1 ∨ c = 5 then 2 else if c = 2 then 4 else 8

/-- What a load writes to its registers (R127). -/
def State.loadResult (s : State) (t n gd c v : Nat) : State :=
  if c = 0 then s.setG t n gd (sext 8 v)
  else if c = 1 then s.setG t n gd (sext 16 v)
  else if c = 3 then (s.setG t n gd (word v)).setG t n (gd + 1) (word (v / 2 ^ 32))
  else s.setG t n gd (word v)

/-- LOAD (R127, R128, R131 to R135). -/
def execLoad (i : Issue) (w : Word) (h : HostData) (s : State) : Out :=
  insn s i w .load (fun s =>
    s.loadAccess i.tile i.thread (s.mAddr i.tile i.thread w) (sizeOf' (fI w)) i.wait h
      (fun s v occ => .done (s.loadResult i.tile i.thread (fD w) (fI w) v) occ))

/-- STORE (R127, R128, R131 to R134). -/
def execStore (i : Issue) (w : Word) (s : State) : Out :=
  insn s i w .store (fun s =>
    let v := (s.g i.tile i.thread (fD w)).toNat + (if fI w = 3 then (s.g i.tile i.thread (fD w + 1)).toNat * 2 ^ 32 else 0)
    s.storeAccess i.tile i.thread (s.mAddr i.tile i.thread w) (sizeOf' (fI w)) v i.wait (s.rd (.TH_PC i.tile i.thread)))

/-- AMOADD (R129). -/
def execAmoadd (i : Issue) (w : Word) (s : State) : Out :=
  insn s i w .amoadd (fun s =>
    s.atomicAccess i.tile i.thread (fD w) (s.g i.tile i.thread (fS1 w)).toNat i.wait
      (fun old => some (old + s.g i.tile i.thread (fS2 w))))

/-- AMOSWAP (R129). -/
def execAmoswap (i : Issue) (w : Word) (s : State) : Out :=
  insn s i w .amoswap (fun s =>
    s.atomicAccess i.tile i.thread (fD w) (s.g i.tile i.thread (fS1 w)).toNat i.wait (fun _ => some (s.g i.tile i.thread (fS2 w))))

/-- CAS (R129). -/
def execCas (i : Issue) (w : Word) (s : State) : Out :=
  insn s i w .cas (fun s =>
    s.atomicAccess i.tile i.thread (fD w) (s.g i.tile i.thread (fS1 w)).toNat i.wait
      (fun old => if old = s.g i.tile i.thread (fD w) then some (s.g i.tile i.thread (fS2 w)) else none))

/-- FENCE (R138). -/
def execFence (i : Issue) (w : Word) (s : State) : Out :=
  insn s i w .fence (fun s => if s.ownsBuffered i.tile i.thread then .stall else .done s 4)

/-- IFLUSH (R139). -/
def execIflush (i : Issue) (w : Word) (s : State) : Out :=
  insn s i w .iflush (fun s =>
    let ic := imm12 w != 1
    let dc := imm12 w != 0
    if s.ownsBuffered i.tile i.thread then .stall
    else if fS1 w = 0 then .done (s.flushAll i.tile ic dc) 20
    else .done (s.flushLine i.tile i.thread (s.g i.tile i.thread (fS1 w)).toNat ic dc) 4)

end Sys2Proof.Machine
end

