-- ==== Sys2Proof/Machine/BitOps.lean ====
section
/-! DEFINITION. The bit instructions (R141 to R154): spaces, checks, the writes inside the bank, and the accumulator and
stack group. -/

namespace Sys2Proof.Machine

/-- The view of a space code (R144). -/
def spaceView (c : Nat) : View := if c = 0 then .I else if c = 1 then .Q else if c = 2 then .M else .H

/-- The bit number of an X or XI instruction (R146). -/
def State.bitNumber (s : State) (t n : Nat) (w : Word) : Nat :=
  if opcode w < 0x2D then fld w 0 24 else (s.g t n (fld w 19 5) + word (fld w 0 19)).toNat

/-- The instruction writes its bit (R148). -/
def bitWrites : BitOp → Bool
  | .bst | .bset | .brst | .btog | .brise | .bfall => true
  | _ => false

/-- The instruction reads its bit. -/
def bitReads : BitOp → Bool
  | .bst | .bset | .brst => false
  | _ => true

/-- What an instruction does to ACC and to its bit `x`: the new ACC, and the bit it writes, if it writes (R147). -/
def bitEffect (k : BitOp) (acc x : Bool) : Bool × Option Bool :=
  match k with
  | .bld => (x, none)
  | .bldn => (!x, none)
  | .band => (acc && x, none)
  | .bandn => (acc && !x, none)
  | .bor => (acc || x, none)
  | .born => (acc || !x, none)
  | .bxor => (acc ^^ x, none)
  | .bst => (acc, some acc)
  | .bset => (acc, if acc then some true else none)
  | .brst => (acc, if acc then some false else none)
  | .btog => (acc, if acc then some (!x) else none)
  | .brise => (acc && !x, some acc)
  | .bfall => (!acc && x, some acc)

/-- Checks 2 to 4 of R148 on bit `b` of a view. -/
def State.bitStop (s : State) (t n : Nat) (k : BitOp) (v : View) (b : Nat) : Option Stop :=
  if 8 * s.viewSize v ≤ b ∨ (v = .I ∧ bitWrites k = true) then some (.fault 2 1)
  else if v = .Q ∧ bitWrites k = true ∧ s.ownsWord t n (b / 32) = false then some (.fault 5 0)
  else if !s.memIsReady (smBase + s.viewBase v + b / 8) then some (.fault 2 2)
  else none

/-- Write the byte of a view that holds the bit, with valid check bits for its word (R149, R151). -/
def State.bitWrite (s : State) (t n : Nat) (v : View) (b : Nat) (x : Bool) : State :=
  let o := s.viewBase v + b / 8
  let s := s.promoteRange (smBase + o) 1
  let p := smBase + s.resolve v (b / 8)
  let s := s.eccGood (p / 4 * 4)
  (s.extWrite (smBase + o) (some (t, n))).smBytes o [setBit (memGet s.mem p) (b % 8) x]

/-- A bit instruction after its checks (R147 to R151). -/
def State.bitAccess (s : State) (t n : Nat) (k : BitOp) (v : View) (b : Nat) : InsnEnd :=
  let o := s.viewBase v + b / 8
  let a := 0x01000000 + o
  match s.bitStop t n k v b with
  | some st => stopEnd s st a
  | none =>
    let kind := if !bitWrites k then AccKind.load else if bitReads k then .amo else .store
    match s.watch t n kind a 1 with
    | some i => .brk 5 i (word a)
    | none =>
      let p := s.readPhys (memAddr t a)
      let s := s.noteShared t n a
      let bad := s.eccOf p == some .uncorrectable
      let s := s.eccRead [p / 4 * 4] false
      if bad then .fault s 3 0 0 (word a)
      else
        let q := s.rd (.BITST t n)
        let e := bitEffect k (accOf q) (bit (memGet s.mem p) (b % 8))
        let s := s.wr (.BITST t n) (withAcc q e.1)
        .done (match e.2 with | some x => s.bitWrite t n v b x | none => s) 8

/-- A bit instruction with a space operand as a command. -/
def bitInsn (k : BitOp) (i : Issue) (w : Word) (s : State) : Out :=
  insn s i w (.bitOp k) (fun s => s.bitAccess i.tile i.thread k (spaceView (fld w 24 2)) (s.bitNumber i.tile i.thread w))

/-- An ACC-only instruction: a function of BITST (R152, R153). -/
def accInsn (r : Row) (f : Word → Word) (i : Issue) (w : Word) (s : State) : Out :=
  insn s i w r (fun s => .done (s.wr (.BITST i.tile i.thread) (f (s.rd (.BITST i.tile i.thread)))) 4)

/-! ### Commands -/

/-- BLD (R147 to R149). -/
def execBld (i : Issue) (w : Word) (s : State) : Out := bitInsn .bld i w s

/-- BLDN (R147 to R149). -/
def execBldn (i : Issue) (w : Word) (s : State) : Out := bitInsn .bldn i w s

/-- BAND (R147 to R149). -/
def execBand (i : Issue) (w : Word) (s : State) : Out := bitInsn .band i w s

/-- BANDN (R147 to R149). -/
def execBandn (i : Issue) (w : Word) (s : State) : Out := bitInsn .bandn i w s

/-- BOR (R147 to R149). -/
def execBor (i : Issue) (w : Word) (s : State) : Out := bitInsn .bor i w s

/-- BORN (R147 to R149). -/
def execBorn (i : Issue) (w : Word) (s : State) : Out := bitInsn .born i w s

/-- BXOR (R147 to R149). -/
def execBxor (i : Issue) (w : Word) (s : State) : Out := bitInsn .bxor i w s

/-- BST (R147 to R149). -/
def execBst (i : Issue) (w : Word) (s : State) : Out := bitInsn .bst i w s

/-- BSET (R147 to R149). -/
def execBset (i : Issue) (w : Word) (s : State) : Out := bitInsn .bset i w s

/-- BRST (R147 to R149). -/
def execBrst (i : Issue) (w : Word) (s : State) : Out := bitInsn .brst i w s

/-- BTOG (R147 to R149). -/
def execBtog (i : Issue) (w : Word) (s : State) : Out := bitInsn .btog i w s

/-- BRISE (R147 to R149). -/
def execBrise (i : Issue) (w : Word) (s : State) : Out := bitInsn .brise i w s

/-- BFALL (R147 to R149). -/
def execBfall (i : Issue) (w : Word) (s : State) : Out := bitInsn .bfall i w s

/-- BPUSH (R142, R153). -/
def execBpush (i : Issue) (w : Word) (s : State) : Out :=
  accInsn .bpush (fun b => bitPush b (accOf b)) i w s

/-- BPOP (R142, R153). -/
def execBpop (i : Issue) (w : Word) (s : State) : Out :=
  accInsn .bpop (fun b => withAcc (bitPop b).2 (bitPop b).1) i w s

/-- BANDS (R142, R153). -/
def execBands (i : Issue) (w : Word) (s : State) : Out :=
  accInsn .bands (fun b => withAcc (bitPop b).2 (accOf b && (bitPop b).1)) i w s

/-- BORS (R142, R153). -/
def execBors (i : Issue) (w : Word) (s : State) : Out :=
  accInsn .bors (fun b => withAcc (bitPop b).2 (accOf b || (bitPop b).1)) i w s

/-- BNOT (R142, R153). -/
def execBnot (i : Issue) (w : Word) (s : State) : Out :=
  accInsn .bnot (fun b => withAcc b (!accOf b)) i w s

/-- BSETA (R142, R153). -/
def execBseta (i : Issue) (w : Word) (s : State) : Out :=
  accInsn .bseta (fun b => withAcc b true) i w s

/-- BCLRA (R142, R153). -/
def execBclra (i : Issue) (w : Word) (s : State) : Out :=
  accInsn .bclra (fun b => withAcc b false) i w s

/-- BMOVG (R154). -/
def execBmovg (i : Issue) (w : Word) (s : State) : Out :=
  insn s i w .bmovg (fun s =>
    .done (s.setG i.tile i.thread (fld w 19 5) (if accOf (s.rd (.BITST i.tile i.thread)) then 1 else 0)) 4)

/-- BMOVA (R154). -/
def execBmova (i : Issue) (w : Word) (s : State) : Out :=
  insn s i w .bmova (fun s =>
    .done (s.wr (.BITST i.tile i.thread) (withAcc (s.rd (.BITST i.tile i.thread)) (bit (s.g i.tile i.thread (fld w 19 5)) 0))) 4)

end Sys2Proof.Machine
end

