-- ==== Sys2Proof/Machine/SysOps.lean ====
section
/-! DEFINITION. CSR access and the system, thread-setup, channel, context and Aperture instructions (R107, R108, R155 to
R167, R170 to R173). -/

namespace Sys2Proof.Machine

/-! ### CSRs (R107, R108, R177) -/

/-- SBSTAT (R107). -/
def State.sbStat (s : State) (t n : Nat) : Word :=
  word ((s.tile t).sb.length % 16 + (if s.ownsBuffered t n then 256 else 0))

/-- A CSR of the bound context (R177). -/
def State.lvuCsr (s : State) (t c num : Nat) : Option Word :=
  let x := s.ctx t c
  if num = 0x700 then some (word x.vl)
  else if num = 0x701 then some (word x.sew)
  else if num = 0x702 then some (word x.vxrm)
  else if num = 0x703 then some (if x.vsat then 1 else 0)
  else if num = 0x704 then some x.fcsr
  else if num = 0x708 then some (word x.vfidx)
  else if num = 0x709 then some x.vfaddr
  else if num = 0x70A then some (word x.vfcause)
  else if num = 0x70F then some (word (c + (if s.flag (.LV_CSTAT t c) 4 then 256 else 0)))
  else none

/-- A CSR of the thread, or none for a number that is not in the table of R107. -/
def State.csrRead (s : State) (t n num : Nat) : Option Word :=
  if num = 0x000 then some (s.shown (.TH_STAT t n))
  else if num = 0x001 then some (s.rd (.TH_CTL t n))
  else if num = 0x002 then some (s.rd (.TH_EPC t n 0))
  else if num = 0x003 then some (s.rd (.TH_EPC t n 1))
  else if num = 0x004 then some (s.rd (.TH_VBASE t n))
  else if num = 0x005 then some (s.rd (.ISTAT t n))
  else if num = 0x006 then some (word (16 * t + n))
  else if num = 0x010 then some (s.rd (.TH_EVPEND t n))
  else if num = 0x011 then some (s.rd (.TH_EVIE t n))
  else if num = 0x012 then some (s.rd (.TH_EVWE t n))
  else if num = 0x013 then some (s.rd (.TH_EVSEL t n))
  else if num = 0x020 then some (s.rd (.TH_WPERM t n))
  else if num = 0x021 then some (s.rd (.TH_HWINHI t n))
  else if 0x022 ≤ num ∧ num ≤ 0x025 then some (s.rd (.TH_HWIN t n (num - 0x022)))
  else if num = 0x030 then some (s.rd (.LCOUNT t n))
  else if num = 0x031 then some (s.rd (.LSTART t n))
  else if num = 0x032 then some (s.rd (.LEND t n))
  else if num = 0x033 then some (s.rd (.LCTL t n))
  else if num = 0x040 then some (s.rd (.BITST t n))
  else if num = 0x050 then some (s.rd .TB_LO)
  else if num = 0x051 then some (s.rd .TB_HI)
  else if num = 0x060 then some (s.sbStat t n)
  else if 0x700 ≤ num ∧ num < 0x800 then (match s.boundCtx t n with | some c => s.lvuCsr t c num | none => none)
  else none

/-- Write a CSR of the bound context: VXRM and FRM are RW, VSAT and the flags W1C, the rest RO. -/
def State.lvuCsrWrite (s : State) (t c num : Nat) (v : Word) : State :=
  let x := s.ctx t c
  if num = 0x702 then s.setCtx t c { x with vxrm := fld v 0 2 }
  else if num = 0x703 then s.setCtx t c { x with vsat := x.vsat && !bit v 0 }
  else if num = 0x704 then s.setCtx t c { x with fcsr := ((x.fcsr &&& 0x1F0) &&& ~~~v) ||| (v &&& 3) }
  else s

/-- Write a CSR under its field access codes (R107). -/
def State.csrWrite (s : State) (t n num : Nat) (v : Word) : State :=
  if num = 0x000 then (if bit v 8 then s.setFlag (.TH_STAT t n) 8 false else s)
  else if num = 0x001 then s.wr (.TH_CTL t n) ((s.rd (.TH_CTL t n) &&& ~~~ 0x1F10) ||| (v &&& 0x1F10))
  else if num = 0x002 then s.wr (.TH_EPC t n 0) (v &&& 0xFFFFFFFC)
  else if num = 0x003 then s.wr (.TH_EPC t n 1) (v &&& 0xFFFFFFFC)
  else if num = 0x004 then s.wr (.TH_VBASE t n) (v &&& 0xFFFFFC00)
  else if num = 0x005 then s.wr (.ISTAT t n) (s.rd (.ISTAT t n) &&& ~~~ v)
  else if num = 0x010 then s.wr (.TH_EVPEND t n) (s.rd (.TH_EVPEND t n) &&& ~~~ v)
  else if num = 0x011 then s.wr (.TH_EVIE t n) v
  else if num = 0x012 then s.wr (.TH_EVWE t n) v
  else if num = 0x013 then s.wr (.TH_EVSEL t n) v
  else if num = 0x021 then (s.dropWindows t n (fun _ => true)).wr (.TH_HWINHI t n) (v &&& 0xFFFFF)
  else if 0x022 ≤ num ∧ num ≤ 0x025 then
    (s.dropWindows t n (· == num - 0x022)).wr (.TH_HWIN t n (num - 0x022)) (v &&& 0xFFFFFC03)
  else if num = 0x030 then s.wr (.LCOUNT t n) v
  else if num = 0x031 then s.wr (.LSTART t n) (v &&& 0xFFFFFFFC)
  else if num = 0x032 then s.wr (.LEND t n) (v &&& 0xFFFFFFFC)
  else if num = 0x033 then s.wr (.LCTL t n) (v &&& 0x80000003)
  else if num = 0x040 then s.wr (.BITST t n) (bitstValue v)
  else if 0x700 ≤ num ∧ num < 0x800 then (match s.boundCtx t n with | some c => s.lvuCsrWrite t c num v | none => s)
  else s

/-- The CSR needs a bound context, and the thread holds none: NOCTX (R106). -/
def State.csrNoCtx (s : State) (t n num : Nat) : Bool := decide (0x700 ≤ num ∧ num < 0x800) && (s.boundCtx t n).isNone

/-- CSRRD. -/
def State.csrReadInsn (s : State) (t n gd num : Nat) : InsnEnd :=
  if s.csrNoCtx t n num then .exc s 4
  else match s.csrRead t n num with
    | none => .fault s 1 0 0 0
    | some v =>
      let s := if num = 0x050 ∨ num = 0x051 then s.detLostBy t n 3 else s
      .done (s.setG t n gd v) 4

/-- CSRWR: the loop-back of this instruction comes first, since the write takes effect for the next one (R108). -/
def State.csrWriteInsn (s : State) (t n num : Nat) (v : Word) : InsnEnd :=
  if s.csrNoCtx t n num then .exc s 4
  else match s.csrRead t n num with
    | none => .fault s 1 0 0 0
    | some _ =>
      let r := s.loopBack t n (s.rd (.TH_PC t n))
      .jump (r.1.csrWrite t n num v) r.2 4 false

/-! ### Waiting and signalling (R92, R93, R156) -/

/-- Pending inputs that end a WFE (R92). -/
def State.wfePending (s : State) (t n : Nat) : Word := s.rd (.TH_EVPEND t n) &&& (s.rd (.TH_EVWE t n) ||| s.rd (.TH_EVIE t n))

/-- The end of a WFE: EVPEND AND EVWE goes to Gd and is cleared; an enabled pending input outside EVIN[15:8] sets EVSRC
for a member (R92, R226). -/
def State.endWfe (s : State) (t n gd : Nat) : State :=
  let r := s.rd (.TH_EVPEND t n) &&& s.rd (.TH_EVWE t n)
  let s := if s.wfePending t n &&& 0xFFFF00FF ≠ 0 then s.detLostBy t n 5 else s
  (s.wr (.TH_EVPEND t n) (s.rd (.TH_EVPEND t n) &&& ~~~ r)).setG t n gd r

/-- WFE. -/
def State.wfeInsn (s : State) (t n gd : Nat) : InsnEnd :=
  if s.wfePending t n ≠ 0 then .done (s.endWfe t n gd) 4 else .wait ((s.setThState t n 2).setWait t n (.wfe gd)) 4

/-- EVSEND: the event is under way to its target, or the tile is absent. -/
def State.evsendInsn (s : State) (t n gd : Nat) (x : Word) : InsnEnd :=
  let tt := fld x 8 3
  if s.hasTile tt then
    .done ((s.setTile tt { s.tile tt with evsends := (s.tile tt).evsends ++ [(t, n, tt, fld x 4 4, fld x 0 2)] }).setG t n gd 0) 4
  else .done (s.setG t n gd 1) 4

/-! ### HALT and SCANEND (R159 to R161) -/

/-- HALT: the PC holds the address of the next instruction (R126, R159). -/
def State.haltInsn (s : State) (t n : Nat) : InsnEnd :=
  let r := (s.dropReservation t n).loopBack t n (s.rd (.TH_PC t n))
  .ended (((r.1.wr (.TH_PC t n) r.2).setThState t n 0).threadChanged t n)

/-- SCANEND: a FIXED member of a running group, which has not left a STOPPING one (R204), marks its scan done and waits for
the release; any other thread goes on. -/
def State.scanendInsn (s : State) (t n : Nat) : InsnEnd :=
  let gs := (s.groupsOf t n).filter (fun g => !(s.group g).left.contains (t, n))
  if s.thClass t n = 1 ∧ gs.isEmpty = false then
    let r := s.loopBack t n (s.rd (.TH_PC t n))
    let s := (r.1.wr (.TH_PC t n) r.2).toReleaseWait t n
    .ended (forEach gs (fun g s => s.markDone g t n) s)
  else .done s 4

/-! ### TSET and TRELEASE (R88, R89, R162) -/

/-- A thread is named by an entry of a kind in the active or the pending map. -/
def State.namedBy (s : State) (t n kind : Nat) : Bool :=
  (s.tile t).activeMap.contains (kind, n) || (match (s.tile t).pendingMap with | some m => m.contains (kind, n) | none => false)

/-- The status of TSET: the first failing code, or 0. `item` is imm12[11:4]. -/
def State.tsetStatus (s : State) (t m item : Nat) : Nat :=
  if s.thState t m ≠ 0 then 1
  else if item ≤ 0x20 then 0
  else
    let c := item - 0x21
    if (c = 2 ∧ s.otherUrgent t m = true) ∨ (c = 1 ∧ m = 0) then 4
    else if (c ≠ 1 ∧ s.namedBy t m 1 = true) ∨ (c ≠ 2 ∧ s.namedBy t m 2 = true) then 5
    else 0

/-- The item that TSET writes. -/
def State.tsetItem (s : State) (t m item : Nat) (v : Word) : State :=
  if item < 0x20 then s.setG t m item v
  else if item = 0x20 then s.wr (.TH_PC t m) (v &&& 0xFFFFFFFC)
  else s.setField (.TH_CTL t m) 0 2 (item - 0x21)

/-- TSET. -/
def State.tsetInsn (s : State) (t n gd m item : Nat) (v : Word) : InsnEnd :=
  if n ≠ 0 then .fault s 2 4 0 0
  else
    let st := s.tsetStatus t m item
    .done ((if st = 0 then s.tsetItem t m item v else s).setG t n gd (word st)) 4

/-- The status of TRELEASE: a member whose group's start checks run counts as not HELD (R88, R203). -/
def State.treleaseStatus (s : State) (t m : Nat) : Nat :=
  if s.thState t m ≠ 0 ∨ (s.groupsOf t m).any (fun g => (s.group g).checking) = true then 1
  else if s.thClass t m = 1 ∧ (s.tile t).activeMap.contains (1, m) = false then 2
  else if s.thClass t m = 2 ∧ (s.tile t).activeMap.contains (2, m) = false then 3
  else 0

/-- TRELEASE of a HELD thread at a cycle: ACTIVE, DEPTH 0, IE 0, eligible from the edge after the instruction (R89). -/
def State.releaseThread (s : State) (t m cycle : Nat) : State :=
  let s := ((s.setThState t m 1).setField (.TH_STAT t m) 4 2 0).setFlag (.TH_CTL t m) 4 false
  (s.setThread t m { s.thread t m with wait := .none, readyAt := cycle + 5, skipBp := false, taken := false }).threadChanged t m

/-- TRELEASE. -/
def State.treleaseInsn (s : State) (t n gd m cycle : Nat) : InsnEnd :=
  if n ≠ 0 then .fault s 2 4 0 0
  else
    let st := s.treleaseStatus t m
    .done ((if st = 0 then s.releaseThread t m cycle else s).setG t n gd (word st)) 4

/-! ### Channels (R97 to R99, R163 to R165) -/

/-- The threads that wait in CHGET (`get`) or CHOPEN for a channel, lowest tile and thread first. -/
def State.chanWaiters (s : State) (c : ChanId) (get : Bool) : List (Nat × Nat) :=
  (s.chanThreads c).filter (fun x => match (s.thread x.1 x.2).wait with
    | .chopen b k => !get && chanOf b x.1 k == c
    | .chget b k _ => get && chanOf b x.1 k == c
    | _ => false)

/-- The threads that wait in CHGET for a channel and see a message of it (R98, R99). -/
def State.getWaiters (s : State) (c : ChanId) : List (Nat × Nat) :=
  (s.chanWaiters c true).filter (fun x => (s.chan c).dataFor x.1)

/-- CHOPEN can reserve: no reservation, and a free space. -/
def Chan.openable (c : Chan) : Bool := c.owner.isNone && decide (c.msgs.length < 8)

/-- Reserve a message space for a thread. -/
def State.reserve (s : State) (c : ChanId) (t n : Nat) : State := s.setChan c { s.chan c with owner := some (t, n), part := [] }

/-- Take the oldest message that the thread sees into four registers; a message that no member committed sets EXTMSG (R98,
R164, R226). -/
def State.takeMsg (s : State) (c : ChanId) (t n gd : Nat) : State :=
  let ms := (s.chan c).msgs
  match ms.find? (fun m => m.seenBy t) with
  | none => s
  | some m =>
    let s := s.chanChange c { s.chan c with msgs := ms.eraseP (fun m => m.seenBy t) } (some t)
    let s := forEach (s.groupsOf t n) (fun g s =>
      if (match m.sender with | some x => s.isMember g x.1 x.2 | none => false) then s else s.detLost g 6) s
    (List.range 4).foldl (fun s k => s.setG t n (gd + k) (m.words.getD k 0)) s

/-- CHOPEN. -/
def State.chopenInsn (s : State) (t n : Nat) (block : Bool) (k : Nat) : InsnEnd :=
  let c := chanOf block t k
  if (s.reserved t n).isSome then .fault s 1 0 0 0
  else if (s.chan c).openable && (s.chanWaiters c false).isEmpty then .done (s.reserve c t n) 4
  else .wait ((s.setThState t n 3).setWait t n (.chopen block k)) 4

/-- Occupancy of CHPUT and CHCLOSE (R155). -/
def chanOcc : ChanId → Nat
  | .tile _ _ => 4
  | .block _ => 8

/-- CHPUT. -/
def State.chputInsn (s : State) (t n : Nat) (v : Word) : InsnEnd :=
  match s.reserved t n with
  | none => .fault s 1 0 0 0
  | some c =>
    if 4 ≤ (s.chan c).part.length then .fault s 1 0 0 0
    else .done (s.setChan c { s.chan c with part := (s.chan c).part ++ [v] }) (chanOcc c)

/-- CHCLOSE: words that were not written read 0. -/
def State.chcloseInsn (s : State) (t n : Nat) : InsnEnd :=
  match s.reserved t n with
  | none => .fault s 1 0 0 0
  | some c =>
    let ws := (s.chan c).part
    .done ((s.setChan c { s.chan c with owner := none, part := [] }).commitMsg c ((List.range 4).map (fun k => ws.getD k 0)) (some (t, n)))
      (chanOcc c)

/-- CHGET. -/
def State.chgetInsn (s : State) (t n gd : Nat) (block : Bool) (k : Nat) : InsnEnd :=
  let c := chanOf block t k
  if (s.chan c).dataFor t && (s.getWaiters c).isEmpty then .done (s.takeMsg c t n gd) 4
  else .wait ((s.setThState t n 3).setWait t n (.chget block k gd)) 4

/-! ### Contexts (R166, R170 to R173) -/

/-- A VBIND with a usable LVU: what it does with the chosen context. -/
def State.vbindTo (s : State) (t n gd c : Nat) (pin : Bool) : InsnEnd :=
  let st := s.ctxState t c
  let await := { s.ctx t c with await := some (n, pin, gd) }
  if st = 3 then .done ((s.bindCtx t c n pin).setG t n gd (word c)) 8
  else if st = 0 ∨ st = 1 then .wait (((s.setCtx t c await).beginWake t c (st == 1)).setWait t n (.vbind c)) 8
  else if (st = 2 ∨ st = 5) ∧ (s.ctx t c).await = none then .wait ((s.setCtx t c await).setWait t n (.vbind c)) 8
  else .done (s.setG t n gd 0x80000001) 8

/-- VBIND: the status codes of R166, or the bind of R170. -/
def State.vbindInsn (s : State) (t n gd : Nat) (w : Word) : InsnEnd :=
  if !s.build.lvu then .done (s.setG t n gd 0x80000004) 8
  else if !s.ready 2 (8 + t) then .fault s 2 2 0 0
  else if (s.boundCtx t n).isSome then .done (s.setG t n gd 0x80000003) 8
  else match s.pickCtx t (bit w 2) (fld w 0 2) with
    | none => .done (s.setG t n gd 0x80000002) 8
    | some c => s.vbindTo t n gd c (bit w 3)

/-- VFREE. -/
def State.vfreeInsn (s : State) (t n : Nat) : InsnEnd :=
  match s.boundCtx t n with
  | none => .done s 4
  | some c =>
    let scrubs := s.flag (.LV_CTL t) 8 && !(s.flag (.LV_CSTAT t c) 4 && s.liveMember t n)
    .done (s.vfreeCtx t n c) (if scrubs then 260 else 4)

/-! ### Aperture (R167) -/

/-- APREQ. -/
def State.apreqInsn (s : State) (t n gd g : Nat) : InsnEnd :=
  let s := s.detLostBy t n 8
  let u := ApUser.thread t n
  if s.apHolds u || s.apWaits u then .done (s.setG t n gd 1) 8
  else if g = 0 then .done (s.setG t n gd 2) 8
  else .done ((s.apRequest u g).setG t n gd 0) 8

/-- APREL. -/
def State.aprelInsn (s : State) (t n gd : Nat) : InsnEnd :=
  let u := ApUser.thread t n
  if s.apHolds u || s.apWaits u then .done ((s.apRelease u).setG t n gd 0) 8 else .done (s.setG t n gd 1) 8

/-! ### Commands -/

/-- CSRRD (R107). -/
def execCsrrd (i : Issue) (w : Word) (s : State) : Out :=
  insn s i w .csrrd (fun s => s.csrReadInsn i.tile i.thread (fD w) (imm12 w))

/-- CSRWR (R107, R108). -/
def execCsrwr (i : Issue) (w : Word) (s : State) : Out :=
  insn s i w .csrwr (fun s => s.csrWriteInsn i.tile i.thread (imm12 w) (s.g i.tile i.thread (fS1 w)))

/-- WFE (R92). -/
def execWfe (i : Issue) (w : Word) (s : State) : Out := insn s i w .wfe (fun s => s.wfeInsn i.tile i.thread (fD w))

/-- EVSEND (R93, R156). -/
def execEvsend (i : Issue) (w : Word) (s : State) : Out :=
  insn s i w .evsend (fun s => s.evsendInsn i.tile i.thread (fD w) (s.g i.tile i.thread (fS1 w) + word (imm12 w)))

/-- TRAP (R157). -/
def execTrap (i : Issue) (w : Word) (s : State) : Out := insn s i w .trap (fun _ => .trap (fld w 0 8))

/-- BREAK (R157, R474). -/
def execBrk (i : Issue) (w : Word) (s : State) : Out := insn s i w .brk (fun _ => .brk 3 0 0)

/-- RETE (R94, R158). -/
def execRete (i : Issue) (w : Word) (s : State) : Out :=
  insn s i w .rete (fun s =>
    let t := i.tile
    let n := i.thread
    if s.depth t n = 0 then .fault s 1 0 0 0
    else .jump (s.returnException t n) (s.rd (.TH_EPC t n (s.depth t n - 1))) 8 false)

/-- HALT (R159). -/
def execHaltThread (i : Issue) (w : Word) (s : State) : Out := insn s i w .halt (fun s => s.haltInsn i.tile i.thread)

/-- SCANEND (R160, R161). -/
def execScanend (i : Issue) (w : Word) (s : State) : Out := insn s i w .scanend (fun s => s.scanendInsn i.tile i.thread)

/-- TSET (R88, R162). -/
def execTset (i : Issue) (w : Word) (s : State) : Out :=
  insn s i w .tset (fun s => s.tsetInsn i.tile i.thread (fD w) (fld w 0 4) (fld w 4 8) (s.g i.tile i.thread (fS1 w)))

/-- TRELEASE (R88, R89). -/
def execTrelease (i : Issue) (w : Word) (s : State) : Out :=
  insn s i w .trelease (fun s => s.treleaseInsn i.tile i.thread (fD w) (fld w 0 4) i.cycle)

/-- CHOPEN (R99, R164). -/
def execChopen (i : Issue) (w : Word) (s : State) : Out :=
  insn s i w .chopen (fun s => s.chopenInsn i.tile i.thread (bit w 6) (fld w 0 6))

/-- CHPUT (R97, R164). -/
def execChput (i : Issue) (w : Word) (s : State) : Out :=
  insn s i w .chput (fun s => s.chputInsn i.tile i.thread (s.g i.tile i.thread (fS1 w)))

/-- CHCLOSE (R97). -/
def execChclose (i : Issue) (w : Word) (s : State) : Out := insn s i w .chclose (fun s => s.chcloseInsn i.tile i.thread)

/-- CHGET (R98, R99, R164). -/
def execChget (i : Issue) (w : Word) (s : State) : Out :=
  insn s i w .chget (fun s => s.chgetInsn i.tile i.thread (fD w) (bit w 6) (fld w 0 6))

/-- VBIND (R166, R170). -/
def execVbind (i : Issue) (w : Word) (s : State) : Out := insn s i w .vbind (fun s => s.vbindInsn i.tile i.thread (fD w) w)

/-- VFREE (R166, R172). -/
def execVfree (i : Issue) (w : Word) (s : State) : Out := insn s i w .vfree (fun s => s.vfreeInsn i.tile i.thread)

/-- APREQ (R167). -/
def execApreq (i : Issue) (w : Word) (s : State) : Out :=
  insn s i w .apreq (fun s => s.apreqInsn i.tile i.thread (fD w) (fld (s.g i.tile i.thread (fS1 w) + word (imm12 w)) 0 10))

/-- APREL (R167). -/
def execAprel (i : Issue) (w : Word) (s : State) : Out := insn s i w .aprel (fun s => s.aprelInsn i.tile i.thread (fD w))

end Sys2Proof.Machine
end

