-- ==== Sys2Proof/Machine/ThreadEvents.lean ====
section
/-! DEFINITION. What happens to threads between instructions: interrupts, events, the ends of waits, the deadlock detector
(R90 to R101), store-buffer drains and manager-side responses (R134, R136, R137, R269), and the end of an LVU wake
(R193). -/

namespace Sys2Proof.Machine

/-! ### Interrupts and waits -/

/-- The thread stands at an instruction boundary or in a wait that an interrupt ends: not after SCANEND, nor in a VBIND or
a host store (R91, R92, R165, R170). -/
def State.interruptible (s : State) (t n : Nat) : Bool :=
  match (s.thread t n).wait with
  | .none => s.thState t n == 1
  | .wfe _ => s.thState t n == 2
  | .chopen _ _ | .chget _ _ _ => s.thState t n == 3
  | _ => false

/-- The thread is not eligible before a cycle. -/
def State.notBefore (s : State) (t n c : Nat) : State :=
  s.setThread t n { s.thread t n with readyAt := max (s.thread t n).readyAt c }

/-- INTERRUPT_ENTRY in a CORECLK cycle: the lowest pending enabled input is taken; an input outside EVIN[15:8] sets EVSRC for
a member. -/
def State.interruptEntry (s : State) (t n cycle : Nat) : State :=
  if !s.coresRun || !s.interruptible t n || decide (cycle < (s.thread t n).readyAt) then s
  else match s.intDue t n with
    | none => s
    | some b =>
      let s := if 8 ≤ b ∧ b < 16 then s else s.detLostBy t n 5
      let s := ((s.setThState t n 1).setWait t n .none).takeInterrupt t n b
      ((s.setThread t n { s.thread t n with skipBp := false, taken := false }).notBefore t n cycle).afterInsn t n 1

/-- A waiting instruction completes, and its thread is eligible from cycle `ready` on: the PC moves on, with the loop-back
of R126, and the thread is ACTIVE; in a tile that has stopped it stays STOPPED (R95). -/
def State.finishWait (s : State) (t n ready : Nat) : State :=
  let r := s.loopBack t n (s.rd (.TH_PC t n))
  let s := ((r.1.wr (.TH_PC t n) r.2).setWait t n .none).notBefore t n ready
  if s.thState t n = 5 then s else (s.setThState t n 1).afterInsn t n 1

/-- WFE_WAKE: an enabled event is pending and no interrupt is taken first (R92); the thread is eligible 1 cycle later
(R71). -/
def State.wfeWake (s : State) (t n cycle : Nat) : State :=
  match (s.thread t n).wait with
  | .wfe gd =>
    if s.coresRun && s.thState t n == 2 && (s.intDue t n).isNone && s.wfePending t n != 0 then
      (s.endWfe t n gd).finishWait t n (cycle + 1)
    else s
  | _ => s

/-- The lowest waiting CHOPEN reserves the free space. -/
def State.serveOpen (s : State) (c : ChanId) (cycle : Nat) : State :=
  match (s.chanWaiters c false).head? with
  | some x => if (s.chan c).openable then (s.reserve c x.1 x.2).finishWait x.1 x.2 (cycle + 4) else s
  | none => s

/-- CHANNEL_WAIT_SERVED: the lowest waiting thread that sees a message takes the oldest it sees, or the lowest waiting one
the free space (R98, R99); it is eligible 4 cycles of its tile later (R71). -/
def State.serveChannel (s : State) (c : ChanId) (cycle : Nat) : State :=
  if !s.coresRun then s
  else match (s.getWaiters c).head? with
    | some x =>
      (match (s.thread x.1 x.2).wait with
        | .chget _ _ gd => (s.takeMsg c x.1 x.2 gd).finishWait x.1 x.2 (cycle + 4)
        | _ => s)
    | none => s.serveOpen c cycle

/-- The cycle from which a wait for a channel has lasted longer than TH_CTL.CHTMO allows (R99): the occupancy of 4 cycles
that the wait began with ends at `readyAt`. -/
def State.chanLimit (s : State) (t n : Nat) : Nat := (s.thread t n).readyAt - 4 + 16 * 2 ^ s.field (.TH_CTL t n) 8 5 + 1

/-- CHWAIT_TIMEOUT in a CORECLK cycle: a limited wait ends with exception 0x05, nothing taken (R94, R99). -/
def State.chanTimeout (s : State) (t n cycle : Nat) : State :=
  match (s.thread t n).wait with
  | .chopen _ _ | .chget _ _ _ =>
    if s.coresRun && s.field (.TH_CTL t n) 8 5 != 0 && decide (s.chanLimit t n ≤ cycle) then
      let pc := s.rd (.TH_PC t n)
      if s.depth t n = 2 then s.stopOn t n cycle 7 0 0 pc 0
      else ((((s.setThState t n 1).setWait t n .none).takeException t n 5 pc none).notBefore t n (cycle + 4)).afterInsn t n 1
    else s
  | _ => s

/-! ### Events -/

/-- EVSEND_DELIVERY: the oldest EVSEND on its way to tile `t` from its own threads (`own`), or from another tile, sets
EVIN[8 + input]; one from a thread that is not a member sets EXTMSG for a member (R93, R226). -/
def State.evsendArrive (s : State) (t : Nat) (own : Bool) : State :=
  let mine := fun (x : Nat × Nat × Nat × Nat × Nat) => (x.1 == t) == own
  match (if s.coresRun then (s.tile t).evsends.find? mine else none) with
  | none => s
  | some (st, sn, tt, tn, inp) =>
    let s := s.setTile t { s.tile t with evsends := (s.tile t).evsends.eraseP mine }
    let s := forEach (s.groupsOf tt tn) (fun g s => if s.isMember g st sn then s else s.detLost g 6) s
    s.setEvent tt tn (8 + inp)

/-! ### Deadlock (R101) -/

/-- A waiting thread can still be served from outside EVIN[15:8], or waits for what the detector does not count. -/
def State.armed (s : State) (t n : Nat) : Bool :=
  let ints := s.rd (.TH_EVIE t n)
  s.apWaits (.thread t n) ||
  match (s.thread t n).wait with
  | .release => true
  | .wfe _ => (s.rd (.TH_EVWE t n) ||| ints) &&& 0xFFFF00FF != 0
  | _ => s.flag (.TH_CTL t n) 4 && s.depth t n == 0 && (ints &&& 0xFFFF00FF != 0)

/-- The condition of R101. -/
def State.deadlocked (s : State) (t : Nat) : Bool :=
  let live := (List.range 16).filter (fun n => [1, 2, 3].contains (s.thState t n))
  !live.isEmpty && live.all (fun n => (s.thState t n == 2 || s.thState t n == 3) && !s.armed t n)

/-- DEADLOCK_DETECTED: once for each issue that re-arms the detector. -/
def State.deadlock (s : State) (t : Nat) : State :=
  if s.coresRun && s.field (.TL_DLGRACE t) 0 24 != 0 && (s.tile t).dlArmed && s.deadlocked t then
    ((s.setTile t { s.tile t with dlArmed := false }).setFlag (.TL_STAT t) 0 true).raise (8 * t + 1)
  else s

/-! ### Store buffer and manager-side responses (R134, R136, R137, R269, R292) -/

/-- The transaction of a store-buffer entry is outstanding on its port: its identifier. -/
def State.entryTxn (s : State) (t : Nat) (e : SbEntry) : Option Nat :=
  ((s.port e.port).out.find? (fun x => x.write && x.use == .store t && x.addr == e.addr && x.data == e.bytes)).map (·.id)

/-- An entry drains in a CORECLK cycle: its line in the data cache follows, or BUSERR is raised against the storing thread; in a
tile that already stopped, MULTI on the edge of its fault (R96) and SBMORE after it. -/
def State.drainEntry (s : State) (t : Nat) (e : SbEntry) (err : Bool) (cycle : Nat) : State :=
  let s := s.setTile t { s.tile t with sb := (s.tile t).sb.erase e }
  if !err then s.dcUpdate t e
  else if !s.flag (.TL_STAT t) 1 then s.stopOn t e.thread cycle 4 0 0 e.pc (word e.addr)
  else if (s.tile t).faultAt = some cycle ∧ e.thread ≠ s.field (.TL_FREC t 0) 16 4 then s.faultToo t e.thread cycle 4 e.pc (word e.addr)
  else s.setFlag (.TL_FREC t 0) 29 true

/-- STORE_BUFFER_DRAIN: the oldest entry whose write is outstanding receives its response (R136). -/
def State.sbDrain (s : State) (t : Nat) (err : Bool) (cycle : Nat) : State :=
  match (s.tile t).sb.find? (fun e => (s.entryTxn t e).isSome) with
  | none => s
  | some e =>
    match s.entryTxn t e with
    | none => s
    | some id => (s.mgrDone e.port id true).drainEntry t e err cycle

/-- The element that a vector access failed at, for a core fault after the pre-pass (R186, R188). -/
def State.noteElement (s : State) (t n k cause : Nat) (a : Word) : State :=
  match s.boundCtx t n with
  | some c => s.setCtx t c { s.ctx t c with vfidx := k, vfaddr := a, vfcause := cause }
  | none => s

/-- The response to one host-window store of a FIXED thread or of a vector store: the thread goes on 4 cycles after the last
one; ERR raises BUSERR (R71, R95, R134, R188, R189). -/
def State.threadStoreDone (s : State) (t n p addr : Nat) (err : Bool) (cycle : Nat) : State :=
  match (s.thread t n).wait with
  | .hostStore left =>
    (match left.find? (fun x => x.1 == p && x.2.1 == addr) with
     | none => s
     | some x =>
       if err then
         let s := match x.2.2.2 with | some k => s.noteElement t n k 3 x.2.2.1 | none => s
         let s := s.setWait t n .none
         if s.flag (.TL_STAT t) 1 then s.faultToo t n cycle 4 (s.rd (.TH_PC t n)) x.2.2.1
         else s.stopOn t n cycle 4 0 0 (s.rd (.TH_PC t n)) x.2.2.1
       else if left.length ≤ 1 then s.finishWait t n (cycle + 4)
       else s.setWait t n (.hostStore (left.erase x)))
  | _ => s

/-- MANAGER_WRITE_RESPONSE, in a CORECLK cycle of the tile whose store it ends: the write completes; an ERR is reported in
the status of the traffic that made it. -/
def State.writeResponse (s : State) (p id : Nat) (err : Bool) (cycle : Nat) : State :=
  match s.mgrFind p id true with
  | none => s
  | some x =>
    let s := s.mgrDone p id true
    match x.use with
    | .store t =>
      (match (s.tile t).sb.find? (fun e => e.port == p && e.addr == x.addr && e.bytes == x.data) with
       | some e => s.drainEntry t e err cycle
       | none => s)
    | .threadStore t n => s.threadStoreDone t n p x.addr err cycle
    | .entry q _ => if err then s.setFlag (.RG_CQSTAT p q) 30 true else s
    | .word7 r => if err then s.setFlag (.RG_CQSTAT p (s.rgCq p r)) 30 true else s
    | .ringData r => if err then s.bufWriteError p r x.addr else s
    | _ => s

/-- MANAGER_READ_RESPONSE: the read is complete and its identifier free; with ERR its traffic reports it. The data of an OK
response are used by the commands that bring them (a summary, a doorbell line, descriptors, an image, ring data); until then
the answered read stands for them. -/
def State.readResponse (s : State) (p id : Nat) (err : Bool) : State :=
  match s.mgrFind p id false with
  | none => s
  | some x =>
    match x.use with
    | .summary => if err then (s.mgrDone p id false).summaryError p else s.mgrAnswer p id false
    | .doorbells h old => if err then (s.mgrDone p id false).doorbellError p h old else s.mgrAnswer p id false
    | .fetch r =>
      let s := s.mgrAnswer p id err
      if s.readFailed p (.fetch r) then s.descArrival p r [] false else s
    | .ringData r => if err then s.bufReadError p r id else s.mgrAnswer p id false
    | .update =>
      if !err then s.mgrAnswer p id false
      else if s.upd.sending then s.sendImage [] true else s.restoreEnd464 [] true
    | _ => s.mgrDone p id false

/-! ### LVU (R170, R193) -/

/-- The restore of a wake ends: from OFF the context is cleared; it is BOUND to the thread that waits, whose VBIND
completes, or FREE. -/
def State.wakeEnd (s : State) (t c cycle : Nat) : State :=
  let x := s.ctx t c
  if !(s.ctxState t c == 2 && x.restoring) then s
  else
    let y := if x.retained then x else { ctxReset with await := x.await }
    let s := s.setCtx t c { y with await := none, restoring := false, retained := false, idleSince := s.now }
    match x.await with
    | none => s.setCtxState t c 3
    | some (n, pin, gd) => ((s.bindCtx t c n pin).setG t n gd (word c)).finishWait t n cycle

/-! ### TL_HWROUTE (R114) -/

/-- TL_HWROUTE_APPLY: a waiting value takes effect once the store buffer is empty, and a thread 0 that wrote it goes on. -/
def State.hwRouteApply (s : State) (t cycle : Nat) : State :=
  if (s.tile t).hwRoute.isSome && (s.tile t).sb.isEmpty then
    let s := s.hwRouteTake t
    if (s.thread t 0).wait == .hwRoute then s.finishWait t 0 cycle else s
  else s

/-! ### One passing clock edge -/

/-- What a clock edge with nothing commanded brings: the timebase moves on, and what was under way between the tiles arrives
(R98, R100, R349). -/
def State.passEdge (s : State) : State := s.idleEdge.chanArrivals

/-! ### Commands -/

/-- INTERRUPT_ENTRY (R91). -/
def execInterruptEntry (t : TileAt) (n : Nat) (s : State) : Out :=
  guarded (s.hasThread t.tile n) (s.interruptEntry t.tile n t.cycle)

/-- EVENT_INPUT (R90). -/
def execEventInput (t n b : Nat) (s : State) : Out :=
  guarded (s.hasThread t n && decide (b < 32)) (if s.clk.held then s else s.setEvent t n b)

/-- EVSEND_DELIVERY (R93). -/
def execEvsendDelivery (q : EvQueue) (s : State) : Out := guarded (s.hasTile q.tile) (s.evsendArrive q.tile q.own)

/-- WFE_WAKE (R92). -/
def execWfeWake (t : TileAt) (n : Nat) (s : State) : Out := guarded (s.hasThread t.tile n) (s.wfeWake t.tile n t.cycle)

/-- CHANNEL_WAIT_SERVED (R98, R99). -/
def execChannelWaitServed (block : Bool) (t : TileAt) (c : Nat) (s : State) : Out :=
  guarded (s.hasTile t.tile && decide (c < (if block then 64 else 32))) (s.serveChannel (chanOf block t.tile c) t.cycle)

/-- CHWAIT_TIMEOUT (R99). -/
def execChwaitTimeout (t : TileAt) (n : Nat) (s : State) : Out := guarded (s.hasThread t.tile n) (s.chanTimeout t.tile n t.cycle)

/-- TL_HWROUTE_APPLY (R114). -/
def execTlHwrouteApply (t : TileAt) (s : State) : Out := guarded (s.hasTile t.tile) (s.hwRouteApply t.tile t.cycle)

/-- DEADLOCK_DETECTED (R101). -/
def execDeadlockDetected (t : Nat) (s : State) : Out := guarded (s.hasTile t) (s.deadlock t)

/-- STORE_BUFFER_DRAIN (R136, R137). -/
def execStoreBufferDrain (t : Nat) (a : HostAnswer) (s : State) : Out := guarded (s.hasTile t) (s.sbDrain t a.err a.cycle)

/-- MANAGER_READ_RESPONSE (R269). -/
def execManagerReadResponse (p id : Nat) (err : Bool) (s : State) : Out :=
  guarded (decide (p < 2 ∧ id < 64)) (s.readResponse p id err)

/-- MANAGER_WRITE_RESPONSE (R269). -/
def execManagerWriteResponse (p id : Nat) (a : HostAnswer) (s : State) : Out :=
  guarded (decide (p < 2 ∧ id < 64)) (s.writeResponse p id a.err a.cycle)

/-- LVU_RESTORE_END (R193). -/
def execLvuRestoreEnd (t : TileAt) (c : Nat) (s : State) : Out := guarded (s.hasCtx t.tile c) (s.wakeEnd t.tile c t.cycle)

end Sys2Proof.Machine
end

