-- ==== Sys2Proof/Machine/Lvu.lean ====
section
/-! DEFINITION. Vector length, and the integer, mask and fixed-point vector operations (R171, R174 to R183, R190, R191). -/

namespace Sys2Proof.Machine

/-! ### Elements (R175, R176) -/

/-- SEW in bits of a VTYPE code (R175). -/
def sewBits (c : Nat) : Nat := if c = 0 then 1 else if c = 1 then 8 else if c = 2 then 16 else if c = 3 then 32 else 64

/-- VLMAX (R175). -/
def vlMax (c : Nat) : Nat := 2048 / sewBits c

/-- Element `i` of a register. -/
def elOf (v : VReg) (sew i : Nat) : Nat := fld v (sew * i) sew

/-- The number whose elements of `sew` bits are given, element 0 first. -/
def packEls (sew : Nat) : List Nat → Nat
  | [] => 0
  | e :: es => e % 2 ^ sew + 2 ^ sew * packEls sew es

/-- Register `v` of a context. -/
def Ctx.vreg (x : Ctx) (v : Nat) : VReg := mget x.v 0 v

/-- Set register `v` of a context. -/
def Ctx.setV (x : Ctx) (v : Nat) (r : VReg) : Ctx := { x with v := mset x.v v r }

/-- Element `i` is active: below VL, and under a mask with bit `i` of V0 set (R176). -/
def Ctx.active (x : Ctx) (m : Bool) (i : Nat) : Bool := decide (i < x.vl) && (!m || bit (x.vreg 0) i)

/-- The register `old` with the result `f i` in each active element (R176). -/
def Ctx.lanes (x : Ctx) (sew : Nat) (m : Bool) (old : VReg) (f : Nat → Nat) : VReg :=
  BitVec.ofNat 2048 (packEls sew ((List.range (2048 / sew)).map (fun i => if x.active m i then f i else elOf old sew i)))

/-- The active elements, in ascending order. -/
def Ctx.actives (x : Ctx) (m : Bool) : List Nat := (List.range x.vl).filter (x.active m)

/-- A general register as an element: its low SEW bits, sign-extended at SEW 64 (R178). -/
def scalarEl (g : Word) (sew : Nat) : Nat := if sew = 64 then (BitVec.signExtend 64 g).toNat else g.toNat % 2 ^ sew

/-! ### Integer and mask operations (R179) -/

/-- The element operations of R179 on elements `a` and `b` of `sew` bits. -/
def vintEl (f sew a b : Nat) : Nat :=
  let top := 2 ^ sew
  let na := top - 1 - a
  let nb := top - 1 - b
  let sa := sextNat sew a
  let sb := sextNat sew b
  let sh := b % sew
  if f = 0x00 then a &&& b
  else if f = 0x01 then a ||| b
  else if f = 0x02 then a ^^^ b
  else if f = 0x03 then a &&& nb
  else if f = 0x04 then a ||| nb
  else if f = 0x05 then top - 1 - (a ^^^ b)
  else if f = 0x06 then na
  else if f = 0x07 then a
  else if f = 0x10 then (a + b) % top
  else if f = 0x11 then (a + top - b) % top
  else if f = 0x12 then (if sa < sb then a else b)
  else if f = 0x13 then (if sa < sb then b else a)
  else if f = 0x14 then min a b
  else if f = 0x15 then max a b
  else if f = 0x16 then a * b % top
  else if f = 0x18 then a * 2 ^ sh % top
  else if f = 0x19 then a / 2 ^ sh
  else (BitVec.ofInt sew (sa / (2 ^ sh : Nat))).toNat

/-- The compares 0x020 to 0x023 of R179. -/
def vcmpEl (f sew a b : Nat) : Bool :=
  if f = 0x20 then a == b
  else if f = 0x21 then a != b
  else if f = 0x22 then decide (sextNat sew a < sextNat sew b)
  else decide (a < b)

/-! ### Fixed point (R181 to R183) -/

/-- The rounding shift of R182 of an integer by `d` under VXRM. -/
def roundShift (mode : Nat) (v : Int) (d : Nat) : Int :=
  if d = 0 then v
  else
    let q := v / ((2 ^ d : Nat) : Int)
    let rem := (v % ((2 ^ d : Nat) : Int)).toNat
    let half := 2 ^ (d - 1)
    let odd := q % 2 == 1
    let up := if mode = 0 then false
      else if mode = 1 then decide (half ≤ rem)
      else if mode = 2 then decide (half ≤ rem) && (decide (rem % half ≠ 0) || odd)
      else !odd && decide (rem ≠ 0)
    if up then q + 1 else q

/-- An exact result clamped to a range of integers, as an element, and whether it saturated. -/
def clampEl (sew : Nat) (lo hi r : Int) : Nat × Bool :=
  if hi < r then ((BitVec.ofInt sew hi).toNat, true)
  else if r < lo then ((BitVec.ofInt sew lo).toNat, true)
  else ((BitVec.ofInt sew r).toNat, false)

/-- The element operations of R181: the result, and whether it saturated. -/
def vfixEl (f sew mode a b : Nat) : Nat × Bool :=
  let sa := sextNat sew a
  let sb := sextNat sew b
  let hi : Int := ((2 ^ (sew - 1) : Nat) : Int) - 1
  let lo : Int := - ((2 ^ (sew - 1) : Nat) : Int)
  let uhi : Int := ((2 ^ sew : Nat) : Int) - 1
  if f = 0x00 then clampEl sew lo hi (sa + sb)
  else if f = 0x01 then clampEl sew lo hi (sa - sb)
  else if f = 0x02 then clampEl sew 0 uhi ((a : Int) + b)
  else if f = 0x03 then clampEl sew 0 uhi ((a : Int) - b)
  else if f = 0x10 then clampEl sew lo hi (roundShift mode (sa * sb) (sew - 1))
  else if f = 0x18 then ((roundShift mode (a : Int) (b % sew)).toNat % 2 ^ sew, false)
  else ((BitVec.ofInt sew (roundShift mode sa (b % sew))).toNat, false)

/-! ### Beats and occupancy (R190, R191) -/

/-- The occupancy of `p` pre-pass cycles and `beats` beats, with `extra` cycles for beats to shared memory; an unpinned
context waits `wait` cycles more for beats that other contexts take (R190, R191). -/
def vecOcc (pinned : Bool) (c cycle wait p beats extra : Nat) : Nat :=
  if pinned then 4 + p + (c + 4 - (cycle + 4 + p) % 4) % 4 + 4 * beats + extra else 4 + p + beats + extra + wait

/-- The beats of a span of VL elements, at least 1. -/
def Ctx.beats (x : Ctx) : Nat := max 1 (ceilDiv (x.vl * sewBits x.sew) 256)

/-- A context is pinned. -/
def State.pinned (s : State) (t c : Nat) : Bool := s.flag (.LV_CSTAT t c) 4

/-- A FIXED member of a running group executes in an unpinned context: VUNPIN (R171, R226). -/
def State.noteUnpinned (s : State) (t n c : Nat) : State :=
  if s.thClass t n = 1 ∧ s.pinned t c = false then s.detLostBy t n 7 else s

/-- An instruction of the LVU in the thread's bound context; without one it raises NOCTX (R106). -/
def State.inCtx (s : State) (t n : Nat) (f : State → Nat → InsnEnd) : InsnEnd :=
  match s.boundCtx t n with
  | none => .exc s 4
  | some c => f (s.noteUnpinned t n c) c

/-! ### Instructions -/

/-- VSETVL (R175). -/
def State.vsetvlInsn (s : State) (t n c gd code : Nat) (v : Word) : InsnEnd :=
  let vl := min v.toNat (vlMax code)
  .done ((s.setCtx t c { s.ctx t c with sew := code, vl := vl }).setG t n gd (word vl)) 4

/-- Operand b of element `i`: the Vs2 element, or the scalar of opcode 0x1D (R178). -/
def State.vecB (s : State) (t n c : Nat) (w : Word) (i : Nat) : Nat :=
  let sew := sewBits (s.ctx t c).sew
  if opcode w = 0x1D then scalarEl (s.g t n (fS2 w)) sew else elOf ((s.ctx t c).vreg (fS2 w)) sew i

/-- The result of an operation of R179 in context `x` with operand b as a function of the element: the context, and the
value of Gd where the operation names one. `g` is the general register that VPUT names. -/
def vintResult (x : Ctx) (w : Word) (f : Nat) (b : Nat → Nat) (g : Word) : Ctx × Option Word :=
  let sew := sewBits x.sew
  let va := x.vreg (fS1 w)
  let a := elOf va sew
  let old := x.vreg (fD w)
  let hits := (x.actives (fM w)).filter (fun i => a i != 0)
  if 0x20 ≤ f ∧ f ≤ 0x23 then (x.setV (fD w) (x.lanes 1 (fM w) old (fun i => (vcmpEl f sew (a i) (b i)).toNat)), none)
  else if f = 0x30 then (x.setV (fD w) (x.lanes sew false old (fun i => if bit (x.vreg 0) i then b i else a i)), none)
  else if f = 0x40 then (x, some (word hits.length))
  else if f = 0x41 then (x, some (match hits with | [] => 0xFFFFFFFF | i :: _ => word i))
  else if f = 0x42 then (x, some (if sew = 64 then word (a 0) else sext sew (a 0)))
  else if f = 0x43 then
    (if x.active (fM w) 0 then x.setV (fD w) (setFld old 0 sew (scalarEl g sew)) else x, none)
  else (x.setV (fD w) (x.lanes sew (fM w) old (fun i => vintEl f sew (a i) (b i))), none)

/-- A vector integer, mask or transfer operation (R176, R179). -/
def State.vintInsn (s : State) (t n c cycle wait : Nat) (w : Word) : InsnEnd :=
  let f := if opcode w = 0x1D then fld w 0 9 else fV w
  let x := s.ctx t c
  if x.sew = 0 ∧ 7 < f then .fault s 1 0 0 0
  else if x.vl = 0 then .done s 4
  else
    let r := vintResult x w f (s.vecB t n c w) (s.g t n (fS2 w))
    let s' := s.setCtx t c r.1
    .done (match r.2 with | some v => s'.setG t n (fD w) v | none => s') (vecOcc (s.pinned t c) c cycle wait 0 x.beats 0)

/-- A fixed-point operation (R176, R181 to R183). -/
def State.vfixInsn (s : State) (t n c cycle wait : Nat) (w : Word) : InsnEnd :=
  let f := if opcode w = 0x1D then fld w 0 9 else fV w
  let x := s.ctx t c
  let sew := sewBits x.sew
  if x.sew = 0 ∨ (f = 0x10 ∧ x.sew ≠ 2 ∧ x.sew ≠ 3) then .fault s 1 0 0 0
  else if x.vl = 0 then .done s 4
  else
    let a := elOf (x.vreg (fS1 w)) sew
    let b := s.vecB t n c w
    let y := x.setV (fD w) (x.lanes sew (fM w) (x.vreg (fD w)) (fun i => (vfixEl f sew x.vxrm (a i) (b i)).1))
    let sat := (x.actives (fM w)).any (fun i => (vfixEl f sew x.vxrm (a i) (b i)).2)
    .done (s.setCtx t c { y with vsat := x.vsat || sat }) (vecOcc (s.pinned t c) c cycle wait 0 x.beats 0)

/-! ### Commands -/

/-- VSETVL (R175). -/
def execVsetvl (i : Issue) (w : Word) (s : State) : Out :=
  insn s i w .vsetvl (fun s => s.inCtx i.tile i.thread (fun s c =>
    s.vsetvlInsn i.tile i.thread c (fD w) (fI w) (s.g i.tile i.thread (fS1 w))))

/-- VECTOR_INTEGER_OP (R178, R179). -/
def execVectorIntegerOp (i : Issue) (w : Word) (s : State) : Out :=
  insn s i w .vint (fun s => s.inCtx i.tile i.thread (fun s c => s.vintInsn i.tile i.thread c i.cycle i.wait w))

/-- VECTOR_FIXED_POINT_OP (R178, R181). -/
def execVectorFixedPointOp (i : Issue) (w : Word) (s : State) : Out :=
  insn s i w .vfix (fun s => s.inCtx i.tile i.thread (fun s c => s.vfixInsn i.tile i.thread c i.cycle i.wait w))

end Sys2Proof.Machine
end

