-- ==== Sys2Proof/Machine/Float.lean ====
section
/-! DEFINITION. Floating point (R174, R184): IEEE 754-2019 binary32 and binary64 with subnormals, the rounding direction of
FCSR.FRM, and the five sticky flags. Values are exact integers times a power of two until the one rounding. -/

namespace Sys2Proof.Machine

/-- A binary format: exponent and fraction bits. -/
structure Fmt where
  ex : Nat
  mb : Nat
deriving DecidableEq, Repr

/-- binary32. -/
def b32 : Fmt := ⟨8, 23⟩
/-- binary64. -/
def b64 : Fmt := ⟨11, 52⟩

/-- A decoded operand; a finite one is (-1)^neg * m * 2^e. -/
inductive FVal where
  | nan (signaling : Bool)
  | inf (neg : Bool)
  | fin (neg : Bool) (m : Nat) (e : Int)
deriving DecidableEq, Repr

/-- A result: its bits, and the flags it sets. -/
structure FRes where
  bits : Nat
  fl : FpFlags
deriving DecidableEq, Repr

/-- Exponent bias. -/
def Fmt.bias (k : Fmt) : Nat := 2 ^ (k.ex - 1) - 1
/-- The sign bit of a result. -/
def Fmt.sign (k : Fmt) (neg : Bool) : Nat := neg.toNat * 2 ^ (k.ex + k.mb)
/-- The quiet NaN of R184. -/
def Fmt.qnan (k : Fmt) : Nat := (2 ^ k.ex - 1) * 2 ^ k.mb + 2 ^ (k.mb - 1)
/-- Infinity. -/
def Fmt.infBits (k : Fmt) (neg : Bool) : Nat := k.sign neg + (2 ^ k.ex - 1) * 2 ^ k.mb
/-- The largest finite number. -/
def Fmt.maxBits (k : Fmt) (neg : Bool) : Nat := k.infBits neg - 1

/-- Flag NV. -/
def flNV : FpFlags := ⟨true, false, false, false, false⟩
/-- The invalid operation: a quiet NaN with NV. -/
def invalid (k : Fmt) : FRes := ⟨k.qnan, flNV⟩
/-- A result without flags. -/
def exact (b : Nat) : FRes := ⟨b, noFlags⟩

/-- Decode an operand. -/
def Fmt.decode (k : Fmt) (x : Nat) : FVal :=
  let f := x % 2 ^ k.mb
  let e := x / 2 ^ k.mb % 2 ^ k.ex
  let neg := x / 2 ^ (k.mb + k.ex) % 2 == 1
  if e = 2 ^ k.ex - 1 then (if f = 0 then .inf neg else .nan (f < 2 ^ (k.mb - 1)))
  else if e = 0 then .fin neg f (1 - (k.bias : Int) - k.mb)
  else .fin neg (f + 2 ^ k.mb) ((e : Int) - k.bias - k.mb)

/-- The operand is a NaN, a signaling NaN. -/
def FVal.isNan : FVal → Bool
  | .nan _ => true
  | _ => false
/-- The operand is a signaling NaN. -/
def FVal.isSig : FVal → Bool
  | .nan s => s
  | _ => false
/-- The sign of an operand. -/
def FVal.neg : FVal → Bool
  | .inf s | .fin s _ _ => s
  | .nan _ => false

/-! ### Rounding -/

/-- A significand cut by `sh` bits under the rounding direction, and whether bits were lost. -/
def roundSig (rm : Nat) (neg : Bool) (m sh : Nat) : Nat × Bool :=
  let q := m / 2 ^ sh
  let rem := m % 2 ^ sh
  let up := if rm = 0 then decide (2 ^ sh < 2 * rem) || (2 * rem == 2 ^ sh && decide (0 < rem) && q % 2 == 1)
    else if rm = 1 then false
    else if rm = 2 then neg && rem != 0
    else !neg && rem != 0
  (if up then q + 1 else q, rem != 0)

/-- `m * 2^e` cut to a multiple of `2^q`. -/
def cutTo (rm : Nat) (neg : Bool) (m : Nat) (e q : Int) : Nat × Bool :=
  if q ≤ e then (m * 2 ^ (e - q).toNat, false) else roundSig rm neg m (q - e).toNat

/-- Round (-1)^neg * m * 2^e to a format: overflow, tininess and the flags of IEEE 754-2019; a zero keeps its sign. -/
def Fmt.round (k : Fmt) (rm : Nat) (neg : Bool) (m : Nat) (e : Int) : FRes :=
  if m = 0 then exact (k.sign neg)
  else
    let top := e + (Nat.log2 m : Int)
    let emin : Int := 1 - (k.bias : Int)
    let q := max (top - k.mb) (emin - k.mb)
    let r := cutTo rm neg m e q
    let sig := if r.1 = 2 ^ (k.mb + 1) then 2 ^ k.mb else r.1
    let q := if r.1 = 2 ^ (k.mb + 1) then q + 1 else q
    if decide (2 ^ k.mb ≤ sig) && decide ((k.bias : Int) < q + k.mb) then
      ⟨if rm = 0 ∨ (rm = 2 ∧ neg = true) ∨ (rm = 3 ∧ neg = false) then k.infBits neg else k.maxBits neg,
        ⟨false, false, true, false, true⟩⟩
    else
      let after := decide (top < emin - 1) || (cutTo rm neg m e (top - k.mb)).1 != 2 ^ (k.mb + 1)
      let uf := r.2 && decide (top < emin) && (after || Config.tinyBefore)
      let be := if sig < 2 ^ k.mb then 0 else (q + k.mb + k.bias).toNat
      ⟨k.sign neg + be * 2 ^ k.mb + sig % 2 ^ k.mb, ⟨false, false, false, uf, r.2⟩⟩

/-! ### Operations -/

/-- The signed integer of a finite operand in units of 2^u. -/
def scaled (neg : Bool) (m : Nat) (e u : Int) : Int :=
  let v : Int := ((m * 2 ^ (e - u).toNat : Nat) : Int)
  if neg then -v else v

/-- The exact sum of two finite values, rounded once; a zero sum is +0, or -0 toward negative, unless both signs agree. -/
def Fmt.sum (k : Fmt) (rm : Nat) (na : Bool) (ma : Nat) (ea : Int) (nb : Bool) (mb : Nat) (eb : Int) : FRes :=
  let u := min ea eb
  let v := scaled na ma ea u + scaled nb mb eb u
  if v = 0 then exact (k.sign (if na = nb then na else rm == 2))
  else k.round rm (decide (v < 0)) v.natAbs u

/-- NaN operands give the quiet NaN, with NV for a signaling one. -/
def nanRes (k : Fmt) (sig : Bool) : FRes := if sig then invalid k else exact k.qnan

/-- a + b. -/
def Fmt.add (k : Fmt) (rm : Nat) (a b : FVal) : FRes :=
  match a, b with
  | .nan _, _ | _, .nan _ => nanRes k (a.isSig || b.isSig)
  | .inf s, .inf s' => if s = s' then exact (k.infBits s) else invalid k
  | .inf s, _ | _, .inf s => exact (k.infBits s)
  | .fin na ma ea, .fin nb mb eb => k.sum rm na ma ea nb mb eb

/-- -b. -/
def FVal.negate : FVal → FVal
  | .nan s => .nan s
  | .inf s => .inf (!s)
  | .fin s m e => .fin (!s) m e

/-- a * b. -/
def Fmt.mul (k : Fmt) (rm : Nat) (a b : FVal) : FRes :=
  match a, b with
  | .nan _, _ | _, .nan _ => nanRes k (a.isSig || b.isSig)
  | .inf s, .inf s' => exact (k.infBits (s ^^ s'))
  | .inf s, .fin s' m _ | .fin s' m _, .inf s => if m = 0 then invalid k else exact (k.infBits (s ^^ s'))
  | .fin na ma ea, .fin nb mb eb => k.round rm (na ^^ nb) (ma * mb) (ea + eb)

/-- a / b. -/
def Fmt.div (k : Fmt) (rm : Nat) (a b : FVal) : FRes :=
  match a, b with
  | .nan _, _ | _, .nan _ => nanRes k (a.isSig || b.isSig)
  | .inf _, .inf _ => invalid k
  | .inf s, .fin s' _ _ => exact (k.infBits (s ^^ s'))
  | .fin s _ _, .inf s' => exact (k.sign (s ^^ s'))
  | .fin na ma ea, .fin nb mb eb =>
    if mb = 0 then
      (if ma = 0 then invalid k else ⟨k.infBits (na ^^ nb), ⟨false, true, false, false, false⟩⟩)
    else
      let j := k.mb + 4 + Nat.log2 mb
      let n := ma * 2 ^ j
      k.round rm (na ^^ nb) (2 * (n / mb) + (if n % mb = 0 then 0 else 1)) (ea - eb - j - 1)

/-- The integer square root from a candidate, one bit at a time. -/
def isqrt : Nat → Nat → Nat → Nat
  | 0, _, r => r
  | j + 1, m, r => if (r + 2 ^ j) * (r + 2 ^ j) ≤ m then isqrt j m (r + 2 ^ j) else isqrt j m r

/-- The square root. -/
def Fmt.sqrt (k : Fmt) (rm : Nat) (a : FVal) : FRes :=
  match a with
  | .nan s => nanRes k s
  | .inf s => if s then invalid k else exact (k.infBits false)
  | .fin s m e =>
    if m = 0 then exact (k.sign s)
    else if s then invalid k
    else
      let j := 2 * (k.mb + 4) + ((e - 2 * ((k.mb : Int) + 4)) % 2).toNat
      let n := m * 2 ^ j
      let r := isqrt (Nat.log2 n / 2 + 1) n 0
      k.round rm false (2 * r + (if r * r = n then 0 else 1)) ((e - j) / 2 - 1)

/-- d + a * b with one rounding. -/
def Fmt.fma (k : Fmt) (rm : Nat) (d a b : FVal) : FRes :=
  let zeroInf := match a, b with
    | .inf _, .fin _ m _ | .fin _ m _, .inf _ => m == 0
    | _, _ => false
  if d.isNan || a.isNan || b.isNan then
    nanRes k (d.isSig || a.isSig || b.isSig || (zeroInf && Config.fmaInvalid))
  else if zeroInf then invalid k
  else
    let ps := a.neg ^^ b.neg
    match a, b, d with
    | .fin _ ma ea, .fin _ mb eb, .fin nd md ed => k.sum rm ps (ma * mb) (ea + eb) nd md ed
    | .fin _ _ _, .fin _ _ _, _ => exact (k.infBits d.neg)
    | _, _, .inf s => if s = ps then exact (k.infBits s) else invalid k
    | _, _, _ => exact (k.infBits ps)

/-- a < b for operands that are no NaN. -/
def fLess (a b : FVal) : Bool :=
  match a, b with
  | .inf s, .inf s' => s && !s'
  | .inf s, _ => s
  | _, .inf s => !s
  | .fin na ma ea, .fin nb mb eb =>
    let u := min ea eb
    decide (scaled na ma ea u < scaled nb mb eb u)
  | _, _ => false

/-- a = b for operands that are no NaN. -/
def fEqual (a b : FVal) : Bool := !fLess a b && !fLess b a

/-- FEQ (`f` 0x10), FLT, FLE with their flags. -/
def fCompare (f : Nat) (a b : FVal) : Bool × FpFlags :=
  if a.isNan || b.isNan then
    (false, if a.isSig || b.isSig || (f != 0x10 && Config.signalingLess) then flNV else noFlags)
  else (if f = 0x10 then fEqual a b else if f = 0x11 then fLess a b else !fLess b a, noFlags)

/-- FMIN, or FMAX; `x` and `y` are the operands' bits. -/
def Fmt.minMax (k : Fmt) (isMax : Bool) (x y : Nat) : FRes :=
  let a := k.decode x
  let b := k.decode y
  let fl := if a.isSig || b.isSig then flNV else noFlags
  if a.isNan || b.isNan then
    if a.isNan && b.isNan then ⟨k.qnan, fl⟩
    else if Config.minNumber then ⟨if a.isNan then y else x, fl⟩ else ⟨k.qnan, fl⟩
  else
    let less := fLess a b || (!fLess b a && a.neg && !b.neg)
    exact (if isMax then (if less then y else x) else if less then x else y)

/-- A value rounded to an integer of `n` bits, signed and saturated; `none` for a NaN (R184). -/
def toInt (n rm : Nat) (a : FVal) : Option Int × FpFlags :=
  let hi : Int := ((2 ^ (n - 1) : Nat) : Int) - 1
  let lo : Int := - ((2 ^ (n - 1) : Nat) : Int)
  match a with
  | .nan _ => (none, flNV)
  | .inf s => (some (if s then lo else hi), flNV)
  | .fin s m e =>
    let r := cutTo rm s m e 0
    let v : Int := if s then -(r.1 : Int) else (r.1 : Int)
    if hi < v then (some hi, flNV) else if v < lo then (some lo, flNV) else (some v, ⟨false, false, false, false, r.2⟩)

/-- A signed integer in a format. -/
def Fmt.ofInt (k : Fmt) (rm : Nat) (v : Int) : FRes := k.round rm (decide (v < 0)) v.natAbs 0

/-- A value in another format. -/
def Fmt.ofVal (k : Fmt) (rm : Nat) (a : FVal) : FRes :=
  match a with
  | .nan s => nanRes k s
  | .inf s => exact (k.infBits s)
  | .fin s m e => k.round rm s m e

/-- The operations 0x00 to 0x06 and 0x08 on operand bits `x`, `y` and, for FMA, the addend `d` (R184). -/
def Fmt.arith (k : Fmt) (rm f x y d : Nat) : FRes :=
  let a := k.decode x
  let b := k.decode y
  if f = 0 then k.add rm a b
  else if f = 1 then k.add rm a b.negate
  else if f = 2 then k.mul rm a b
  else if f = 3 then k.div rm a b
  else if f = 4 then k.sqrt rm a
  else if f = 5 then k.minMax false x y
  else if f = 6 then k.minMax true x y
  else k.fma rm (k.decode d) a b

/-! ### The F registers (R174) -/

/-- The operand in Fn: a binary32 one whose upper half is not all ones reads as the quiet NaN. -/
def fRead (dbl : Bool) (v : VReg) : Nat :=
  if dbl then fld v 0 64 else if fld v 32 32 = 2 ^ 32 - 1 then fld v 0 32 else b32.qnan

/-- A result in Fn: a binary32 one sets the upper half to all ones; bits 2047:64 stay. -/
def fWrite (dbl : Bool) (v : VReg) (r : Nat) : VReg := setFld v 0 64 (if dbl then r else (2 ^ 32 - 1) * 2 ^ 32 + r % 2 ^ 32)

/-- The format that a bit selects. -/
def fmtOf (dbl : Bool) : Fmt := if dbl then b64 else b32

/-- Occupancy of a scalar operation (R184). -/
def sfpOcc (f : Nat) (dbl : Bool) : Nat := if f = 3 ∨ f = 4 then (if dbl then 40 else 24) else if f = 8 then 12 else 8

/-- Set flags in FCSR. -/
def Ctx.flags (x : Ctx) (f : FpFlags) : Ctx := { x with fcsr := fcsrSet x.fcsr f }

/-- A scalar floating-point operation (R184). FCVT.W of a NaN writes a free value (log entry 3). -/
def State.sfpInsn (s : State) (t n c : Nat) (w : Word) : InsnEnd :=
  let x := s.ctx t c
  let f := fV w
  let dbl := bit w 10
  let k := fmtOf dbl
  let rm := fld x.fcsr 0 2
  let rd := fun (r : Nat) => fRead dbl (x.vreg r)
  let put := fun (r : FRes) => s.setCtx t c ((x.setV (fD w) (fWrite dbl (x.vreg (fD w)) r.bits)).flags r.fl)
  let occ := sfpOcc f dbl
  if f ≤ 8 then .done (put (k.arith rm f (rd (fS1 w)) (rd (fS2 w)) (rd (fD w)))) occ
  else if f ≤ 0x12 then
    let r := fCompare f (k.decode (rd (fS1 w))) (k.decode (rd (fS2 w)))
    .done ((s.setCtx t c (x.flags r.2)).setG t n (fD w) (if r.1 then 1 else 0)) occ
  else if f = 0x18 then
    let r := toInt 32 rm (k.decode (rd (fS1 w)))
    let s := s.setCtx t c (x.flags r.2)
    match r.1 with
    | some v => .done (s.setG t n (fD w) (wordI v)) occ
    | none => let q := s.freshWord; .done (q.2.setG t n (fD w) q.1) occ
  else if f = 0x19 then .done (put (k.ofInt rm (s.g t n (fS1 w)).toInt)) occ
  else if f = 0x1A then
    .done (put (k.ofVal rm ((fmtOf (!dbl)).decode (fRead (!dbl) (x.vreg (fS1 w)))))) occ
  else if f = 0x1C then .done (s.setG t n (fD w) (word (fld (x.vreg (fS1 w)) 0 32))) occ
  else .done (s.setCtx t c (x.setV (fD w) (fWrite false (x.vreg (fD w)) (s.g t n (fS1 w)).toNat))) occ

/-- One element of a vector operation: its result and flags; `free` is the value of a conversion of a NaN (R184). -/
def vfpEl (k : Fmt) (rm f sew a b d free : Nat) : FRes :=
  if f ≤ 8 then k.arith rm f a b d
  else if f = 0x18 then
    let r := toInt sew rm (k.decode a)
    match r.1 with
    | some v => ⟨(BitVec.ofInt sew v).toNat, r.2⟩
    | none => ⟨free, r.2⟩
  else k.ofInt rm (sextNat sew a)

/-- A vector floating-point operation (R176, R184): SEW 32 or 64 only; the flags are those of the active elements. -/
def State.vfpInsn (s : State) (t c cycle wait : Nat) (w : Word) : InsnEnd :=
  let x := s.ctx t c
  let f := fV w
  if x.sew ≠ 3 ∧ x.sew ≠ 4 then .fault s 1 0 0 0
  else if x.vl = 0 then .done s 4
  else
    let sew := sewBits x.sew
    let k := fmtOf (x.sew == 4)
    let rm := fld x.fcsr 0 2
    let a := elOf (x.vreg (fS1 w)) sew
    let b := elOf (x.vreg (fS2 w)) sew
    let old := x.vreg (fD w)
    let occ := vecOcc (s.pinned t c) c cycle wait 0 x.beats 0
    if 0x10 ≤ f ∧ f ≤ 0x12 then
      let r := fun (i : Nat) => fCompare f (k.decode (a i)) (k.decode (b i))
      let fl := (x.actives (fM w)).foldl (fun (z : FpFlags) i => z.or (r i).2) noFlags
      .done (s.setCtx t c ((x.setV (fD w) (x.lanes 1 (fM w) old (fun i => (r i).1.toNat))).flags fl)) occ
    else
      let free := Config.freeVReg s.freeCtr
      let r := fun (i : Nat) => vfpEl k rm f sew (a i) (b i) (elOf old sew i) (elOf free sew i)
      let fl := (x.actives (fM w)).foldl (fun (z : FpFlags) i => z.or (r i).fl) noFlags
      let s := if f = 0x18 then { s with freeCtr := s.freeCtr + 1 } else s
      .done (s.setCtx t c ((x.setV (fD w) (x.lanes sew (fM w) old (fun i => (r i).bits))).flags fl)) occ

/-! ### Commands -/

/-- SCALAR_FP_OP (R174, R184). -/
def execScalarFpOp (i : Issue) (w : Word) (s : State) : Out :=
  insn s i w .sfp (fun s => s.inCtx i.tile i.thread (fun s c => s.sfpInsn i.tile i.thread c w))

/-- VECTOR_FP_OP (R184). -/
def execVectorFpOp (i : Issue) (w : Word) (s : State) : Out :=
  insn s i w .vfp (fun s => s.inCtx i.tile i.thread (fun s c => s.vfpInsn i.tile c i.cycle i.wait w))

end Sys2Proof.Machine
end

