-- ==== Sys2Proof/Machine/VecMem.lean ====
section
/-! DEFINITION. Vector memory instructions (R180, R185 to R189): the addresses of the elements, the pre-pass, and the
transfers in ascending order. -/

namespace Sys2Proof.Machine

/-- One access of a vector memory instruction: the element it stands for, its thread address, its bytes. At SEW 1 an
access is a word, which holds elements `k` to `k + 31`. -/
structure VAcc where
  k : Nat
  addr : Nat
  len : Nat
deriving DecidableEq, Repr

/-- The forms of R185. -/
inductive VForm where
  | unit | strided | scalarF (dbl : Bool) | indexed
deriving DecidableEq, Repr

/-- The form of a word of opcode 0x1B or 0x1C. -/
def vForm (w : Word) : VForm :=
  if opcode w = 0x1C then .indexed
  else if fV w / 2 = 0 then .unit
  else if fV w / 2 = 1 then .strided
  else .scalarF (fV w / 2 == 6)

/-- The address of element `i` (R185). -/
def State.vAddr (s : State) (t n : Nat) (x : Ctx) (w : Word) (i : Nat) : Nat :=
  let base := (s.g t n (fS1 w)).toNat
  let sew := sewBits x.sew
  let off := match vForm w with
    | .unit => i * (sew / 8)
    | .strided => i * (s.g t n (fS2 w)).toNat
    | .scalarF _ => (s.g t n (fS2 w)).toNat
    | .indexed => elOf (x.vreg (fS2 w)) sew i
  (base + off) % 2 ^ 32

/-- The accesses of an instruction: one for each active element, for each word with an active element at SEW 1, or the one
of a scalar F form. -/
def State.vAccesses (s : State) (t n : Nat) (x : Ctx) (w : Word) : List VAcc :=
  match vForm w with
  | .scalarF dbl => [⟨0, s.vAddr t n x w 0, if dbl then 8 else 4⟩]
  | _ =>
    if x.sew = 0 then
      ((List.range (x.vl / 32)).filter (fun j => (List.range 32).any (fun b => x.active (fM w) (32 * j + b)))).map
        (fun j => ⟨32 * j, ((s.g t n (fS1 w)).toNat + 4 * j) % 2 ^ 32, 4⟩)
    else (x.actives (fM w)).map (fun i => ⟨i, s.vAddr t n x w i, sewBits x.sew / 8⟩)

/-- How an element fails the pre-pass (R186): VRESTART with its VFCAUSE, or a core fault. -/
inductive VStop where
  | restart (cause : Nat)
  | fault (cause detail : Nat)
deriving DecidableEq, Repr

/-- The checks of R186 on one access, in their order. -/
def State.vStop (s : State) (t n : Nat) (k : AccKind) (a : VAcc) : Option VStop :=
  if a.addr % a.len ≠ 0 then some (.restart 2)
  else match s.partStop t n k a.len a.addr a.len <|> s.setupStop t n a.addr with
    | none => none
    | some (.exc _) => some (.restart 1)
    | some (.fault c d) => some (.fault c d)

/-- The first access that fails, with how. At SEW 1 a base or a VL that R180 forbids fails at element 0. -/
def State.vPrePass (s : State) (t n : Nat) (k : AccKind) (x : Ctx) (w : Word) (l : List VAcc) : Option (VAcc × VStop) :=
  let base := (s.g t n (fS1 w)).toNat
  let bits := match vForm w with | .scalarF _ => false | _ => x.sew == 0
  if bits && (base % 4 != 0 || x.vl % 32 != 0) then some (⟨0, base, 4⟩, .restart 2)
  else l.findSome? (fun a => (s.vStop t n k a).map (fun e => (a, e)))

/-- Pre-pass cycles, beats, and extra cycles (R186, R191): a beat to shared memory outside the thread's slices costs a
pinned context 4 more, an unpinned one at least 1 more; a beat to its own slices costs an unpinned one 3 more; host windows
cost the wait for the responses. -/
def State.vBeats (s : State) (t n c wait : Nat) (x : Ctx) (w : Word) (l : List VAcc) : Nat × Nat × Nat :=
  let host := if s.pinned t c && l.any (fun a => match rgnOf a.addr with | .host _ => true | _ => false) then wait else 0
  let extra := fun (a : Nat) =>
    if rgnOf a != .shared then 0
    else if s.inOwnSlice t n a then (if s.pinned t c then 0 else 3)
    else if s.pinned t c then 4 else 1
  let sum := fun (l : List Nat) => l.foldl (fun z a => z + extra a) host
  match vForm w with
  | .unit =>
    let base := (s.g t n (fS1 w)).toNat
    (x.beats, x.beats, sum ((List.range x.beats).map (fun j => (base + 32 * j) % 2 ^ 32)))
  | .scalarF _ => (1, 1, sum (l.map (·.addr)))
  | _ => (ceilDiv x.vl 8, x.vl, sum (l.map (·.addr)))

/-- A store-buffer entry of the tile overlaps an access (R189). -/
def State.vOverlaps (s : State) (t n : Nat) (l : List VAcc) : Bool :=
  l.any (fun a => match rgnOf a.addr with
    | .host _ => (s.tile t).sb.any (fun e => sbOverlaps e (s.hostAddr t n a.addr) a.len)
    | _ => false)

/-- The first access that hits a watchpoint (R473). -/
def State.vWatch (s : State) (t n : Nat) (k : AccKind) (l : List VAcc) : Option (Nat × Nat) :=
  l.findSome? (fun a => (s.watch t n k a.addr a.len).map (fun i => (i, a.addr)))

/-- The end of an instruction that failed the pre-pass (R186): VFIDX, VFADDR and VFCAUSE name the element. -/
def State.vFail (s : State) (t n : Nat) (a : VAcc) (e : VStop) : InsnEnd :=
  match e with
  | .restart c => .exc (s.noteElement t n a.k c (word a.addr)) 6
  | .fault c d => .fault (s.noteElement t n a.k 3 (word a.addr)) c d 0 (word a.addr)

/-- How the transfer of one element ends. -/
inductive VGot where
  | ok (v : Nat)
  | fault (cause detail refc : Nat)
deriving DecidableEq, Repr

/-- Two bytes of a unit-stride access belong to one word and to one 256-bit beat (R191). -/
def sameBeat (base a b : Nat) : Bool := decide (a / 4 = b / 4 ∧ base ≤ a ∧ base ≤ b ∧ (a - base) / 32 = (b - base) / 32)

/-- An element of a unit-stride access whose word an earlier element of its beat has read already (R252). -/
def readBefore (unit : Option Nat) (l : List VAcc) (a : VAcc) : Bool :=
  match unit with
  | none => false
  | some base => l.any (fun x => decide (x.k < a.k) && sameBeat base x.addr a.addr)

/-- An element of a unit-stride store that belongs to a word which its beat writes in full (R251). -/
def fullWord (unit : Option Nat) (l : List VAcc) (a : VAcc) : Bool :=
  match unit with
  | none => false
  | some base => (List.range 4).all (fun k =>
      let b := a.addr / 4 * 4 + k
      sameBeat base a.addr b && l.any (fun x => decide (x.addr ≤ b ∧ b < x.addr + x.len)))

/-- The base of a unit-stride access. -/
def State.vUnit (s : State) (t n : Nat) (w : Word) : Option Nat :=
  match vForm w with | .unit => some (s.g t n (fS1 w)).toNat | _ => none

/-- Read one element; `out` holds what the host or the boot ROM answers for it, too few bytes where the host answers ERR
(R188); `again` tells that its beat has read the word already. -/
def State.vRead (s : State) (t n : Nat) (a : VAcc) (again : Bool) (out : List Byte) (err : Bool) : State × VGot :=
  match rgnOf a.addr with
  | .scratch | .shared =>
    if again then (s, .ok (ofLeBytes (s.readBytes (memAddr t a.addr) a.len)))
    else
      (match s.memLoad t n a.addr a.len with
       | (s, some bs) => (s, .ok (ofLeBytes bs))
       | (s, none) => (s, .fault 3 0 0))
  | .host _ => if err && decide (out.length < a.len) then (s, .fault 4 0 0) else (s, .ok (ofLeBytes (out.take a.len)))
  | .rom => (s, .ok (ofLeBytes (out.take a.len)))
  | .tilePage =>
    (match s.threadRead t n true (0x10000 + 0x1000 * t + a.addr % 0x1000) with
     | (s, .ok v) => (s, .ok v.toNat)
     | (s, .error e) => (s, .fault 2 e.1 e.2))
  | .setup =>
    (match s.threadRead t n false (a.addr - 0x08000000) with
     | (s, .ok v) => (s, .ok v.toNat)
     | (s, .error e) => (s, .fault 2 e.1 e.2))
  | .unmapped => (s, .fault 2 1 0)

/-- Read the elements in order: their values by element, or the first that fails. -/
def State.vReadAll (s : State) (t n : Nat) (again : VAcc → Bool) (err : Bool) :
    List VAcc → List Byte → State × Except (VAcc × Nat × Nat × Nat) (List (Nat × Nat))
  | [], _ => (s, .ok [])
  | a :: l, out =>
    match s.vRead t n a (again a) out err with
    | (s, .fault c d r) => (s, .error (a, c, d, r))
    | (s, .ok v) =>
      match State.vReadAll s t n again err l (out.drop a.len) with
      | (s, .ok vs) => (s, .ok ((a.k, v) :: vs))
      | x => x

/-- A vector load into Vd, from values by access (R174, R176, R185). -/
def vLoaded (x : Ctx) (w : Word) (vs : List (Nat × Nat)) : Ctx :=
  let old := x.vreg (fD w)
  match vForm w with
  | .scalarF dbl => x.setV (fD w) (fWrite dbl old (mget vs 0 0))
  | _ =>
    if x.sew = 0 then x.setV (fD w) (x.lanes 1 (fM w) old (fun i => mget vs 0 (i / 32 * 32) / 2 ^ (i % 32) % 2))
    else x.setV (fD w) (x.lanes (sewBits x.sew) (fM w) old (fun i => mget vs 0 i))

/-- What the word of a SEW 1 store holds before it: the memory word, the word of the setup region, or for a host window the
word `out` that the host holds there. -/
def State.vOld (s : State) (t n a : Nat) (out : List Byte) : Nat :=
  match rgnOf a with
  | .scratch | .shared => ofLeBytes (s.readBytes (memAddr t a) 4)
  | .tilePage => (match (s.threadRead t n true (0x10000 + 0x1000 * t + a % 0x1000)).2 with | .ok v => v.toNat | .error _ => 0)
  | .setup => (match (s.threadRead t n false (a - 0x08000000)).2 with | .ok v => v.toNat | .error _ => 0)
  | _ => ofLeBytes (out.take 4)

/-- The element of a store: its bits in Vs, at SEW 1 the word's active elements over what the word holds. -/
def State.vStored (s : State) (t n : Nat) (x : Ctx) (w : Word) (a : VAcc) (out : List Byte) : Nat :=
  let v := x.vreg (fD w)
  match vForm w with
  | .scalarF dbl => fld v 0 (if dbl then 64 else 32)
  | _ =>
    if x.sew = 0 then
      let old := s.vOld t n a.addr out
      packEls 1 ((List.range 32).map (fun b => if x.active (fM w) (a.k + b) then elOf v 1 (a.k + b) else old / 2 ^ b % 2))
    else elOf v (sewBits x.sew) a.k

/-- Drop the data-cache words of the line that a vector store writes (R189). -/
def State.dcDropLine (s : State) (t ha : Nat) : State :=
  let keep := fun (y : Nat × Word × Word) => s.hostAddr t y.1 y.2.1.toNat / 64 != ha / 64
  s.setTile t { s.tile t with dcache := (s.tile t).dcache.filter keep }

/-- Write one element; `full` tells that its beat writes the whole word, whose check bits are then valid (R251). -/
def State.vWrite (s : State) (t n : Nat) (x : Ctx) (w : Word) (a : VAcc) (full : Bool) (out : List Byte) :
    State × Option (Nat × Nat × Nat) :=
  let bs := leBytes a.len (s.vStored t n x w a out)
  match rgnOf a.addr with
  | .scratch | .shared =>
    let m := memAddr t a.addr
    let s := if full then (let s := s.promoteRange m 1; s.eccGood (s.phys (m / 4 * 4))) else s
    if s.eccStops m a.len then ((s.eccWrite m a.len false).1, some (3, 0, 0))
    else (s.memStore t n a.addr bs, none)
  | .host win =>
    ((s.dcDropLine t (s.hostAddr t n a.addr)).mgrWrite (s.hwPort t win) (s.hostAddr t n a.addr) bs (.threadStore t n), none)
  | _ =>
    match s.storePart t n a.addr 0 bs with
    | (s, none) => (s, none)
    | (s, some d) => (s, some (2, d.1, d.2))

/-- Write the elements in order: done, or the first that fails. -/
def State.vWriteAll (s : State) (t n : Nat) (x : Ctx) (w : Word) (full : VAcc → Bool) :
    List VAcc → List Byte → State × Option (VAcc × Nat × Nat × Nat)
  | [], _ => (s, none)
  | a :: l, out =>
    match s.vWrite t n x w a (full a) out with
    | (s, none) => State.vWriteAll s t n x w full l (out.drop a.len)
    | (s, some e) => (s, some (a, e))

/-- What a load or a store does before its transfers: the encodings that SEW 1 forbids, VL = 0, the pre-pass, watchpoints,
and the wait for the store buffer; `go` makes the transfers. -/
def State.vmemInsn (s : State) (t n c : Nat) (w : Word) (k : AccKind) (go : State → List VAcc → InsnEnd) : InsnEnd :=
  let x := s.ctx t c
  let scalar := match vForm w with | .scalarF _ => true | _ => false
  let l := s.vAccesses t n x w
  if x.sew = 0 ∧ (vForm w = .indexed ∨ vForm w = .strided) then .fault s 1 0 0 0
  else if x.vl = 0 ∧ scalar = false then .done s 4
  else
    let s := s.noteHost t n (l.map (fun a => (a.addr, a.len)))
    match s.vPrePass t n k x w l with
    | some (a, e) => s.vFail t n a e
    | none =>
      match s.vWatch t n k l with
      | some (i, a) => .brk 5 i (word a)
      | none => if s.vOverlaps t n l then .stall else go s l

/-- A vector load. -/
def State.vloadInsn (s : State) (t n c cycle wait : Nat) (w : Word) (h : HostData) : InsnEnd :=
  s.vmemInsn t n c w .load (fun s l =>
    let x := s.ctx t c
    let b := s.vBeats t n c wait x w l
    match s.vReadAll t n (readBefore (s.vUnit t n w) l) h.err l h.bytes with
    | (s, .ok vs) => .done (s.setCtx t c (vLoaded x w vs)) (vecOcc (s.pinned t c) c cycle wait b.1 b.2.1 b.2.2)
    | (s, .error (a, cs, d, r)) =>
      .fault (if cs = 4 then s.noteElement t n a.k 3 (word a.addr) else s) cs d r (word a.addr))

/-- A vector store; one that reaches a host window waits for every response (R189). `old` holds what the host holds at the
words of a SEW 1 store. -/
def State.vstoreInsn (s : State) (t n c cycle wait : Nat) (w : Word) (old : List Byte) : InsnEnd :=
  s.vmemInsn t n c w .store (fun s l =>
    let x := s.ctx t c
    let b := s.vBeats t n c wait x w l
    let hs := l.filterMap (fun a => match rgnOf a.addr with
      | .host win => some (s.hwPort t win, s.hostAddr t n a.addr, word a.addr, some a.k)
      | _ => none)
    match s.vWriteAll t n x w (fullWord (s.vUnit t n w) l) l old with
    | (s, some (a, cs, d, r)) => .fault s cs d r (word a.addr)
    | (s, none) =>
      if !s.clk.running || s.clk.held then .gone s
      else if hs.isEmpty then .done s (vecOcc (s.pinned t c) c cycle wait b.1 b.2.1 b.2.2)
      else .wait (s.setWait t n (.hostStore hs)) (vecOcc (s.pinned t c) c cycle 0 b.1 b.2.1 0))

/-! ### Commands -/

/-- VECTOR_LOAD (R185 to R189). -/
def execVectorLoad (i : Issue) (w : Word) (h : HostData) (s : State) : Out :=
  insn s i w .vload (fun s => s.inCtx i.tile i.thread (fun s c => s.vloadInsn i.tile i.thread c i.cycle i.wait w h))

/-- VECTOR_STORE (R185 to R189). -/
def execVectorStore (i : Issue) (w : StoreWord) (s : State) : Out :=
  insn s i w.word .vstore (fun s =>
    s.inCtx i.tile i.thread (fun s c => s.vstoreInsn i.tile i.thread c i.cycle i.wait w.word w.host.bytes))

/-- VECTOR_GATHER (R185 to R189). -/
def execVectorGather (i : Issue) (w : Word) (h : HostData) (s : State) : Out :=
  insn s i w .vgather (fun s => s.inCtx i.tile i.thread (fun s c => s.vloadInsn i.tile i.thread c i.cycle i.wait w h))

/-- VECTOR_SCATTER (R185 to R189): of two elements at the same bytes the higher index wins. -/
def execVectorScatter (i : Issue) (w : Word) (s : State) : Out :=
  insn s i w .vscatter (fun s => s.inCtx i.tile i.thread (fun s c => s.vstoreInsn i.tile i.thread c i.cycle i.wait w []))

end Sys2Proof.Machine
end

