-- ==== Sys2Proof/Machine/Dispatch.lean ====
section
/-! DEFINITION. The one dispatch of the block: each command of the table runs its meaning. -/

namespace Sys2Proof.Machine

def exec (i : Instr) (s : State) : Host.Outcome State Fault Refusal :=
  match i with
  | .porstNAssert => Sys2Proof.Machine.execPorstNAssert s
  | .porstNDeassert => Sys2Proof.Machine.execPorstNDeassert s
  | .sysrstNAssert => Sys2Proof.Machine.execSysrstNAssert s
  | .sysrstNDeassert => Sys2Proof.Machine.execSysrstNDeassert s
  | .clkAckRise => Sys2Proof.Machine.execClkAckRise s
  | .clkAckFall => Sys2Proof.Machine.execClkAckFall s
  | .pdAckRise d => Sys2Proof.Machine.execPdAckRise d s
  | .domainResetRelease d => Sys2Proof.Machine.execDomainResetRelease d s
  | .domainDrainEnd d => Sys2Proof.Machine.execDomainDrainEnd d s
  | .pdAckFall d => Sys2Proof.Machine.execPdAckFall d s
  | .pdAckLost d => Sys2Proof.Machine.execPdAckLost d s
  | .pdTimeout d => Sys2Proof.Machine.execPdTimeout d s
  | .pwrBudgetAccept g => Sys2Proof.Machine.execPwrBudgetAccept g s
  | .dbKickEdge p => Sys2Proof.Machine.execDbKickEdge p s
  | .faultInRise j => Sys2Proof.Machine.execFaultInRise j s
  | .trstNAssert => Sys2Proof.Machine.execTrstNAssert s
  | .memoryClearEnd m => Sys2Proof.Machine.execMemoryClearEnd m s
  | .keptMemoryReady m => Sys2Proof.Machine.execKeptMemoryReady m s
  | .blkStateReqBoot src => Sys2Proof.Machine.execBlkStateReqBoot src s
  | .blkStateReqRun src => Sys2Proof.Machine.execBlkStateReqRun src s
  | .blkStateReqTest src => Sys2Proof.Machine.execBlkStateReqTest src s
  | .blkBootdoneWrite src v => Sys2Proof.Machine.execBlkBootdoneWrite src v s
  | .blkBootptrWrite src k v => Sys2Proof.Machine.execBlkBootptrWrite src k v s
  | .registerWrite src off v => Sys2Proof.Machine.execRegisterWrite src off v s
  | .subordinateRead p sec addr => Sys2Proof.Machine.execSubordinateRead p sec addr s
  | .subordinateWrite p sec addr data strb => Sys2Proof.Machine.execSubordinateWrite p sec addr data strb s
  | .hpSemAcquire p n => Sys2Proof.Machine.execHpSemAcquire p n s
  | .hpSemRelease p n => Sys2Proof.Machine.execHpSemRelease p n s
  | .hpSembrk src v => Sys2Proof.Machine.execHpSembrk src v s
  | .burstModeRequest src p => Sys2Proof.Machine.execBurstModeRequest src p s
  | .burstModeLeave src p => Sys2Proof.Machine.execBurstModeLeave src p s
  | .tz2MailboxWrite p k v => Sys2Proof.Machine.execTz2MailboxWrite p k v s
  | .managerReadResponse p id err => Sys2Proof.Machine.execManagerReadResponse p id err s
  | .managerWriteResponse p id a => Sys2Proof.Machine.execManagerWriteResponse p id a s
  | .storeBufferDrain t a => Sys2Proof.Machine.execStoreBufferDrain t a s
  | .tlCtlMapload src t => Sys2Proof.Machine.execTlCtlMapload src t s
  | .slotMapActivate t => Sys2Proof.Machine.execSlotMapActivate t s
  | .tlCtlTrst src t => Sys2Proof.Machine.execTlCtlTrst src t s
  | .tlCtlStart src t => Sys2Proof.Machine.execTlCtlStart src t s
  | .tlCtlDetmWrite src t detm => Sys2Proof.Machine.execTlCtlDetmWrite src t detm s
  | .tlHwrouteWrite src t v => Sys2Proof.Machine.execTlHwrouteWrite src t v s
  | .tlHwrouteApply t => Sys2Proof.Machine.execTlHwrouteApply t s
  | .thHwinWrite src t n k v => Sys2Proof.Machine.execThHwinWrite src t n k v s
  | .thRegisterWrite src t n k v => Sys2Proof.Machine.execThRegisterWrite src t n k v s
  | .interruptEntry t n => Sys2Proof.Machine.execInterruptEntry t n s
  | .eventInput t n b => Sys2Proof.Machine.execEventInput t n b s
  | .evsendDelivery q => Sys2Proof.Machine.execEvsendDelivery q s
  | .wfeWake t n => Sys2Proof.Machine.execWfeWake t n s
  | .channelWaitServed block t c => Sys2Proof.Machine.execChannelWaitServed block t c s
  | .chwaitTimeout t n => Sys2Proof.Machine.execChwaitTimeout t n s
  | .deadlockDetected t => Sys2Proof.Machine.execDeadlockDetected t s
  | .integerRegisterOp k w => Sys2Proof.Machine.execIntegerRegisterOp k w s
  | .integerImmediateOp k w => Sys2Proof.Machine.execIntegerImmediateOp k w s
  | .extract k w => Sys2Proof.Machine.execExtract k w s
  | .extractS k w => Sys2Proof.Machine.execExtractS k w s
  | .insertField k w => Sys2Proof.Machine.execInsertField k w s
  | .lui k w => Sys2Proof.Machine.execLui k w s
  | .auipc k w => Sys2Proof.Machine.execAuipc k w s
  | .load k w h => Sys2Proof.Machine.execLoad k w h s
  | .store k w => Sys2Proof.Machine.execStore k w s
  | .amoadd k w => Sys2Proof.Machine.execAmoadd k w s
  | .amoswap k w => Sys2Proof.Machine.execAmoswap k w s
  | .cas k w => Sys2Proof.Machine.execCas k w s
  | .jal k w => Sys2Proof.Machine.execJal k w s
  | .jalr k w => Sys2Proof.Machine.execJalr k w s
  | .branch k w => Sys2Proof.Machine.execBranch k w s
  | .hwLoop k w => Sys2Proof.Machine.execHwLoop k w s
  | .csrrd k w => Sys2Proof.Machine.execCsrrd k w s
  | .csrwr k w => Sys2Proof.Machine.execCsrwr k w s
  | .fence k w => Sys2Proof.Machine.execFence k w s
  | .iflush k w => Sys2Proof.Machine.execIflush k w s
  | .bld k w => Sys2Proof.Machine.execBld k w s
  | .bldn k w => Sys2Proof.Machine.execBldn k w s
  | .band k w => Sys2Proof.Machine.execBand k w s
  | .bandn k w => Sys2Proof.Machine.execBandn k w s
  | .bor k w => Sys2Proof.Machine.execBor k w s
  | .born k w => Sys2Proof.Machine.execBorn k w s
  | .bxor k w => Sys2Proof.Machine.execBxor k w s
  | .bst k w => Sys2Proof.Machine.execBst k w s
  | .bset k w => Sys2Proof.Machine.execBset k w s
  | .brst k w => Sys2Proof.Machine.execBrst k w s
  | .btog k w => Sys2Proof.Machine.execBtog k w s
  | .brise k w => Sys2Proof.Machine.execBrise k w s
  | .bfall k w => Sys2Proof.Machine.execBfall k w s
  | .bpush k w => Sys2Proof.Machine.execBpush k w s
  | .bpop k w => Sys2Proof.Machine.execBpop k w s
  | .bands k w => Sys2Proof.Machine.execBands k w s
  | .bors k w => Sys2Proof.Machine.execBors k w s
  | .bnot k w => Sys2Proof.Machine.execBnot k w s
  | .bseta k w => Sys2Proof.Machine.execBseta k w s
  | .bclra k w => Sys2Proof.Machine.execBclra k w s
  | .bmovg k w => Sys2Proof.Machine.execBmovg k w s
  | .bmova k w => Sys2Proof.Machine.execBmova k w s
  | .wfe k w => Sys2Proof.Machine.execWfe k w s
  | .evsend k w => Sys2Proof.Machine.execEvsend k w s
  | .trap k w => Sys2Proof.Machine.execTrap k w s
  | .brk k w => Sys2Proof.Machine.execBrk k w s
  | .rete k w => Sys2Proof.Machine.execRete k w s
  | .haltThread k w => Sys2Proof.Machine.execHaltThread k w s
  | .scanend k w => Sys2Proof.Machine.execScanend k w s
  | .tset k w => Sys2Proof.Machine.execTset k w s
  | .trelease k w => Sys2Proof.Machine.execTrelease k w s
  | .chopen k w => Sys2Proof.Machine.execChopen k w s
  | .chput k w => Sys2Proof.Machine.execChput k w s
  | .chclose k w => Sys2Proof.Machine.execChclose k w s
  | .chget k w => Sys2Proof.Machine.execChget k w s
  | .vbind k w => Sys2Proof.Machine.execVbind k w s
  | .vfree k w => Sys2Proof.Machine.execVfree k w s
  | .apreq k w => Sys2Proof.Machine.execApreq k w s
  | .aprel k w => Sys2Proof.Machine.execAprel k w s
  | .vsetvl k w => Sys2Proof.Machine.execVsetvl k w s
  | .vectorIntegerOp k w => Sys2Proof.Machine.execVectorIntegerOp k w s
  | .vectorFixedPointOp k w => Sys2Proof.Machine.execVectorFixedPointOp k w s
  | .scalarFpOp k w => Sys2Proof.Machine.execScalarFpOp k w s
  | .vectorFpOp k w => Sys2Proof.Machine.execVectorFpOp k w s
  | .vectorLoad k w h => Sys2Proof.Machine.execVectorLoad k w h s
  | .vectorStore k w => Sys2Proof.Machine.execVectorStore k w s
  | .vectorGather k w h => Sys2Proof.Machine.execVectorGather k w h s
  | .vectorScatter k w => Sys2Proof.Machine.execVectorScatter k w s
  | .lvIdlePowerDown t c => Sys2Proof.Machine.execLvIdlePowerDown t c s
  | .lvuContextDownEnd t c => Sys2Proof.Machine.execLvuContextDownEnd t c s
  | .lvuRampEnd t c => Sys2Proof.Machine.execLvuRampEnd t c s
  | .lvuRestoreEnd t c => Sys2Proof.Machine.execLvuRestoreEnd t c s
  | .lvCtlWrite src t v => Sys2Proof.Machine.execLvCtlWrite src t v s
  | .scGctlRunStart src g dbgsafe => Sys2Proof.Machine.execScGctlRunStart src g dbgsafe s
  | .scanStartChecksEnd g => Sys2Proof.Machine.execScanStartChecksEnd g s
  | .scGctlRunStop src g dbgsafe => Sys2Proof.Machine.execScGctlRunStop src g dbgsafe s
  | .stopCopiesEnd g => Sys2Proof.Machine.execStopCopiesEnd g s
  | .scanFreeze g levels => Sys2Proof.Machine.execScanFreeze g levels s
  | .scanRelease g => Sys2Proof.Machine.execScanRelease g s
  | .scanCommit g => Sys2Proof.Machine.execScanCommit g s
  | .copyEngineCopyEnd cycles => Sys2Proof.Machine.execCopyEngineCopyEnd cycles s
  | .scImglayoutWrite src size v => Sys2Proof.Machine.execScImglayoutWrite src size v s
  | .scOwndataWrite src v => Sys2Proof.Machine.execScOwndataWrite src v s
  | .scOwnfillWrite src v => Sys2Proof.Machine.execScOwnfillWrite src v s
  | .scOwnfillEnd => Sys2Proof.Machine.execScOwnfillEnd s
  | .editArm src g => Sys2Proof.Machine.execEditArm src g s
  | .editCancel src g => Sys2Proof.Machine.execEditCancel src g s
  | .scEdittgtWrite src g k v => Sys2Proof.Machine.execScEdittgtWrite src g k v s
  | .editApplierEnd g => Sys2Proof.Machine.execEditApplierEnd g s
  | .smClrreqWrite src v => Sys2Proof.Machine.execSmClrreqWrite src v s
  | .smPdctlWrite src v => Sys2Proof.Machine.execSmPdctlWrite src v s
  | .collisionReplay addr data strb => Sys2Proof.Machine.execCollisionReplay addr data strb s
  | .eccWriteBack addr => Sys2Proof.Machine.execEccWriteBack addr s
  | .ringEnable src p r v => Sys2Proof.Machine.execRingEnable src p r v s
  | .ringDisable src p r => Sys2Proof.Machine.execRingDisable src p r s
  | .ringIdle p r => Sys2Proof.Machine.execRingIdle p r s
  | .cqEnable src p q v => Sys2Proof.Machine.execCqEnable src p q v s
  | .cqDisable src p q => Sys2Proof.Machine.execCqDisable src p q s
  | .doorbellPoll p => Sys2Proof.Machine.execDoorbellPoll p s
  | .summaryLineArrival p halfwords err => Sys2Proof.Machine.execSummaryLineArrival p halfwords err s
  | .doorbellLineArrival p h words err => Sys2Proof.Machine.execDoorbellLineArrival p h words err s
  | .legacyDoorbellWrite src p o v => Sys2Proof.Machine.execLegacyDoorbellWrite src p o v s
  | .descriptorArrival p r words err => Sys2Proof.Machine.execDescriptorArrival p r words err s
  | .imgInDescriptor p r data err => Sys2Proof.Machine.execImgInDescriptor p r data err s
  | .imgOutDescriptor p r reads => Sys2Proof.Machine.execImgOutDescriptor p r reads s
  | .streamTxDescriptor p r data err => Sys2Proof.Machine.execStreamTxDescriptor p r data err s
  | .streamRxDescriptor p r err => Sys2Proof.Machine.execStreamRxDescriptor p r err s
  | .msgTxDescriptor p r data err => Sys2Proof.Machine.execMsgTxDescriptor p r data err s
  | .msgRxDescriptor p r err => Sys2Proof.Machine.execMsgRxDescriptor p r err s
  | .mgmtEditDescriptor p r data err => Sys2Proof.Machine.execMgmtEditDescriptor p r data err s
  | .mgmtMessageDescriptor p r data err => Sys2Proof.Machine.execMgmtMessageDescriptor p r data err s
  | .vectorUnmask src p v => Sys2Proof.Machine.execVectorUnmask src p v s
  | .engineTick t e pins => Sys2Proof.Machine.execEngineTick t e pins s
  | .engNop t e pins => Sys2Proof.Machine.execEngNop t e pins s
  | .engSho t e pins => Sys2Proof.Machine.execEngSho t e pins s
  | .engShi t e pins => Sys2Proof.Machine.execEngShi t e pins s
  | .engShx t e pins => Sys2Proof.Machine.execEngShx t e pins s
  | .engPull t e pins => Sys2Proof.Machine.execEngPull t e pins s
  | .engPush t e pins => Sys2Proof.Machine.execEngPush t e pins s
  | .engineStallEnd t e pins => Sys2Proof.Machine.execEngineStallEnd t e pins s
  | .engWait t e pins => Sys2Proof.Machine.execEngWait t e pins s
  | .engWaitc t e pins => Sys2Proof.Machine.execEngWaitc t e pins s
  | .engSetp t e pins => Sys2Proof.Machine.execEngSetp t e pins s
  | .engDir t e pins => Sys2Proof.Machine.execEngDir t e pins s
  | .engJmp t e pins => Sys2Proof.Machine.execEngJmp t e pins s
  | .engDjnz t e pins => Sys2Proof.Machine.execEngDjnz t e pins s
  | .engClk t e pins => Sys2Proof.Machine.execEngClk t e pins s
  | .engEvt t e pins => Sys2Proof.Machine.execEngEvt t e pins s
  | .streamMoverTurn t e => Sys2Proof.Machine.execStreamMoverTurn t e s
  | .engineEnable src t e => Sys2Proof.Machine.execEngineEnable src t e s
  | .engineDisable src t e => Sys2Proof.Machine.execEngineDisable src t e s
  | .engineFlush src t e => Sys2Proof.Machine.execEngineFlush src t e s
  | .engineSwap src t e => Sys2Proof.Machine.execEngineSwap src t e s
  | .engineForce src t e => Sys2Proof.Machine.execEngineForce src t e s
  | .engineBankSwap t e pins => Sys2Proof.Machine.execEngineBankSwap t e pins s
  | .engineOvrclr src t e => Sys2Proof.Machine.execEngineOvrclr src t e s
  | .engineProgramWrite src t e k v => Sys2Proof.Machine.execEngineProgramWrite src t e k v s
  | .engineConfigWrite src t e k v => Sys2Proof.Machine.execEngineConfigWrite src t e k v s
  | .engineGroupRequest src t v => Sys2Proof.Machine.execEngineGroupRequest src t v s
  | .engineGroupReady t g => Sys2Proof.Machine.execEngineGroupReady t g s
  | .gauzeSourceEdge p level => Sys2Proof.Machine.execGauzeSourceEdge p level s
  | .stormWindowEnd => Sys2Proof.Machine.execStormWindowEnd s
  | .taskInputTake k => Sys2Proof.Machine.execTaskInputTake k s
  | .gzConfigWrite src off v => Sys2Proof.Machine.execGzConfigWrite src off v s
  | .gzPinselWrite src k v => Sys2Proof.Machine.execGzPinselWrite src k v s
  | .tlGzfire src t v => Sys2Proof.Machine.execTlGzfire src t v s
  | .timebaseModeChange lf => Sys2Proof.Machine.execTimebaseModeChange lf s
  | .tbAdjWrite src v => Sys2Proof.Machine.execTbAdjWrite src v s
  | .timebaseAdjustApply => Sys2Proof.Machine.execTimebaseAdjustApply s
  | .aoComparatorFire n => Sys2Proof.Machine.execAoComparatorFire n s
  | .timerTick n cycles => Sys2Proof.Machine.execTimerTick n cycles s
  | .timerLfclkStep n => Sys2Proof.Machine.execTimerLfclkStep n s
  | .timerLinkEvent n => Sys2Proof.Machine.execTimerLinkEvent n s
  | .timerEnable src n v => Sys2Proof.Machine.execTimerEnable src n v s
  | .timerStartStop n => Sys2Proof.Machine.execTimerStartStop n s
  | .tmGstart src k v => Sys2Proof.Machine.execTmGstart src k v s
  | .tmGstop src k v => Sys2Proof.Machine.execTmGstop src k v s
  | .timerShadowWrite src n isMatch v => Sys2Proof.Machine.execTimerShadowWrite src n isMatch v s
  | .timerShadowTransfer n => Sys2Proof.Machine.execTimerShadowTransfer n s
  | .timerCapture n rising => Sys2Proof.Machine.execTimerCapture n rising s
  | .tmCaprisePop p sec n => Sys2Proof.Machine.execTmCaprisePop p sec n s
  | .tmCapfallPop p sec n => Sys2Proof.Machine.execTmCapfallPop p sec n s
  | .tmCounterWrite src n hi v => Sys2Proof.Machine.execTmCounterWrite src n hi v s
  | .convStartPulseEnd k => Sys2Proof.Machine.execConvStartPulseEnd k s
  | .cnDomctlWrite src v => Sys2Proof.Machine.execCnDomctlWrite src v s
  | .canInitLeave src c v => Sys2Proof.Machine.execCanInitLeave src c v s
  | .canBusJoin c => Sys2Proof.Machine.execCanBusJoin c s
  | .canBitTimingWrite src c data v => Sys2Proof.Machine.execCanBitTimingWrite src c data v s
  | .canMap src c v => Sys2Proof.Machine.execCanMap src c v s
  | .canUnmap src c v => Sys2Proof.Machine.execCanUnmap src c v s
  | .canFrameReceived c f sof => Sys2Proof.Machine.execCanFrameReceived c f sof s
  | .cnTxreq src c v => Sys2Proof.Machine.execCnTxreq src c v s
  | .cnTxabort src c v => Sys2Proof.Machine.execCnTxabort src c v s
  | .canTransmitAttempt c => Sys2Proof.Machine.execCanTransmitAttempt c s
  | .canFrameTransmitted c => Sys2Proof.Machine.execCanFrameTransmitted c s
  | .canErrorStateChange c tec rec lec => Sys2Proof.Machine.execCanErrorStateChange c tec rec lec s
  | .canBusOffRecovery c => Sys2Proof.Machine.execCanBusOffRecovery c s
  | .canObjectWrite src addr data strb => Sys2Proof.Machine.execCanObjectWrite src addr data strb s
  | .canReferenceDue c => Sys2Proof.Machine.execCanReferenceDue c s
  | .fdLinkEnable src n v => Sys2Proof.Machine.execFdLinkEnable src n v s
  | .fdLinkDisable src n v => Sys2Proof.Machine.execFdLinkDisable src n v s
  | .fdCtlDomenWrite src v => Sys2Proof.Machine.execFdCtlDomenWrite src v s
  | .phyrdyChange n up => Sys2Proof.Machine.execPhyrdyChange n up s
  | .trainCell n c => Sys2Proof.Machine.execTrainCell n c s
  | .trainingTimeout n => Sys2Proof.Machine.execTrainingTimeout n s
  | .linkRetrain n => Sys2Proof.Machine.execLinkRetrain n s
  | .idleCell n c => Sys2Proof.Machine.execIdleCell n c s
  | .sequencedCellReceived n c => Sys2Proof.Machine.execSequencedCellReceived n c s
  | .resendTimeout n => Sys2Proof.Machine.execResendTimeout n s
  | .elasticBufferSlip n => Sys2Proof.Machine.execElasticBufferSlip n s
  | .linkctlBondsync n => Sys2Proof.Machine.execLinkctlBondsync n s
  | .fdCtlEnum src v => Sys2Proof.Machine.execFdCtlEnum src v s
  | .enumOffer n c => Sys2Proof.Machine.execEnumOffer n c s
  | .enumDone n c => Sys2Proof.Machine.execEnumDone n c s
  | .enumRej n c => Sys2Proof.Machine.execEnumRej n c s
  | .enumMaster n c => Sys2Proof.Machine.execEnumMaster n c s
  | .timeExchangeDue n => Sys2Proof.Machine.execTimeExchangeDue n s
  | .timeDreq n c phase launch => Sys2Proof.Machine.execTimeDreq n c phase launch s
  | .timeDresp n c phase => Sys2Proof.Machine.execTimeDresp n c phase s
  | .timeSync n c phase => Sys2Proof.Machine.execTimeSync n c phase s
  | .fedJoin src v => Sys2Proof.Machine.execFedJoin src v s
  | .fedLeave src v => Sys2Proof.Machine.execFedLeave src v s
  | .fedHoldover => Sys2Proof.Machine.execFedHoldover s
  | .pubReceived n c => Sys2Proof.Machine.execPubReceived n c s
  | .mgmtMessageReceived n c => Sys2Proof.Machine.execMgmtMessageReceived n c s
  | .miEnable src v => Sys2Proof.Machine.execMiEnable src v s
  | .miDisable src v => Sys2Proof.Machine.execMiDisable src v s
  | .mirrorHello n c => Sys2Proof.Machine.execMirrorHello n c s
  | .mirrorFrzReceived n c => Sys2Proof.Machine.execMirrorFrzReceived n c s
  | .mirrorCmt g => Sys2Proof.Machine.execMirrorCmt g s
  | .mirrorHeartbeatMiss g => Sys2Proof.Machine.execMirrorHeartbeatMiss g s
  | .miResync src v => Sys2Proof.Machine.execMiResync src v s
  | .mirrorRsreq n c => Sys2Proof.Machine.execMirrorRsreq n c s
  | .mirrorBulk n c => Sys2Proof.Machine.execMirrorBulk n c s
  | .faultOccurrence n => Sys2Proof.Machine.execFaultOccurrence n s
  | .faultWindowExpiry n => Sys2Proof.Machine.execFaultWindowExpiry n s
  | .fcAck src k v => Sys2Proof.Machine.execFcAck src k v s
  | .fcStatClear src k v => Sys2Proof.Machine.execFcStatClear src k v s
  | .fcScfgForce src n => Sys2Proof.Machine.execFcScfgForce src n s
  | .fcRctlRelease src => Sys2Proof.Machine.execFcRctlRelease src s
  | .tlFcackAck src t n => Sys2Proof.Machine.execTlFcackAck src t n s
  | .tlFcackClr src t n => Sys2Proof.Machine.execTlFcackClr src t n s
  | .aliveToggle => Sys2Proof.Machine.execAliveToggle s
  | .apertureGrant => Sys2Proof.Machine.execApertureGrant s
  | .apertureRelease src off v => Sys2Proof.Machine.execApertureRelease src off v s
  | .apRsvRequest src g grains => Sys2Proof.Machine.execApRsvRequest src g grains s
  | .apRsvRelease src g => Sys2Proof.Machine.execApRsvRelease src g s
  | .apPctlDoze src => Sys2Proof.Machine.execApPctlDoze src s
  | .apPctlSleep src => Sys2Proof.Machine.execApPctlSleep src s
  | .apPctlOff src => Sys2Proof.Machine.execApPctlOff src s
  | .apPctlWake src => Sys2Proof.Machine.execApPctlWake src s
  | .dozeWake wsrc => Sys2Proof.Machine.execDozeWake wsrc s
  | .sleepWake wsrc => Sys2Proof.Machine.execSleepWake wsrc s
  | .apTileenWrite src v => Sys2Proof.Machine.execApTileenWrite src v s
  | .upCmdSend src => Sys2Proof.Machine.execUpCmdSend src s
  | .updateStageEnd data err => Sys2Proof.Machine.execUpdateStageEnd data err s
  | .upCmdActivate src => Sys2Proof.Machine.execUpCmdActivate src s
  | .activationInstant => Sys2Proof.Machine.execActivationInstant s
  | .loaderPlacementEnd => Sys2Proof.Machine.execLoaderPlacementEnd s
  | .upCmdConfirm src => Sys2Proof.Machine.execUpCmdConfirm src s
  | .upCmdFallback src v => Sys2Proof.Machine.execUpCmdFallback src v s
  | .confirmWindowExpiry => Sys2Proof.Machine.execConfirmWindowExpiry s
  | .fallbackRestoreEnd data err => Sys2Proof.Machine.execFallbackRestoreEnd data err s
  | .upCmdDiscard src => Sys2Proof.Machine.execUpCmdDiscard src s
  | .dbThalt src t v => Sys2Proof.Machine.execDbThalt src t v s
  | .dbTres src t v => Sys2Proof.Machine.execDbTres src t v s
  | .dbTstep src t v => Sys2Proof.Machine.execDbTstep src t v s
  | .dbTileHalt src t => Sys2Proof.Machine.execDbTileHalt src t s
  | .dbTileResume src t => Sys2Proof.Machine.execDbTileResume src t s
  | .dbBlkHalt src => Sys2Proof.Machine.execDbBlkHalt src s
  | .blockHaltComplete => Sys2Proof.Machine.execBlockHaltComplete s
  | .dbBlkResume src => Sys2Proof.Machine.execDbBlkResume src s
  | .dbChabort src v => Sys2Proof.Machine.execDbChabort src v s
  | .debugStateAccess src off write v => Sys2Proof.Machine.execDebugStateAccess src off write v s
  | .dbgaccUpdate => Sys2Proof.Machine.execDbgaccUpdate s
  | .faultInFall j => Sys2Proof.Machine.execFaultInFall j s
  | .failedTrainingRestart n => Sys2Proof.Machine.execFailedTrainingRestart n s
  | .bankRetentionReturn m => Sys2Proof.Machine.execBankRetentionReturn m s
  | .digestEngineEnd g => Sys2Proof.Machine.execDigestEngineEnd g s
  | .tapTckEdge tms tdi => Sys2Proof.Machine.execTapTckEdge tms tdi s

end Sys2Proof.Machine
end

