-- ==== Sys2Proof/Safety.lean ====
section
/-! DEFINITION. The words in which statements are made: a state in order, what a command changes and leaves, and when an
instruction of a thread issues and nothing comes before its own effect. -/

namespace Sys2Proof.Machine

/-! ### States in order -/

/-- A build that R3 allows: 1, 2, 4 or 8 tiles, and 0, 8 or 16 CAN controllers. -/
def Build.legal (b : Build) : Bool := decide (b.tilesLog2 ≤ 3) && (b.can == 0 || b.can == 8 || b.can == 16)

/-- A state in order: memory in its canonical form, and a legal build. -/
def State.inOrder (s : State) : Bool := Memory.wf s.mem && s.build.legal

/-! ### What a command changes -/

/-- From `s` to `t` the registers of the list hold the values beside them, and every other register is unchanged; where a
register stands twice, its first place counts. -/
def State.regsBecome (s t : State) (ch : List (Reg × Word)) : Prop := ∀ q, t.rd q = mget ch (s.rd q) q

/-- Everything but registers, tile bookkeeping and thread bookkeeping is as in `s`: memory, channels, contexts and every
engine and controller. -/
def State.sameBeyondThreads (s t : State) : Prop := { t with regs := s.regs, tiles := s.tiles, threads := s.threads } = s

/-- Everything but registers is as in `s`. -/
def State.sameBeyondRegs (s t : State) : Prop := { t with regs := s.regs } = s

/-- Everything but registers and the latest responses is as in `s`. -/
def State.sameBeyondResp (s t : State) : Prop := { t with regs := s.regs, resp := s.resp } = s

/-- Every register is as in `s`, but for those of which `p` holds. -/
def State.regsKept (s t : State) (p : Reg → Bool) : Prop := ∀ q, p q = false → t.rd q = s.rd q

/-- The registers in which a group records what it has lost of the guarantee (R226). -/
def guaranteeReg : Reg → Bool
  | .SC_DETLOST _ | .SC_DETSCAN _ => true
  | _ => false

/-- The PC, LCOUNT and LCTL of a thread. -/
def pcReg (t n : Nat) (q : Reg) : Bool := q == .TH_PC t n || q == .LCOUNT t n || q == .LCTL t n

/-- The bytes from `a` on hold `bs`, and every other byte of memory is unchanged. -/
def State.memBecomes (s t : State) (a : Nat) (bs : List Byte) : Prop :=
  ∀ b, memGet t.mem b = if a ≤ b ∧ b < a + bs.length then bs.getD (b - a) 0 else memGet s.mem b

/-! ### Thread instructions -/

/-- No breakpoint of the tile stops the instruction at the thread's PC (R473). -/
def State.unbroken (s : State) (t n : Nat) : Bool := (s.thread t n).skipBp || (s.breakpoint t n (s.rd (.TH_PC t n))).isNone

/-- The instruction `w` of row `r` issues for its thread, is fetched, and runs: no breakpoint, a context where it needs
one, its encoding defined (R75, R83, R106, R115, R128, R473). The state is that after the fetch. -/
def State.begins (s : State) (i : Issue) (w : Word) (r : Row) : Option State :=
  if s.hasThread i.tile i.thread && (s.mayPair i w || s.mayIssue i) then
    match s.fetch i.tile i.thread w with
    | (s', .run) =>
      if s'.unbroken i.tile i.thread && !(needsCtx w && (s'.boundCtx i.tile i.thread).isNone) && rowOf w == some r
      then some s' else none
    | _ => none
  else none

/-- No debug step or halt waits for the end of the thread's instruction (R469, R470). -/
def State.quiet (s : State) (t n : Nat) : Bool := !(s.thread t n).stepping && !(s.thread t n).haltReq

/-- A write of general register `Gd`: none for G0 (R105). -/
def gset (t n d : Nat) (v : Word) : List (Reg × Word) := if d % 32 = 0 then [] else [(.G t n (d % 32), v)]

/-- The PC is the last instruction of the thread's active hardware loop (R126). -/
def State.atLoopEnd (s : State) (t n : Nat) : Bool :=
  s.flag (.LCTL t n) 31 && s.field (.LCTL t n) 0 2 == s.depth t n && s.rd (.LEND t n) == s.rd (.TH_PC t n)

/-- What a completed instruction does to the PC and the loop registers (R126): the next address, or at a loop end LCOUNT
counts down, and the PC goes back to LSTART or the loop ends. -/
def State.loopRegs (s : State) (t n : Nat) : List (Reg × Word) :=
  if s.atLoopEnd t n then
    if s.rd (.LCOUNT t n) = 1 then
      [(.TH_PC t n, s.rd (.TH_PC t n) + 4), (.LCOUNT t n, 0), (.LCTL t n, s.rd (.LCTL t n) &&& 0x7FFFFFFF)]
    else [(.TH_PC t n, s.rd (.LSTART t n)), (.LCOUNT t n, s.rd (.LCOUNT t n) - 1)]
  else [(.TH_PC t n, s.rd (.TH_PC t n) + 4)]

/-- From `s`, the state after its fetch, to `t` an instruction has completed: the registers of the list hold the values
beside them, the PC and the loop registers follow R126, every other register and all beyond threads are unchanged, and the
thread is occupied for `occ` cycles from its issue. -/
def State.completed (s t : State) (i : Issue) (ch : List (Reg × Word)) (occ : Nat) : Prop :=
  s.regsBecome t (ch ++ s.loopRegs i.tile i.thread) ∧ s.sameBeyondThreads t
    ∧ (t.thread i.tile i.thread).readyAt = i.cycle + occ

/-- The same for an instruction that sets the PC. -/
def State.jumped (s t : State) (i : Issue) (ch : List (Reg × Word)) (pc : Word) (occ : Nat) : Prop :=
  s.regsBecome t (ch ++ [(.TH_PC i.tile i.thread, pc)]) ∧ s.sameBeyondThreads t
    ∧ (t.thread i.tile i.thread).readyAt = i.cycle + occ

/-- The PC after a completed instruction (R126). -/
def State.nextPc (s : State) (t n : Nat) : Word := mget (s.loopRegs t n) 0 (.TH_PC t n)

/-- The exception entry of R94 with cause `x` and saved PC `pc`: DEPTH rises by one, the PC is saved in TH_EPC[DEPTH],
XCAUSE takes the cause, IE clears, and the PC is the exception vector. -/
def State.entered (s t : State) (i : Issue) (x : Nat) (pc : Word) : Prop :=
  let T := i.tile
  let n := i.thread
  t.depth T n = s.depth T n + 1 ∧ t.rd (.TH_EPC T n (s.depth T n)) = pc ∧ t.field (.TH_STAT T n) 16 8 = x
    ∧ t.flag (.TH_CTL T n) 4 = false ∧ t.rd (.TH_PC T n) = (s.rd (.TH_VBASE T n) &&& 0xFFFFFC00) + 0x200
    ∧ (∀ k, t.g T n k = s.g T n k) ∧ s.sameBeyondThreads t

/-! ### The LVU -/

/-- From `s`, the state after its fetch, to `t` an instruction of the LVU has completed: general register `gd.1`, if named, takes
`gd.2` (G0 none), context `c` of the tile becomes `x` and no other context changes, the PC and the loop registers follow
R126; memory, channels and every other register but a record of the guarantee are unchanged. -/
def State.lvuDone (s t : State) (i : Issue) (gd : Option (Nat × Word)) (c : Nat) (x : Ctx) : Prop :=
  let T := i.tile
  let n := i.thread
  let hit := fun (k : Nat) => match gd with | some (r, _) => decide (k % 32 = r ∧ r ≠ 0) | none => false
  (∀ k, t.g T n k = if hit k then (gd.getD (0, 0)).2 else s.g T n k)
    ∧ t.ctx T c = x ∧ (∀ a b, (a, b) ≠ (T, c) → t.ctx a b = s.ctx a b) ∧ t.rd (.TH_PC T n) = s.nextPc T n
    ∧ s.regsKept t (fun q => pcReg T n q || guaranteeReg q || match q, gd with | .G a b k, some (r, _) => a == T && b == n && k == r | _, _ => false)
    ∧ t.mem = s.mem ∧ t.chans = s.chans

/-! ### Register writes -/

/-- The write of `v` to register `r` by the sender reaches it and passes steps 1 to 8 of R259; a thread is ACTIVE and may use
its address (R102, R103, R113). -/
def State.admits (s : State) (src : Src) (r : Reg) (v : Word) : Bool :=
  match regOffset r with
  | none => false
  | some o =>
    s.srcOk src o && decide (decodeSetup ⟨3, true, 16⟩ (match r with | .MB p _ => p | _ => 0) o = .reg r) && s.portsServe
      && s.decodeFor src o == .reg r && s.writeCheck src o v == .ok
      && match src with
        | .thread t n viaTile => s.thState t n == 1 && (n == 0 || (!viaTile && s.flag (.TH_WPERM t n) 14))
        | _ => true

/-- The sender has the answer OKAY without data (R257, R258); a thread's store has no response. -/
def State.okayed (t : State) (src : Src) : Prop :=
  match src with
  | .port p _ => mget t.resp ⟨.decerr, none⟩ p = ⟨.okay, none⟩
  | .tap => mget t.resp ⟨.decerr, none⟩ 2 = ⟨.okay, none⟩
  | .thread .. => True

/-- A port or DBGACC has the answer REFUSED with a cause as its data (R259, R260). -/
def State.refusedFor (t : State) (src : Src) (c : Cause) : Prop :=
  match src with
  | .port p _ => mget t.resp ⟨.decerr, none⟩ p = ⟨.refused, some (BitVec.ofNat 64 c.code)⟩
  | .tap => mget t.resp ⟨.decerr, none⟩ 2 = ⟨.refused, some (BitVec.ofNat 64 c.code)⟩
  | .thread .. => True

/-- A sender's access was turned away with a cause: a port or DBGACC has the answer REFUSED (R259, R260); a thread takes the
core fault PROT with detail 5 and the cause as REFCAUSE, which stops every thread of its tile (R95, R113). -/
def State.turnedAway (s t : State) (src : Src) (c : Cause) : Prop :=
  match src with
  | .thread a n _ =>
    (∀ m < 16, t.thState a m = 5) ∧ t.flag (.TL_STAT a) 1 = true
      ∧ (s.flag (.TL_FREC a 0) 31 = false →
          t.rd (.TL_FREC a 0) = BitVec.ofNat 32 (2 ^ 31 + c.code * 2 ^ 20 + n * 2 ^ 16 + 2 * 2 ^ 8 + 5)
            ∧ t.rd (.TL_FREC a 1) = s.rd (.TH_PC a n))
  | _ => t.refusedFor src c

/-- A register write was accepted: the sender is answered OKAY, and no register has changed but those of `p` and a group's
record of the guarantee, which a member's own write leaves there (R226). -/
def State.accepted (s t : State) (src : Src) (p : Reg → Bool) : Prop :=
  t.okayed src ∧ s.regsKept t (fun q => guaranteeReg q || p q)

/-- MAIN and TILE[0] have their power, and their handshakes have reached the release of their resets (R39, R483). -/
def State.mainUp (s : State) : Prop := ∀ d ∈ [1, 8], (s.pd d).phase = .on ∨ (s.pd d).phase = .due

/-! ### What follows an event through Gauze and the fault collector -/

/-- The registers that the firing of a Gauze channel, a storm, and the fault notices that follow may change: channel enables
and flags, task overflows, override latches of engines, the record of GZ_STORM, the first fault and the notices, and pending
events (R100, R333 to R346, R420 to R437). -/
def noticeReg : Reg → Bool
  | .GZ_CH _ | .GZ_CHFLAG _ | .GZ_CHSTORM _ | .GZ_TOVF _ | .FE_STAT _ _ => true
  | .FC_FIRST | .FC_FIRSTT _ | .FC_NSTAT | .FC_HVEC _ 3 | .TH_EVPEND _ _ => true
  | .FC_SSTAT n => n == 124
  | _ => false

/-- Everything but registers, Gauze, channels, the manager sides, the fault windows and the fault pin is as in `s`. -/
def State.sameBeyondNotice (s t : State) : Prop :=
  { t with regs := s.regs, resp := s.resp, gz := s.gz, chans := s.chans, ports := s.ports, windows := s.windows, pausedWin := s.pausedWin,
           faultSeq := s.faultSeq, faultOut := s.faultOut, faultHeld := s.faultHeld } = s

end Sys2Proof.Machine
end

