-- ==== Sys2Proof/Certificates/Slice0/Obligations.lean ====
section
/-! DEFINITION. The statements about the block, and the tables of the spec that they are stated with. -/

open Sys2Proof Sys2Proof.Machine

/-! ### Tables of the integer instructions -/

namespace Sys2Proof.Spec

/-- An integer clamped to a range. -/
def clamp (lo hi r : Int) : Int := max lo (min hi r)

/-- The table of R119 with the pseudocode of R120: `v` is the value that funct `f` gives Gd from `a` = Gs1 and `b` = Gs2. -/
def aluRule (f : Nat) (a b v : Word) : Prop :=
  (f = 0x00 → v = a + b) ∧ (f = 0x01 → v = a - b) ∧ (f = 0x02 → v = a &&& b) ∧ (f = 0x03 → v = a ||| b)
  ∧ (f = 0x04 → v = a ^^^ b)
  ∧ (f = 0x05 → v.toNat = a.toNat * 2 ^ (b.toNat % 32) % 2 ^ 32)
  ∧ (f = 0x06 → v.toNat = a.toNat / 2 ^ (b.toNat % 32))
  ∧ (f = 0x07 → v.toInt = a.toInt / 2 ^ (b.toNat % 32))
  ∧ (f = 0x08 → v = if a = b then 1 else 0) ∧ (f = 0x09 → v = if a = b then 0 else 1)
  ∧ (f = 0x0A → v = if a.toInt < b.toInt then 1 else 0) ∧ (f = 0x0B → v = if a.toNat < b.toNat then 1 else 0)
  ∧ (f = 0x0C → v.toInt = min a.toInt b.toInt) ∧ (f = 0x0D → v.toInt = max a.toInt b.toInt)
  ∧ (f = 0x0E → v.toNat = min a.toNat b.toNat) ∧ (f = 0x0F → v.toNat = max a.toNat b.toNat)
  ∧ (f = 0x10 → v.toInt = clamp (-0x80000000) 0x7FFFFFFF (a.toInt + b.toInt))
  ∧ (f = 0x11 → v.toInt = clamp (-0x80000000) 0x7FFFFFFF (a.toInt - b.toInt))
  ∧ (f = 0x12 → (v.toNat : Int) = clamp 0 0xFFFFFFFF ((a.toNat : Int) + b.toNat))
  ∧ (f = 0x13 → (v.toNat : Int) = clamp 0 0xFFFFFFFF ((a.toNat : Int) - b.toNat))
  ∧ (f = 0x20 → v.toNat = a.toNat * b.toNat % 2 ^ 32)
  ∧ (f = 0x21 → v.toInt = a.toInt * b.toInt / 2 ^ 32)
  ∧ (f = 0x22 → v.toNat = a.toNat * b.toNat / 2 ^ 32)
  ∧ (f = 0x24 → v = if b = 0 then 0xFFFFFFFF else BitVec.ofInt 32 (a.toInt.tdiv b.toInt))
  ∧ (f = 0x25 → v = if b = 0 then 0xFFFFFFFF else BitVec.ofNat 32 (a.toNat / b.toNat))
  ∧ (f = 0x26 → v = if b = 0 then a else BitVec.ofInt 32 (a.toInt.tmod b.toInt))
  ∧ (f = 0x27 → v = if b = 0 then a else BitVec.ofNat 32 (a.toNat % b.toNat))

/-- The exact result of a saturating instruction lies outside its range (R120). -/
def saturates (f : Nat) (a b : Word) : Bool :=
  (f == 0x10 && decide (a.toInt + b.toInt < -0x80000000 ∨ 0x7FFFFFFF < a.toInt + b.toInt))
  || (f == 0x11 && decide (a.toInt - b.toInt < -0x80000000 ∨ 0x7FFFFFFF < a.toInt - b.toInt))
  || (f == 0x12 && decide (0xFFFFFFFF < a.toNat + b.toNat)) || (f == 0x13 && decide (a.toNat < b.toNat))

/-- A division or remainder by 0 (R120). -/
def dividesByZero (f : Nat) (b : Word) : Bool := decide (0x24 ≤ f) && b == 0

/-- The table of R122: `v` is the value that funct `f` gives Gd from `a` = Gs1 and the 12 bits `imm`. -/
def immRule (f : Nat) (a : Word) (imm : BitVec 12) (v : Word) : Prop :=
  (f = 0 → v = a + imm.signExtend 32) ∧ (f = 1 → v = a &&& imm.setWidth 32) ∧ (f = 2 → v = a ||| imm.setWidth 32)
  ∧ (f = 3 → v = a ^^^ imm.setWidth 32)
  ∧ (f = 4 → v = if a.toInt < (imm.signExtend 32).toInt then 1 else 0)
  ∧ (f = 5 → v = if a.toNat < (imm.signExtend 32).toNat then 1 else 0)
  ∧ (f = 6 → v.toNat = a.toNat * 2 ^ (imm.toNat % 32) % 2 ^ 32) ∧ (f = 7 → v.toNat = a.toNat / 2 ^ (imm.toNat % 32))
  ∧ (f = 8 → v.toInt = a.toInt / 2 ^ (imm.toNat % 32))

/-- The condition of a branch by its opcode (R125). -/
def takesBranch (o : Nat) (a b : Word) : Prop :=
  (o = 0x0B ∧ a = b) ∨ (o = 0x0C ∧ a ≠ b) ∨ (o = 0x0D ∧ a.toInt < b.toInt) ∨ (o = 0x0E ∧ b.toInt ≤ a.toInt)
  ∨ (o = 0x0F ∧ a.toNat < b.toNat) ∨ (o = 0x10 ∧ b.toNat ≤ a.toNat)

end Sys2Proof.Spec

/-! ### Steps and reset -/

/-- A step takes the command at the front of the queue and runs it with the queue's rest. No table word spells a command, so
the host's word changes nothing. -/
def Obligations.StepRunsFrontCommand : Prop :=
  (∀ (c : Instr) (q : List Instr) (s : State), step { s with pending := c :: q } = exec c { s with pending := q })
  ∧ (∀ nbits w, decodeTableWord nbits w = none) ∧ ∀ (s : State) nbits w, s.withFetchWord nbits w = s

/-- What the spec gives right after the cold start, which State.reset is (R87, R105, R482): BOOT with no write of BLK_BOOTDONE
yet, the protection lock open; the ports, Aperture and MAIN ready; thread 0 of tile 0 ACTIVE at the start of the boot ROM
and every other thread HELD; every general register 0; no command waiting. -/
def Obligations.ResetState : Prop :=
  State.reset.blk = 1 ∧ State.reset.rd .BLK_BOOTDONE = 0 ∧ State.reset.lockOpen = true
  ∧ State.reset.thState 0 0 = 1 ∧ State.reset.rd (.TH_PC 0 0) = 0x0F800000
  ∧ (∀ t n, ¬ (t = 0 ∧ n = 0) → State.reset.thState t n = 0)
  ∧ (∀ t n k, State.reset.g t n k = 0) ∧ (∀ t n, State.reset.rd (.BITST t n) = 0 ∧ State.reset.rd (.ISTAT t n) = 0)
  ∧ State.reset.pending = []

/-- State.reset is in order. -/
def Obligations.ResetInOrder : Prop := State.reset.inOrder = true

/-- Every step keeps a state in order: memory in its canonical form, and the build as it is. -/
def Obligations.EveryStepKeepsOrder : Prop :=
  ∀ s t : State, s.inOrder = true → step s = .next t → t.inOrder = true ∧ t.build = s.build

/-- With nothing commanded one clock edge passes: the timebase advances by 8 per TMRCLK edge, by 1600 per LFCLK edge while
TMRCLK is stopped, modulo 2^64, and where it counted from LFCLK the first common edge rounds it up to a multiple of 40;
TB_STAT.LFMODE shows which clock it counts from; under PORST_N the timebase stands (R349). With no message and no free space
of a channel under way between tiles nothing else changes; what is under way changes channels and EVIN bits only (R98, R100).
That a step on an empty queue is such an edge is the model's choice (log entry 2). -/
def Obligations.IdleStepAdvancesTimebase : Prop :=
  ∀ s : State, s.pending = [] → ∃ t, step s = .next t
    ∧ t.now = (if s.clk.porst then s.now else if s.tmrStopped then (s.now + 1600) % 2 ^ 64
        else if s.flag .TB_STAT 0 then (s.now + 39) / 40 * 40 % 2 ^ 64 else (s.now + 8) % 2 ^ 64)
    ∧ t.rd .TB_STAT = (if s.clk.porst then s.rd .TB_STAT else setBit (s.rd .TB_STAT) 0 s.tmrStopped)
    ∧ s.regsKept t (fun q => match q with | .TB_LO | .TB_HI | .TB_STAT | .TH_EVPEND _ _ => true | _ => false)
    ∧ { t with regs := s.regs, chans := s.chans, chanSpaces := s.chanSpaces } = s
    ∧ (s.chans = [] → s.chanSpaces = [] → s.sameBeyondRegs t ∧ s.regsKept t (fun q => q == .TB_LO || q == .TB_HI || q == .TB_STAT))

/-! ### Integer, bitfield and constant instructions -/

/-- INTEGER_REGISTER_OP completes with the value of R119 in Gd, SAT and DZ of ISTAT set as R120 says and never cleared, and
occupies the thread for 4 cycles, a division or remainder for 12 (R71); INTEGER_IMMEDIATE_OP completes with the value of
R122 in Gd. G0 discards the value. Nothing else changes but the PC and the loop registers. -/
def Obligations.IntegerResult : Prop :=
  ∀ (s s' : State) (i : Issue) (w : Word), s'.quiet i.tile i.thread = true →
    let T := i.tile
    let n := i.thread
    (s.begins i w .intReg = some s' →
      ∃ t v, exec (.integerRegisterOp i w) s = .next t ∧ Spec.aluRule (fR w) (s'.g T n (fS1 w)) (s'.g T n (fS2 w)) v
        ∧ s'.completed t i (gset T n (fD w) v ++
            [(.ISTAT T n, s'.rd (.ISTAT T n)
              ||| (if Spec.saturates (fR w) (s'.g T n (fS1 w)) (s'.g T n (fS2 w)) then 1 else 0)
              ||| (if Spec.dividesByZero (fR w) (s'.g T n (fS2 w)) then 2 else 0))])
            (if 0x24 ≤ fR w then 12 else 4))
    ∧ (s.begins i w .intImm = some s' →
      ∃ t v, exec (.integerImmediateOp i w) s = .next t
        ∧ Spec.immRule (fI w) (s'.g T n (fS1 w)) (BitVec.ofNat 12 (imm12 w)) v
        ∧ s'.completed t i (gset T n (fD w) v) 4)

/-- EXT, EXTS, INS, LUI and AUIPC complete, bit by bit as R123 and R124 say: EXT and EXTS take WM1 + 1 bits of Gs1 from POS on,
zero- or sign-extended; INS puts the low WM1 + 1 bits of Gs1 at POS of Gd; LUI gives imm20 in bits 31:12, AUIPC that plus
its own address. -/
def Obligations.BitfieldAndConstantResult : Prop :=
  ∀ (s s' : State) (i : Issue) (w : Word), s'.quiet i.tile i.thread = true →
    (s.begins i w .ext = some s' → ∃ t v, exec (.extract i w) s = .next t ∧ s'.completed t i (gset i.tile i.thread (fD w) v) 4
      ∧ ∀ j < 32, bit v j = (decide (j ≤ fld w 6 5) && bit (s'.g i.tile i.thread (fS1 w)) (fS2 w + j)))
    ∧ (s.begins i w .exts = some s' → ∃ t v, exec (.extractS i w) s = .next t ∧ s'.completed t i (gset i.tile i.thread (fD w) v) 4
      ∧ ∀ j < 32, bit v j = bit (s'.g i.tile i.thread (fS1 w)) (fS2 w + min j (fld w 6 5)))
    ∧ (s.begins i w .ins = some s' → ∃ t v, exec (.insertField i w) s = .next t ∧ s'.completed t i (gset i.tile i.thread (fD w) v) 4
      ∧ ∀ j < 32, bit v j = if fS2 w ≤ j ∧ j ≤ fS2 w + fld w 6 5 then bit (s'.g i.tile i.thread (fS1 w)) (j - fS2 w)
          else bit (s'.g i.tile i.thread (fD w)) j)
    ∧ (s.begins i w .lui = some s' → ∃ t v, exec (.lui i w) s = .next t ∧ s'.completed t i (gset i.tile i.thread (fD w) v) 4
      ∧ v.toNat = fld w 0 20 * 2 ^ 12)
    ∧ (s.begins i w .auipc = some s' → ∃ t v, exec (.auipc i w) s = .next t ∧ s'.completed t i (gset i.tile i.thread (fD w) v) 4
      ∧ v = s'.rd (.TH_PC i.tile i.thread) + BitVec.ofNat 32 (fld w 0 20 * 2 ^ 12))

/-! ### Control instructions -/

/-- JAL and JALR go to their target with the return address in Gd, JALR's target formed before Gd is written with bits 1:0
cleared; a branch goes to its target where its condition holds, and else completes (R111, R118, R125). Nothing else
changes. A taken branch or jump occupies 4 cycles where the branch target buffer predicted it, else 8 (R71).
LOOP with a count of 0 in Gs1 skips the n instructions of its body, but at the end of an active loop it counts that loop down
and goes back to its start while iterations remain; with another count it sets LCOUNT to the count, LSTART to the next
instruction, LEND to the last of the n, ACTIVE with the present DEPTH, and goes on (R126).
Choices of the model that it rests on: log entries 58 and 68. -/
def Obligations.JumpsBranchesAndLoops : Prop :=
  (
    ∀ (s s' : State) (i : Issue) (w : Word), s'.quiet i.tile i.thread = true →
      let pc := s'.rd (.TH_PC i.tile i.thread)
      let g := s'.g i.tile i.thread
      (s.begins i w .jal = some s' → ∃ t occ, exec (.jal i w) s = .next t ∧ (occ = 4 ∨ occ = 8)
        ∧ s'.jumped t i (gset i.tile i.thread (fD w) (pc + 4)) (pc + 4 * (BitVec.ofNat 21 (fld w 0 21)).signExtend 32) occ)
      ∧ (s.begins i w .jalr = some s' → ∃ t occ, exec (.jalr i w) s = .next t ∧ (occ = 4 ∨ occ = 8)
        ∧ s'.jumped t i (gset i.tile i.thread (fD w) (pc + 4))
            ((g (fS1 w) + (BitVec.ofNat 12 (imm12 w)).signExtend 32) &&& 0xFFFFFFFC) occ)
      ∧ (s.begins i w .branch = some s' → Spec.takesBranch (opcode w) (g (fD w)) (g (fS1 w)) →
        ∃ t occ, exec (.branch i w) s = .next t ∧ (occ = 4 ∨ occ = 8)
          ∧ s'.jumped t i [] (pc + 4 * (BitVec.ofNat 16 (fld w 0 16)).signExtend 32) occ)
      ∧ (s.begins i w .branch = some s' → ¬ Spec.takesBranch (opcode w) (g (fD w)) (g (fS1 w)) →
        ∃ t, exec (.branch i w) s = .next t ∧ s'.completed t i [] 4))
  ∧ (
    ∀ (s s' : State) (i : Issue) (w : Word), s.begins i w .loop = some s' → s'.quiet i.tile i.thread = true →
      let T := i.tile
      let n := i.thread
      let pc := s'.rd (.TH_PC T n)
      let body := BitVec.ofNat 32 (4 * fld w 0 16)
      ∃ t, exec (.hwLoop i w) s = .next t
        ∧ (s'.g T n (fD w) = 0 → s'.atLoopEnd T n = false → s'.jumped t i [] (pc + body + 4) 4)
        ∧ (s'.g T n (fD w) = 0 → s'.atLoopEnd T n = true → s'.rd (.LCOUNT T n) = 1 →
            s'.jumped t i [(.LCOUNT T n, 0), (.LCTL T n, s'.rd (.LCTL T n) &&& 0x7FFFFFFF)] (pc + body + 4) 4)
        ∧ (s'.g T n (fD w) = 0 → s'.atLoopEnd T n = true → s'.rd (.LCOUNT T n) ≠ 1 →
            s'.jumped t i [(.LCOUNT T n, s'.rd (.LCOUNT T n) - 1)] (s'.rd (.LSTART T n)) 4)
        ∧ (s'.g T n (fD w) ≠ 0 → s'.jumped t i [(.LCOUNT T n, s'.g T n (fD w)), (.LSTART T n, pc + 4), (.LEND T n, pc + body),
            (.LCTL T n, BitVec.ofNat 32 (2 ^ 31 + s'.depth T n))] (pc + 4) 4))

/-! ### Loads, stores and atomics -/

namespace Sys2Proof.Spec

/-- Bytes as a number, the first the least significant (R127). -/
def num (bs : List Byte) : Nat := ofLeBytes bs

/-- The registers that a load of size code `c` writes (R127): LD.B and LD.H sign-extended, LD.W, LD.D into a pair, LD.BU and
LD.HU zero-extended. -/
def loadRegs (t n d c : Nat) (bs : List Byte) : List (Reg × Word) :=
  if c = 0 then gset t n d ((BitVec.ofNat 8 (num bs)).signExtend 32)
  else if c = 1 then gset t n d ((BitVec.ofNat 16 (num bs)).signExtend 32)
  else if c = 3 then gset t n d (BitVec.ofNat 32 (num bs)) ++ gset t n (d + 1) (BitVec.ofNat 32 (num bs / 2 ^ 32))
  else gset t n d (BitVec.ofNat 32 (num bs))

/-- Bytes of an access by its size code (R127). -/
def bytesOf (c : Nat) : Nat := if c = 0 ∨ c = 4 then 1 else if c = 1 ∨ c = 5 then 2 else if c = 2 then 4 else 8

/-- The word that an atomic writes from the old word, if it writes (R129): `op` is Gs2, `cmp` is Gd. -/
def atomicWord (r : Row) (op cmp old : Word) : Option Word :=
  match r with
  | .amoadd => some (old + op)
  | .amoswap => some op
  | .cas => if old = cmp then some op else none
  | _ => none

/-- The atomic of a row as a command: AMOADD, AMOSWAP or CAS. -/
def atomicCmd (r : Row) (i : Issue) (w : Word) : Instr :=
  match r with
  | .amoadd => .amoadd i w
  | .amoswap => .amoswap i w
  | _ => .cas i w

end Sys2Proof.Spec

/-- LOAD completes, for every size, region and alignment: where every check of R128 on each part passes, no watchpoint hits
and the parts return bytes, the bytes go to the registers as R127 says and nothing else changes after the access. A split
access is one instruction (R131, R132).
An aligned LOAD from the scratchpad gives the bytes that memory holds, for every size, and changes nothing but its
registers, the PC and the loop registers; it takes 6 cycles (R71, R109, R127).
Choices of the model that it rests on: log entries 58 and 94. -/
def Obligations.Loads : Prop :=
  (
    ∀ (s s' s₂ : State) (i : Issue) (w : Word) (h : HostData) (bs : List Byte) (occ f : Nat), s.begins i w .load = some s' →
      let T := i.tile
      let n := i.thread
      let sz := Spec.bytesOf (fI w)
      let ps := splitParts (s'.mAddr T n w) sz
      (s'.noteHost T n ps).accessStop T n .load sz ps = none → (s'.noteHost T n ps).watchParts T n .load ps = none →
      (s'.noteHost T n ps).loadParts T n i.wait (decide (1 < ps.length)) h.err h.err2 ps h.bytes = (s₂, .bytes bs occ, f) →
      s₂.quiet T n = true → s₂.rd (.TH_PC T n) = s'.rd (.TH_PC T n) →
      ∃ t, exec (.load i w h) s = .next t ∧ s₂.completed t i (Spec.loadRegs T n (fD w) (fI w) bs) occ)
  ∧ (
    ∀ (s s' : State) (i : Issue) (w : Word) (h : HostData), s.begins i w .load = some s' → s'.quiet i.tile i.thread = true →
      let T := i.tile
      let sz := Spec.bytesOf (fI w)
      let a := s'.mAddr T i.thread w
      a % sz = 0 → a < 0x80000 → T < 8 → s'.memIsReady (spBase T + a) = true → s'.watch T i.thread .load a sz = none → s'.ecc = [] →
      ∃ t, exec (.load i w h) s = .next t
        ∧ s'.completed t i (Spec.loadRegs T i.thread (fD w) (fI w) (memBytes s'.mem (spBase T + a) sz)) 6)

/-- STORE completes, for every size, region and alignment, where every check passes: the parts are written in ascending
order and nothing else changes; a FIXED thread's host-window store makes the thread wait for its response instead, and a
store of TL_HWROUTE whose value waits for the store buffer makes it wait for that (R114, R127, R128, R132, R134).
An aligned STORE to the scratchpad writes its bytes at the address that Gbase and off12 give, and no other byte of
memory; ST.D stores the pair, its lower word first. No register changes but the PC and the loop registers, a group's record
of the guarantee, and the state of an edit whose shadow bank the store enters (R127, R226, R230).
Choices of the model that it rests on: log entries 58 and 95. -/
def Obligations.Stores : Prop :=
  (
    ∀ (s s' s₂ : State) (i : Issue) (w : Word), s.begins i w .store = some s' →
      let T := i.tile
      let n := i.thread
      let sz := Spec.bytesOf (fI w)
      let ps := splitParts (s'.mAddr T n w) sz
      let v := (s'.g T n (fD w)).toNat + (if fI w = 3 then (s'.g T n (fD w + 1)).toNat * 2 ^ 32 else 0)
      let s₁ := s'.noteHost T n ps
      s₁.accessStop T n .store sz ps = none → s₁.watchParts T n .store ps = none → s₁.storeWaits T n ps = false →
      ps.all (fun p => !((rgnOf p.1 == .scratch || rgnOf p.1 == .shared) && s₁.eccStops (memAddr T p.1) p.2)) = true →
      s₁.storeParts T n (s'.rd (.TH_PC T n)) ps (leBytes sz v) = (s₂, none) →
      s₂.clk.running = true → s₂.clk.held = false → s₂.quiet T n = true → s₂.rd (.TH_PC T n) = s'.rd (.TH_PC T n) →
      ∃ t, exec (.store i w) s = .next t
        ∧ ((s₁.thClass T n ≠ 1 ∨ s₁.hostParts T n ps = []) → s₂.routeWaits T n (s'.mAddr T n w) = false →
            ∃ occ, s₂.completed t i [] occ)
        ∧ ((s₁.thClass T n ≠ 1 ∨ s₁.hostParts T n ps = []) → s₂.routeWaits T n (s'.mAddr T n w) = true →
            (t.thread T n).wait = .hwRoute ∧ s₂.sameBeyondThreads t ∧ ∀ q, t.rd q = s₂.rd q)
        ∧ (s₁.thClass T n = 1 → s₁.hostParts T n ps ≠ [] →
            (t.thread T n).wait = .hostStore (s₁.hostParts T n ps) ∧ s₂.sameBeyondThreads t ∧ ∀ q, t.rd q = s₂.rd q))
  ∧ (
    ∀ (s s' : State) (i : Issue) (w : Word), s.begins i w .store = some s' → s'.quiet i.tile i.thread = true →
      let T := i.tile
      let n := i.thread
      let sz := Spec.bytesOf (fI w)
      let a := s'.mAddr T n w
      let v := (s'.g T n (fD w)).toNat + (if fI w = 3 then (s'.g T n (fD w + 1)).toNat * 2 ^ 32 else 0)
      a % sz = 0 → a < 0x80000 → T < 8 → s'.memIsReady (spBase T + a) = true → s'.watch T n .store a sz = none →
      s'.ecc = [] → s'.writeBacks = [] → s'.inOrder = true → s'.clk.running = true → s'.clk.held = false →
      ∃ t, exec (.store i w) s = .next t ∧ s'.memBecomes t (spBase T + a) (leBytes sz v)
        ∧ t.rd (.TH_PC T n) = s'.nextPc T n ∧ (t.thread T n).readyAt = i.cycle + 6
        ∧ s'.regsKept t (fun q => pcReg T n q || guaranteeReg q || match q with | .SC_EDITSTAT _ => true | _ => false))

/-- AMOADD, AMOSWAP and CAS on an aligned scratchpad word put the old word in Gd and write the word that R129 gives, in one
step; CAS writes only where the old word equals Gd. No other byte of memory changes. -/
def Obligations.AtomicReadModifyWrite : Prop :=
  ∀ (r : Row) (s s' : State) (i : Issue) (w : Word), (r = .amoadd ∨ r = .amoswap ∨ r = .cas) →
    s.begins i w r = some s' → s'.quiet i.tile i.thread = true →
    let T := i.tile
    let n := i.thread
    let a := (s'.g T n (fS1 w)).toNat
    let old := BitVec.ofNat 32 (Spec.num (memBytes s'.mem (spBase T + a) 4))
    a % 4 = 0 → a < 0x80000 → T < 8 → s'.memIsReady (spBase T + a) = true → s'.watch T n .amo a 4 = none →
    s'.ecc = [] → s'.writeBacks = [] → s'.inOrder = true →
    ∃ t, exec (Spec.atomicCmd r i w) s = .next t
      ∧ (∀ k, t.g T n k = if k % 32 = fD w ∧ fD w ≠ 0 then old else s'.g T n k)
      ∧ s'.memBecomes t (spBase T + a) (leBytes 4 ((Spec.atomicWord r (s'.g T n (fS2 w)) (s'.g T n (fD w)) old).getD old).toNat)
      ∧ t.rd (.TH_PC T n) = s'.nextPc T n
      ∧ s'.regsKept t (fun q => pcReg T n q || q == .G T n (fD w) || guaranteeReg q || match q with | .SC_EDITSTAT _ => true | _ => false)

/-- A LOAD, STORE or atomic that the map of R109 does not allow stops the tile with a PROT fault of detail 0x01 (R95, R110, R128):
a load or store outside every region, a store to the boot ROM, an atomic in a host window, the tile page, the setup window,
the boot ROM or outside every region. An unaligned atomic stops it with UNALIGNED_AMO wherever it points. Every thread of
the tile is STOPPED, and TL_FREC, where it holds no record yet, takes the thread, the cause, the PC and the address. -/
def Obligations.ForbiddenAccessStopsTile : Prop :=
  ∀ (s s' : State) (i : Issue) (w : Word), i.tile < 8 → i.thread < 16 → s'.flag (.TL_FREC i.tile 0) 31 = false →
    let T := i.tile
    let n := i.thread
    let stopped := fun (t : State) (cause detail : Nat) (a : Word) =>
      (∀ m < 16, t.thState T m = 5) ∧ t.flag (.TL_STAT T) 1 = true
      ∧ t.rd (.TL_FREC T 0) = BitVec.ofNat 32 (2 ^ 31 + n * 2 ^ 16 + cause * 2 ^ 8 + detail)
      ∧ t.rd (.TL_FREC T 1) = s'.rd (.TH_PC T n) ∧ t.rd (.TL_FREC T 2) = a ∧ (s'.allIdle = true → t.mem = s'.mem)
    (∀ h, s.begins i w .load = some s' → s'.mAddr T n w % Spec.bytesOf (fI w) = 0 → rgnOf (s'.mAddr T n w) = .unmapped →
      ∃ t, exec (.load i w h) s = .next t ∧ stopped t 2 1 (BitVec.ofNat 32 (s'.mAddr T n w)))
    ∧ (s.begins i w .store = some s' → s'.mAddr T n w % Spec.bytesOf (fI w) = 0 →
      (rgnOf (s'.mAddr T n w) = .unmapped ∨ rgnOf (s'.mAddr T n w) = .rom) →
      ∃ t, exec (.store i w) s = .next t ∧ stopped t 2 1 (BitVec.ofNat 32 (s'.mAddr T n w)))
    ∧ (∀ r, (r = .amoadd ∨ r = .amoswap ∨ r = .cas) → s.begins i w r = some s' →
      ((s'.g T n (fS1 w)).toNat % 4 ≠ 0 → ∃ t, exec (Spec.atomicCmd r i w) s = .next t ∧ stopped t 6 0 (s'.g T n (fS1 w)))
      ∧ ((s'.g T n (fS1 w)).toNat % 4 = 0 → s'.groupsOf T n = [] →
          (rgnOf (s'.g T n (fS1 w)).toNat ≠ .scratch ∧ rgnOf (s'.g T n (fS1 w)).toNat ≠ .shared) →
          ∃ t, exec (Spec.atomicCmd r i w) s = .next t ∧ stopped t 2 1 (s'.g T n (fS1 w))))

/-- FENCE waits until every store-buffer entry of its thread has drained and then completes; IFLUSH waits likewise, and then
empties the instruction cache (imm12 0 or 2), the data cache (1 or 2) and the branch target buffer, or with a register
only what belongs to its line; neither changes a register but the PC and the loop registers (R138, R139). -/
def Obligations.FenceAndFlush : Prop :=
  ∀ (s s' : State) (i : Issue) (w : Word), s'.quiet i.tile i.thread = true →
    let T := i.tile
    let n := i.thread
    (s.begins i w .fence = some s' → (s'.tile T).sb.any (fun e => e.thread == n) = false →
      ∃ t, exec (.fence i w) s = .next t ∧ s'.completed t i [] 4)
    ∧ (s.begins i w .iflush = some s' → (s'.tile T).sb.any (fun e => e.thread == n) = false →
      ∃ t, exec (.iflush i w) s = .next t ∧ s'.completed t i [] (if fS1 w = 0 then 20 else 4)
        ∧ (fS1 w = 0 → (t.tile T).icache = (if imm12 w = 1 then (s'.tile T).icache else [])
            ∧ (t.tile T).dcache = (if imm12 w = 0 then (s'.tile T).dcache else []) ∧ (t.tile T).btb = [])
        ∧ (fS1 w ≠ 0 → (t.tile T).icache.length ≤ (s'.tile T).icache.length ∧ (t.tile T).dcache.length ≤ (s'.tile T).dcache.length
            ∧ (imm12 w = 0 → (t.tile T).dcache = (s'.tile T).dcache) ∧ (imm12 w = 1 → (t.tile T).icache = (s'.tile T).icache)))
    ∧ ((s'.tile T).sb.any (fun e => e.thread == n) = true →
        (s.begins i w .fence = some s' → exec (.fence i w) s = .next s) ∧ (s.begins i w .iflush = some s' → exec (.iflush i w) s = .next s))

/-! ### CSRs and bit instructions -/

namespace Sys2Proof.Spec

/-- What CSRRD gives for the numbers of R107 below 0x700. -/
def csrWord (s : State) (t n num : Nat) : Option Word :=
  mget [(0x000, some (setFld (s.rd (.TH_STAT t n)) 9 1 (s.reserved t n).isSome.toNat)), (0x001, some (s.rd (.TH_CTL t n))),
    (0x002, some (s.rd (.TH_EPC t n 0))), (0x003, some (s.rd (.TH_EPC t n 1))), (0x004, some (s.rd (.TH_VBASE t n))),
    (0x005, some (s.rd (.ISTAT t n))), (0x006, some (BitVec.ofNat 32 (16 * t + n))), (0x010, some (s.rd (.TH_EVPEND t n))),
    (0x011, some (s.rd (.TH_EVIE t n))), (0x012, some (s.rd (.TH_EVWE t n))), (0x013, some (s.rd (.TH_EVSEL t n))),
    (0x020, some (s.rd (.TH_WPERM t n))), (0x021, some (s.rd (.TH_HWINHI t n))), (0x022, some (s.rd (.TH_HWIN t n 0))),
    (0x023, some (s.rd (.TH_HWIN t n 1))), (0x024, some (s.rd (.TH_HWIN t n 2))), (0x025, some (s.rd (.TH_HWIN t n 3))),
    (0x030, some (s.rd (.LCOUNT t n))), (0x031, some (s.rd (.LSTART t n))), (0x032, some (s.rd (.LEND t n))),
    (0x033, some (s.rd (.LCTL t n))), (0x040, some (s.rd (.BITST t n))), (0x050, some (s.rd .TB_LO)), (0x051, some (s.rd .TB_HI)),
    (0x060, some (BitVec.ofNat 32 ((s.tile t).sb.length % 16 + (if (s.tile t).sb.any (fun e => e.thread == n) then 256 else 0))))]
    none num

/-- What CSRWR of `v` writes for the numbers of R107 below 0x700: RW fields take the value, W1C fields clear where it is 1, RO
fields and instruction-address bits 1:0 keep (R111). -/
def csrRegs (s : State) (t n num : Nat) (v : Word) : List (Reg × Word) :=
  mget [(0x000, [(Reg.TH_STAT t n, s.rd (.TH_STAT t n) &&& ~~~ (v &&& 0x100))]),
    (0x001, [(.TH_CTL t n, (s.rd (.TH_CTL t n) &&& 0xFFFFE0EF) ||| (v &&& 0x1F10))]),
    (0x002, [(.TH_EPC t n 0, v &&& 0xFFFFFFFC)]), (0x003, [(.TH_EPC t n 1, v &&& 0xFFFFFFFC)]),
    (0x004, [(.TH_VBASE t n, v &&& 0xFFFFFC00)]), (0x005, [(.ISTAT t n, s.rd (.ISTAT t n) &&& ~~~ v)]),
    (0x010, [(.TH_EVPEND t n, s.rd (.TH_EVPEND t n) &&& ~~~ v)]), (0x011, [(.TH_EVIE t n, v)]), (0x012, [(.TH_EVWE t n, v)]),
    (0x013, [(.TH_EVSEL t n, v)]), (0x021, [(.TH_HWINHI t n, v &&& 0xFFFFF)]), (0x022, [(.TH_HWIN t n 0, v &&& 0xFFFFFC03)]),
    (0x023, [(.TH_HWIN t n 1, v &&& 0xFFFFFC03)]), (0x024, [(.TH_HWIN t n 2, v &&& 0xFFFFFC03)]),
    (0x025, [(.TH_HWIN t n 3, v &&& 0xFFFFFC03)]), (0x030, [(.LCOUNT t n, v)]), (0x031, [(.LSTART t n, v &&& 0xFFFFFFFC)]),
    (0x032, [(.LEND t n, v &&& 0xFFFFFFFC)]), (0x033, [(.LCTL t n, v &&& 0x80000003)]),
    (0x040, [(.BITST t n, (v &&& 0x0300FF01) ||| BitVec.ofNat 32 (min 8 (fld v 16 4) * 65536))])] [] num

/-- The bit instruction of an operation as a command: BLD, BLDN, BAND, BANDN, BOR, BORN, BXOR, BST, BSET, BRST, BTOG, BRISE
or BFALL. -/
def bitCmd (k : BitOp) (i : Issue) (w : Word) : Instr :=
  match k with
  | .bld => .bld i w | .bldn => .bldn i w | .band => .band i w | .bandn => .bandn i w | .bor => .bor i w | .born => .born i w
  | .bxor => .bxor i w | .bst => .bst i w | .bset => .bset i w | .brst => .brst i w | .btog => .btog i w
  | .brise => .brise i w | .bfall => .bfall i w

/-- ACC after a bit instruction, from ACC and the bit (R147). -/
def accAfter (k : BitOp) (acc x : Bool) : Bool :=
  match k with
  | .bld => x | .bldn => !x | .band => acc && x | .bandn => acc && !x | .bor => acc || x | .born => acc || !x
  | .bxor => acc != x | .brise => acc && !x | .bfall => !acc && x
  | .bst | .bset | .brst | .btog => acc

/-- The bit after a bit instruction, from ACC and the bit (R147). -/
def bitAfter (k : BitOp) (acc x : Bool) : Bool :=
  match k with
  | .bst | .brise | .bfall => acc
  | .bset => if acc then true else x
  | .brst => if acc then false else x
  | .btog => if acc then !x else x
  | .bld | .bldn | .band | .bandn | .bor | .born | .bxor => x

/-- BST, BSET, BRST, BTOG, BRISE and BFALL write their bit. -/
def writesBit (k : BitOp) : Bool :=
  match k with
  | .bst | .bset | .brst | .btog | .brise | .bfall => true
  | .bld | .bldn | .band | .bandn | .bor | .born | .bxor => false

/-- The fields of BITST (R141): ACC, the stack, its depth, OVF and UNF. -/
structure BitStack where
  acc : Bool
  stack : Nat
  depth : Nat
  ovf : Bool
  unf : Bool
deriving DecidableEq, Repr

/-- BITST read as its fields. -/
def bitStack (v : Word) : BitStack := ⟨bit v 0, fld v 8 8, fld v 16 4, bit v 24, bit v 25⟩

/-- A push of R142: at depth 8 the deepest entry is lost and OVF sets. -/
def BitStack.push (b : BitStack) (x : Bool) : BitStack :=
  { b with stack := (2 * b.stack + x.toNat) % 256, depth := min 8 (b.depth + 1), ovf := b.ovf || b.depth == 8 }

/-- The bit that a pop gives (R142): 0 from an empty stack. -/
def BitStack.top (b : BitStack) : Bool := if b.depth = 0 then false else b.stack % 2 == 1

/-- The stack after a pop (R142): from an empty stack only UNF sets. -/
def BitStack.drop (b : BitStack) : BitStack :=
  if b.depth = 0 then { b with unf := true } else { b with stack := b.stack / 2, depth := b.depth - 1 }

/-- What an ACC-only instruction does to BITST (R153): BPUSH, BPOP, BANDS, BORS, BNOT, BSETA, BCLRA. -/
def accRule (r : Row) (b : BitStack) : BitStack :=
  match r with
  | .bpush => b.push b.acc
  | .bpop => { b.drop with acc := b.top }
  | .bands => { b.drop with acc := b.acc && b.top }
  | .bors => { b.drop with acc := b.acc || b.top }
  | .bnot => { b with acc := !b.acc }
  | .bseta => { b with acc := true }
  | _ => { b with acc := false }

/-- The ACC-only instruction of a row as a command: BPUSH, BPOP, BANDS, BORS, BNOT, BSETA or BCLRA. -/
def accCmd (r : Row) (i : Issue) (w : Word) : Instr :=
  match r with
  | .bpush => .bpush i w | .bpop => .bpop i w | .bands => .bands i w | .bors => .bors i w | .bnot => .bnot i w
  | .bseta => .bseta i w | _ => .bclra i w

end Sys2Proof.Spec

/-- CSRRD of a number of R107 below 0x700 puts its value in Gd; a read of TB_LO or TB_HI by a member also records TIME (R226).
No other register changes but the PC and the loop registers. A number that the table does not hold is ILLEGAL: it stops
the tile (R106, R107).
CSRWR of a number of R107 below 0x700 writes its register under the access codes of its fields, after the loop-back of its
own completion (R108); a number whose fields are all RO changes nothing. No other register changes but the PC and the
loop registers. -/
def Obligations.CsrReadsAndWrites : Prop :=
  (
    ∀ (s s' : State) (i : Issue) (w : Word), s.begins i w .csrrd = some s' → i.tile < 8 → i.thread < 16 → imm12 w < 0x700 →
      let T := i.tile
      let n := i.thread
      (∀ v, Spec.csrWord s' T n (imm12 w) = some v → s'.quiet T n = true →
        ∃ t, exec (.csrrd i w) s = .next t ∧ (∀ k, t.g T n k = if k % 32 = fD w ∧ fD w ≠ 0 then v else s'.g T n k)
          ∧ t.rd (.TH_PC T n) = s'.nextPc T n ∧ s'.mem = t.mem
          ∧ s'.regsKept t (fun q => pcReg T n q || q == .G T n (fD w)
              || ((imm12 w == 0x050 || imm12 w == 0x051) && guaranteeReg q)))
      ∧ (Spec.csrWord s' T n (imm12 w) = none → s'.flag (.TL_FREC T 0) 31 = false →
        ∃ t, exec (.csrrd i w) s = .next t ∧ (∀ m < 16, t.thState T m = 5) ∧ t.field (.TL_FREC T 0) 8 8 = 1))
  ∧ (
    ∀ (s s' : State) (i : Issue) (w v : Word), s.begins i w .csrwr = some s' → s'.quiet i.tile i.thread = true →
      imm12 w < 0x700 → Spec.csrWord s' i.tile i.thread (imm12 w) = some v →
      ∃ t, exec (.csrwr i w) s = .next t
        ∧ s'.completed t i (Spec.csrRegs s' i.tile i.thread (imm12 w) (s'.g i.tile i.thread (fS1 w))) 4)

/-- BLD, BLDN, BAND, BANDN, BOR, BORN, BXOR, BST, BSET, BRST, BTOG, BRISE and BFALL, where the bit lies within its view, the view
may be written if the instruction writes, the thread owns the word if it writes in Q, and the memory is ready: ACC and the
bit become what R147 says; no other bit of memory changes, and no register but BITST, the PC, the loop registers and the
record of the guarantee.
A bit instruction beyond its view, or one that writes in space I, stops the tile with PROT, detail 0x01; one that writes a
word of Q that the thread does not own stops it with OWNER, whatever ACC holds: memory and BITST stay (R148). -/
def Obligations.BitInstructions : Prop :=
  (
    ∀ (k : BitOp) (s s' : State) (i : Issue) (w : Word), s.begins i w (.bitOp k) = some s' → s'.quiet i.tile i.thread = true →
      let T := i.tile
      let n := i.thread
      let v := [View.I, .Q, .M, .H].getD (fld w 24 2) .I
      let b := s'.bitNumber T n w
      let p := smBase + s'.resolve v (b / 8)
      let acc := bit (s'.rd (.BITST T n)) 0
      let x := bit (memGet s'.mem p) (b % 8)
      b < 8 * s'.viewSize v → (Spec.writesBit k = true → v ≠ .I) →
      (Spec.writesBit k = true → v = .Q → s'.ownsWord T n (b / 32) = true) → s'.memIsReady p = true →
      (∀ j < 4, s'.flag (.DB_WP T j 1) 31 = false) → s'.ecc = [] → s'.writeBacks = [] → s'.copies = [] → s'.inOrder = true →
      ∃ t, exec (Spec.bitCmd k i w) s = .next t
        ∧ t.rd (.BITST T n) = setBit (s'.rd (.BITST T n)) 0 (Spec.accAfter k acc x)
        ∧ s'.memBecomes t p [setBit (memGet s'.mem p) (b % 8) (Spec.bitAfter k acc x)]
        ∧ t.rd (.TH_PC T n) = s'.nextPc T n ∧ (t.thread T n).readyAt = i.cycle + 8
        ∧ s'.regsKept t (fun q => pcReg T n q || q == .BITST T n || guaranteeReg q))
  ∧ (
    ∀ (k : BitOp) (s s' : State) (i : Issue) (w : Word), s.begins i w (.bitOp k) = some s' → i.tile < 8 → i.thread < 16 →
      s'.flag (.TL_FREC i.tile 0) 31 = false → s'.allIdle = true →
      let T := i.tile
      let v := [View.I, .Q, .M, .H].getD (fld w 24 2) .I
      let b := s'.bitNumber T i.thread w
      let stopped := fun (t : State) (cause detail : Nat) =>
        (∀ m < 16, t.thState T m = 5) ∧ t.field (.TL_FREC T 0) 8 8 = cause ∧ t.field (.TL_FREC T 0) 0 8 = detail
        ∧ t.field (.TL_FREC T 0) 16 4 = i.thread ∧ t.mem = s'.mem ∧ t.rd (.BITST T i.thread) = s'.rd (.BITST T i.thread)
      ((8 * s'.viewSize v ≤ b ∨ (v = .I ∧ Spec.writesBit k = true)) → ∃ t, exec (Spec.bitCmd k i w) s = .next t ∧ stopped t 2 1)
      ∧ (b < 8 * s'.viewSize v → v = .Q → Spec.writesBit k = true → s'.ownsWord T i.thread (b / 32) = false →
          ∃ t, exec (Spec.bitCmd k i w) s = .next t ∧ stopped t 5 0))

/-- BPUSH, BPOP, BANDS, BORS, BNOT, BSETA and BCLRA do to ACC and the bit stack what R142 and R153 say, BMOVG copies ACC into bit 0
of Gd with zeros above, BMOVA copies bit 0 of Gs into ACC; each takes 4 cycles and changes no other register but the PC and
the loop registers. -/
def Obligations.AccumulatorInstructions : Prop :=
  ∀ (s s' : State) (i : Issue) (w : Word), s'.quiet i.tile i.thread = true →
    let T := i.tile
    let n := i.thread
    let q := s'.rd (.BITST T n)
    (∀ r, (r = .bpush ∨ r = .bpop ∨ r = .bands ∨ r = .bors ∨ r = .bnot ∨ r = .bseta ∨ r = .bclra) → s.begins i w r = some s' →
      fld q 16 4 ≤ 8 →
      ∃ t v, exec (Spec.accCmd r i w) s = .next t ∧ s'.completed t i [(.BITST T n, v)] 4
        ∧ Spec.bitStack v = Spec.accRule r (Spec.bitStack q))
    ∧ (s.begins i w .bmovg = some s' → ∃ t, exec (.bmovg i w) s = .next t
      ∧ s'.completed t i (gset T n (fld w 19 5) (if bit q 0 then 1 else 0)) 4)
    ∧ (s.begins i w .bmova = some s' → ∃ t, exec (.bmova i w) s = .next t
      ∧ s'.completed t i [(.BITST T n, setBit q 0 (bit (s'.g T n (fld w 19 5)) 0))] 4)

/-! ### System instructions, exceptions and interrupts -/

/-- WFE with an enabled event or interrupt input pending goes on: Gd takes EVPEND AND EVWE, and those bits clear (R92); with none
the thread waits in WFE, its PC at the WFE. -/
def Obligations.WaitForEvent : Prop :=
  ∀ (s s' : State) (i : Issue) (w : Word), s.begins i w .wfe = some s' → s'.quiet i.tile i.thread = true →
    let T := i.tile
    let n := i.thread
    let pend := s'.rd (.TH_EVPEND T n)
    let woken := pend &&& s'.rd (.TH_EVWE T n)
    (pend &&& (s'.rd (.TH_EVWE T n) ||| s'.rd (.TH_EVIE T n)) ≠ 0 →
      ∃ t, exec (.wfe i w) s = .next t ∧ (∀ k, t.g T n k = if k % 32 = fD w ∧ fD w ≠ 0 then woken else s'.g T n k)
        ∧ t.rd (.TH_EVPEND T n) = pend &&& ~~~ woken ∧ t.rd (.TH_PC T n) = s'.nextPc T n ∧ t.mem = s'.mem
        ∧ s'.regsKept t (fun q => pcReg T n q || q == .G T n (fD w) || q == .TH_EVPEND T n || guaranteeReg q))
    ∧ (pend &&& (s'.rd (.TH_EVWE T n) ||| s'.rd (.TH_EVIE T n)) = 0 →
      ∃ t, exec (.wfe i w) s = .next t ∧ t.thState T n = 2 ∧ (t.thread T n).wait = .wfe (fD w)
        ∧ s'.regsKept t (fun q => q == .TH_STAT T n) ∧ s'.sameBeyondThreads t)

/-- EVSEND names a tile, a thread and one of four inputs by Gs1 + imm12: for a tile of the build the event is under way and Gd
is 0, for an absent one Gd is 1 and nothing is sent (R93, R156). TRAP, and BREAK unless DB_CTL.BRKHALT is 1, enter their
exception (0x01 with the next PC saved and TRAPNUM, 0x02 with their own); with BRKHALT 1, BREAK halts the thread (R94,
R157, R474). RETE returns to TH_EPC[DEPTH - 1], and IE sets when DEPTH reaches 0 (R94, R158).
INTERRUPT_ENTRY, once the thread's last instruction has ended, takes the lowest input pending and enabled of a thread with IE 1
and DEPTH 0 at a boundary or in a WFE or channel wait: its bit clears, the PC is saved in TH_EPC[0], DEPTH becomes 1, IE clears, XCAUSE is 0x40 + input, and the PC
is VBASE + 16 times the input; general registers and BITST keep (R91, R143).
Choices of the model that it rests on: log entries 57 and 69. -/
def Obligations.EventSendExceptionsAndInterrupts : Prop :=
  (
    ∀ (s s' : State) (i : Issue) (w : Word), s'.quiet i.tile i.thread = true →
      let T := i.tile
      let n := i.thread
      let x := s'.g T n (fS1 w) + BitVec.ofNat 32 (imm12 w)
      (s.begins i w .evsend = some s' →
        ∃ t, exec (.evsend i w) s = .next t
          ∧ s'.completed t i (gset T n (fD w) (if s'.hasTile (fld x 8 3) then 0 else 1)) 4
          ∧ (s'.hasTile (fld x 8 3) = true → (t.tile (fld x 8 3)).evsends
              = (s'.tile (fld x 8 3)).evsends ++ [(T, n, fld x 8 3, fld x 4 4, fld x 0 2)]))
      ∧ (s.begins i w .trap = some s' → s'.depth T n < 2 →
        ∃ t, exec (.trap i w) s = .next t ∧ s'.entered t i 1 (s'.nextPc T n) ∧ t.field (.TH_STAT T n) 24 8 = fld w 0 8)
      ∧ (s.begins i w .brk = some s' → s'.flag .DB_CTL 0 = false → s'.depth T n < 2 →
        ∃ t, exec (.brk i w) s = .next t ∧ s'.entered t i 2 (s'.rd (.TH_PC T n)))
      ∧ (s.begins i w .brk = some s' → s'.flag .DB_CTL 0 = true →
        ∃ t, exec (.brk i w) s = .next t ∧ t.thState T n = 4 ∧ t.field (.DB_HSTAT T n) 29 3 = 3
          ∧ t.rd (.TH_PC T n) = s'.rd (.TH_PC T n) ∧ ∀ k, t.g T n k = s'.g T n k)
      ∧ (s.begins i w .rete = some s' → 1 ≤ s'.depth T n →
        ∃ t, exec (.rete i w) s = .next t ∧ s'.jumped t i
          ([(.TH_STAT T n, setFld (s'.rd (.TH_STAT T n)) 4 2 (s'.depth T n - 1))]
            ++ if s'.depth T n = 1 then [(.TH_CTL T n, setBit (s'.rd (.TH_CTL T n)) 4 true)] else [])
          (s'.rd (.TH_EPC T n (s'.depth T n - 1))) 8))
  ∧ (
    ∀ (s : State) (t n b cycle : Nat), s.hasThread t n = true → s.coresRun = true → s.quiet t n = true →
      (s.thread t n).readyAt ≤ cycle → s.flag (.TH_CTL t n) 4 = true → s.depth t n = 0 → s.interruptible t n = true → b < 32 →
      bit (s.rd (.TH_EVPEND t n) &&& s.rd (.TH_EVIE t n)) b = true →
      (∀ c < b, bit (s.rd (.TH_EVPEND t n) &&& s.rd (.TH_EVIE t n)) c = false) →
      ∃ u, exec (.interruptEntry ⟨t, cycle⟩ n) s = .next u ∧ u.thState t n = 1 ∧ (u.thread t n).wait = .none
        ∧ u.rd (.TH_EVPEND t n) = setBit (s.rd (.TH_EVPEND t n)) b false ∧ u.rd (.TH_EPC t n 0) = s.rd (.TH_PC t n)
        ∧ u.depth t n = 1 ∧ u.flag (.TH_CTL t n) 4 = false ∧ u.field (.TH_STAT t n) 16 8 = 0x40 + b
        ∧ u.rd (.TH_PC t n) = (s.rd (.TH_VBASE t n) &&& 0xFFFFFC00) + BitVec.ofNat 32 (16 * b)
        ∧ s.regsKept u (fun q => q == .TH_EVPEND t n || q == .TH_EPC t n 0 || q == .TH_STAT t n || q == .TH_CTL t n
            || q == .TH_PC t n || guaranteeReg q)
        ∧ u.mem = s.mem ∧ u.chans = s.chans)

/-- HALT leaves the thread HELD at the next address with its registers and BITST kept, its partial message discarded and
its reservation released (R126, R159). SCANEND of a thread that is no FIXED member of a running group, or has left each of its
groups, only goes on; a member's thread waits for the release at the next address, and its groups count it as done (R160,
R161, R204).
Choices of the model that it rests on: log entry 68. -/
def Obligations.HaltAndScanEnd : Prop :=
  ∀ (s s' : State) (i : Issue) (w : Word), s'.quiet i.tile i.thread = true →
    let T := i.tile
    let n := i.thread
    (s.begins i w .halt = some s' → s'.groupsOf T n = [] →
      ∃ t, exec (.haltThread i w) s = .next t ∧ t.thState T n = 0 ∧ t.rd (.TH_PC T n) = s'.nextPc T n
        ∧ (∀ c, s'.reserved T n = some c → (t.chan c).owner = none ∧ (t.chan c).part = [] ∧ (t.chan c).msgs = (s'.chan c).msgs)
        ∧ t.mem = s'.mem
        ∧ s'.regsKept t (fun q => q == .TH_STAT T n || pcReg T n q || match q with | .TH_EVPEND _ _ => true | _ => false))
    ∧ (s.begins i w .scanend = some s' → (s'.thClass T n ≠ 1 ∨ ∀ g ∈ s'.groupsOf T n, (T, n) ∈ (s'.group g).left) →
      ∃ t, exec (.scanend i w) s = .next t ∧ s'.completed t i [] 4)
    ∧ (∀ g, s.begins i w .scanend = some s' → s'.thClass T n = 1 → s'.groupsOf T n = [g] → s'.gState g ≠ 3 →
      (s'.group g).late ≠ .skip → (T, n) ∉ (s'.group g).left →
      ∃ t, exec (.scanend i w) s = .next t ∧ t.thState T n = 2 ∧ (t.thread T n).wait = .release
        ∧ t.rd (.TH_PC T n) = s'.nextPc T n ∧ (T, n) ∈ (t.group g).done ∧ t.mem = s'.mem
        ∧ s'.regsKept t (fun q => q == .TH_STAT T n || pcReg T n q))

/-- TSET and TRELEASE by thread 0 answer the status of R88 in Gd: the first code that fails, else 0. With 0, TSET writes the
item of R162 (a register, the PC with bits 1:0 clear, or the class), and TRELEASE makes the HELD target ACTIVE with DEPTH 0
and IE 0, eligible 5 cycles after the issue (R89). Another thread's TSET or TRELEASE stops the tile with PROT, detail 0x04.
Choices of the model that it rests on: log entries 69 and 78. -/
def Obligations.ThreadSetup : Prop :=
  ∀ (s s' : State) (i : Issue) (w : Word), s'.quiet i.tile i.thread = true →
    let T := i.tile
    let n := i.thread
    let m := fld w 0 4
    let item := fld w 4 8
    let cls := item - 0x21
    let named := fun (k : Nat) => (k, m) ∈ (s'.tile T).activeMap ∨ (∃ l, (s'.tile T).pendingMap = some l ∧ (k, m) ∈ l)
    let code := open Classical in
      if s'.thState T m ≠ 0 then 1 else if item ≤ 0x20 then 0
      else if (cls = 2 ∧ ∃ k < 16, k ≠ m ∧ s'.thClass T k = 2) ∨ (cls = 1 ∧ m = 0) then 4
      else if (cls ≠ 1 ∧ named 1) ∨ (cls ≠ 2 ∧ named 2) then 5 else 0
    let v := s'.g T n (fS1 w)
    (s.begins i w .tset = some s' → n = 0 →
      ∃ t, exec (.tset i w) s = .next t ∧ s'.completed t i (gset T 0 (fD w) (BitVec.ofNat 32 code)
        ++ if code ≠ 0 then [] else if item < 0x20 then gset T m item v
          else if item = 0x20 then [(.TH_PC T m, v &&& 0xFFFFFFFC)]
          else [(.TH_CTL T m, setFld (s'.rd (.TH_CTL T m)) 0 2 cls)]) 4)
    ∧ (s.begins i w .trelease = some s' → n = 0 → m ≠ 0 → s'.thState T m = 0 → s'.groupsOf T m = [] → s'.thClass T m = 0 →
      ∃ t, exec (.trelease i w) s = .next t ∧ t.thState T m = 1 ∧ t.depth T m = 0 ∧ t.flag (.TH_CTL T m) 4 = false
        ∧ (t.thread T m).readyAt = i.cycle + 5 ∧ t.rd (.TH_PC T m) = s'.rd (.TH_PC T m) ∧ (∀ k, t.g T m k = s'.g T m k)
        ∧ (∀ k, t.g T 0 k = if k % 32 = fD w ∧ fD w ≠ 0 then 0 else s'.g T 0 k) ∧ s'.sameBeyondThreads t)
    ∧ (s.begins i w .trelease = some s' → n = 0 →
        (s'.thState T m ≠ 0 → ∃ t, exec (.trelease i w) s = .next t ∧ s'.completed t i (gset T 0 (fD w) 1) 4)
        ∧ (s'.thState T m = 0 → s'.groupsOf T m = [] → s'.thClass T m = 1 → (1, m) ∉ (s'.tile T).activeMap →
            ∃ t, exec (.trelease i w) s = .next t ∧ s'.completed t i (gset T 0 (fD w) 2) 4)
        ∧ (s'.thState T m = 0 → s'.groupsOf T m = [] → s'.thClass T m = 2 → (2, m) ∉ (s'.tile T).activeMap →
            ∃ t, exec (.trelease i w) s = .next t ∧ s'.completed t i (gset T 0 (fD w) 3) 4))
    ∧ (n ≠ 0 → n < 16 → T < 8 → s'.flag (.TL_FREC T 0) 31 = false →
        ∀ c, (s.begins i w .tset = some s' ∧ c = .tset i w) ∨ (s.begins i w .trelease = some s' ∧ c = .trelease i w) →
        ∃ t, exec c s = .next t ∧ (∀ k < 16, t.thState T k = 5) ∧ t.field (.TL_FREC T 0) 8 8 = 2 ∧ t.field (.TL_FREC T 0) 0 8 = 4)

/-! ### Events and waits -/

/-- EVENT_INPUT and EVSEND_DELIVERY set their bit of EVPEND, whatever the thread's state, and no other register but a record of
the guarantee; the EVSENDs from a tile's own threads arrive in their order, and so do those from other tiles; WFE_WAKE ends a WFE that has an enabled event pending and no interrupt due: Gd takes EVPEND AND EVWE, those
bits clear, and the thread goes on at the next address (R90, R92, R93).
Choices of the model that it rests on: log entry 57. -/
def Obligations.EventsAndWake : Prop :=
  (∀ (s : State) (t n b : Nat), s.hasThread t n = true → b < 32 → s.clk.held = false →
    ∃ u, exec (.eventInput t n b) s = .next u ∧ s.regsBecome u [(.TH_EVPEND t n, setBit (s.rd (.TH_EVPEND t n)) b true)]
      ∧ s.sameBeyondRegs u)
  ∧ (∀ (s : State) (t a m n k : Nat) (own : Bool) (e l : List (Nat × Nat × Nat × Nat × Nat)), s.hasThread t n = true →
    s.coresRun = true → (s.tile t).evsends = e ++ (a, m, t, n, k) :: l → decide (a = t) = own → (∀ x ∈ e, decide (x.1 = t) ≠ own) → k < 4 →
    ∃ u, exec (.evsendDelivery ⟨t, own⟩) s = .next u ∧ u.rd (.TH_EVPEND t n) = setBit (s.rd (.TH_EVPEND t n)) (8 + k) true
      ∧ (u.tile t).evsends = e ++ l ∧ s.regsKept u (fun q => q == .TH_EVPEND t n || guaranteeReg q) ∧ u.mem = s.mem)
  ∧ (∀ (s : State) (t n gd cycle : Nat), s.hasThread t n = true → s.coresRun = true → s.quiet t n = true →
    (s.thread t n).wait = .wfe gd → gd < 32 → s.thState t n = 2 → s.intDue t n = none →
    s.rd (.TH_EVPEND t n) &&& (s.rd (.TH_EVWE t n) ||| s.rd (.TH_EVIE t n)) ≠ 0 →
    ∃ u, exec (.wfeWake ⟨t, cycle⟩ n) s = .next u ∧ u.thState t n = 1 ∧ (u.thread t n).wait = .none
      ∧ (u.thread t n).readyAt = max (s.thread t n).readyAt (cycle + 1) ∧ u.rd (.TH_PC t n) = s.nextPc t n
      ∧ (∀ k, u.g t n k = if k % 32 = gd ∧ gd ≠ 0 then s.rd (.TH_EVPEND t n) &&& s.rd (.TH_EVWE t n) else s.g t n k)
      ∧ u.rd (.TH_EVPEND t n) = s.rd (.TH_EVPEND t n) &&& ~~~ (s.rd (.TH_EVPEND t n) &&& s.rd (.TH_EVWE t n))
      ∧ u.mem = s.mem)

/-! ### Channels -/

/-- CHOPEN of a channel with no reservation, a free space and no earlier waiter reserves a space; CHPUT appends a word to the
partial message and CHCLOSE commits it whole, words not written reading 0, and ends the reservation: the committing tile sees
it at once and the others later; CHGET takes the oldest message that its tile sees into four registers. Nothing is lost:
messages are taken in the order of their commits (R97, R98, R164).
A CHOPEN or CHGET that cannot be served waits in CHWAIT with its PC at the instruction and takes nothing (R99, R165).
CHANNEL_WAIT_SERVED serves the waiting thread of the lowest tile and number: a CHGET that sees a message takes the oldest it
sees, else a CHOPEN the free space, and the thread goes on 4 cycles later (R71). CHWAIT_TIMEOUT of a thread with CHTMO nonzero
whose time has run out takes nothing and enters exception 0x05 with the PC of the waiting instruction saved (R94, R99).
Choices of the model that it rests on: log entry 76. -/
def Obligations.Channels : Prop :=
  (
    ∀ (s s' : State) (i : Issue) (w : Word), s'.quiet i.tile i.thread = true →
      let T := i.tile
      let n := i.thread
      let c := if bit w 6 then ChanId.block (fld w 0 6) else ChanId.tile T (fld w 0 6)
      (s.begins i w .chopen = some s' → s'.reserved T n = none → (s'.chan c).owner = none → (s'.chan c).msgs.length < 8 →
        s'.chanWaiters c false = [] →
        ∃ t, exec (.chopen i w) s = .next t ∧ t.chan c = ⟨some (T, n), [], (s'.chan c).msgs⟩
          ∧ (∀ d, d ≠ c → t.chan d = s'.chan d) ∧ t.rd (.TH_PC T n) = s'.nextPc T n ∧ t.mem = s'.mem
          ∧ s'.regsKept t (pcReg T n))
      ∧ (∀ d, s.begins i w .chput = some s' → s'.reserved T n = some d → (s'.chan d).part.length < 4 →
        ∃ t, exec (.chput i w) s = .next t ∧ t.chan d = { s'.chan d with part := (s'.chan d).part ++ [s'.g T n (fS1 w)] }
          ∧ (∀ e, e ≠ d → t.chan e = s'.chan e) ∧ t.rd (.TH_PC T n) = s'.nextPc T n ∧ s'.regsKept t (pcReg T n))
      ∧ (∀ d, s.begins i w .chclose = some s' → s'.reserved T n = some d → (s'.chan d).part.length ≤ 4 →
        ∃ t m, exec (.chclose i w) s = .next t ∧ (t.chan d).msgs = (s'.chan d).msgs ++ [m] ∧ (t.chan d).owner = none
          ∧ m.words = ((s'.chan d).part ++ [0, 0, 0, 0]).take 4 ∧ m.sender = some (T, n) ∧ (∀ a, m.seenBy a = decide (a = T)) ∧ (∀ e, e ≠ d → t.chan e = s'.chan e)
          ∧ t.rd (.TH_PC T n) = s'.nextPc T n
          ∧ s'.regsKept t (fun q => pcReg T n q || match q with | .TH_EVPEND _ _ => true | _ => false))
      ∧ (∀ e m l, s.begins i w .chget = some s' → (s'.chan c).msgs = e ++ m :: l → (∀ x ∈ e, x.seenBy T = false) → m.seenBy T = true →
        s'.getWaiters c = [] →
        ∃ t, exec (.chget i w) s = .next t ∧ (t.chan c).msgs = e ++ l ∧ (∀ e, e ≠ c → t.chan e = s'.chan e)
          ∧ (∀ k, t.g T n k = if k % 32 ≠ 0 ∧ fD w ≤ k % 32 ∧ k % 32 < fD w + 4 then m.words.getD (k % 32 - fD w) 0 else s'.g T n k)
          ∧ t.rd (.TH_PC T n) = s'.nextPc T n ∧ t.mem = s'.mem
          ∧ s'.regsKept t (fun q => pcReg T n q || guaranteeReg q
              || match q with | .TH_EVPEND _ _ => true | .G a b _ => a == T && b == n | _ => false)))
  ∧ (
    (∀ (s s' : State) (i : Issue) (w : Word), s'.quiet i.tile i.thread = true →
      let T := i.tile
      let n := i.thread
      let c := if bit w 6 then ChanId.block (fld w 0 6) else ChanId.tile T (fld w 0 6)
      (s.begins i w .chopen = some s' → s'.reserved T n = none → ((s'.chan c).owner ≠ none ∨ 8 ≤ (s'.chan c).msgs.length) →
        ∃ t, exec (.chopen i w) s = .next t ∧ t.thState T n = 3 ∧ (t.thread T n).wait = .chopen (bit w 6) (fld w 0 6)
          ∧ s'.regsKept t (fun q => q == .TH_STAT T n) ∧ s'.sameBeyondThreads t)
      ∧ (s.begins i w .chget = some s' → (s'.chan c).dataFor T = false →
        ∃ t, exec (.chget i w) s = .next t ∧ t.thState T n = 3 ∧ (t.thread T n).wait = .chget (bit w 6) (fld w 0 6) (fD w)
          ∧ s'.regsKept t (fun q => q == .TH_STAT T n) ∧ s'.sameBeyondThreads t))
    ∧ (∀ (s : State) (block : Bool) (t c gd a n cycle : Nat) (m : Msg) (e l : List Msg) (rest : List (Nat × Nat)),
      s.hasTile t = true → c < (if block then 64 else 32) → s.coresRun = true →
      s.getWaiters (chanOf block t c) = (a, n) :: rest → (s.thread a n).wait = .chget block c gd → gd + 4 ≤ 32 →
      (s.chan (chanOf block t c)).msgs = e ++ m :: l → (∀ x ∈ e, x.seenBy a = false) → m.seenBy a = true →
      s.thState a n = 3 → s.quiet a n = true →
      ∃ u, exec (.channelWaitServed block ⟨t, cycle⟩ c) s = .next u ∧ (u.chan (chanOf block t c)).msgs = e ++ l ∧ u.thState a n = 1
        ∧ (u.thread a n).readyAt = max (s.thread a n).readyAt (cycle + 4)
        ∧ (u.thread a n).wait = .none ∧ u.rd (.TH_PC a n) = s.nextPc a n
        ∧ ∀ k < 4, (gd + k) % 32 ≠ 0 → u.g a n (gd + k) = m.words.getD k 0)
    ∧ (∀ (s : State) (block : Bool) (t c a n cycle : Nat) (rest : List (Nat × Nat)),
      s.hasTile t = true → c < (if block then 64 else 32) → s.coresRun = true → s.getWaiters (chanOf block t c) = [] →
      s.chanWaiters (chanOf block t c) false = (a, n) :: rest → (s.chan (chanOf block t c)).owner = none →
      (s.chan (chanOf block t c)).msgs.length < 8 → s.thState a n = 3 → s.quiet a n = true →
      ∃ u, exec (.channelWaitServed block ⟨t, cycle⟩ c) s = .next u ∧ (u.chan (chanOf block t c)).owner = some (a, n)
        ∧ u.thState a n = 1 ∧ (u.thread a n).wait = .none ∧ u.rd (.TH_PC a n) = s.nextPc a n)
    ∧ (∀ (s : State) (t n cycle : Nat), s.hasThread t n = true → s.coresRun = true → s.quiet t n = true →
      ((∃ b c, (s.thread t n).wait = .chopen b c) ∨ (∃ b c gd, (s.thread t n).wait = .chget b c gd)) →
      s.field (.TH_CTL t n) 8 5 ≠ 0 → s.chanLimit t n ≤ cycle → s.depth t n < 2 →
      ∃ u, exec (.chwaitTimeout ⟨t, cycle⟩ n) s = .next u ∧ s.entered u ⟨t, n, cycle, 0⟩ 5 (s.rd (.TH_PC t n)) ∧ u.thState t n = 1
        ∧ (u.thread t n).wait = .none))

/-! ### Aperture by threads, and the contexts of the LVU -/

/-- APREQ of a thread that has no request or grant enters its request for G grains and gives 0; it gives 1 where the thread has one,
2 for G = 0. APREL gives grant or request back and answers 0, or 1 with nothing to give back (R166, R167). Each takes 8
cycles. -/
def Obligations.ApertureByThread : Prop :=
  ∀ (s s' : State) (i : Issue) (w : Word), s'.quiet i.tile i.thread = true →
    let T := i.tile
    let n := i.thread
    let u := ApUser.thread T n
    let g := fld (s'.g T n (fS1 w) + BitVec.ofNat 32 (imm12 w)) 0 10
    let busy := s'.apHolds u || s'.apWaits u
    let res := fun (t : State) (v : Word) => (∀ k, t.g T n k = if k % 32 = fD w ∧ fD w ≠ 0 then v else s'.g T n k)
      ∧ t.rd (.TH_PC T n) = s'.nextPc T n ∧ (t.thread T n).readyAt = i.cycle + 8 ∧ t.mem = s'.mem
      ∧ s'.regsKept t (fun q => pcReg T n q || q == .G T n (fD w) || guaranteeReg q)
    (s.begins i w .apreq = some s' →
      ∃ t, exec (.apreq i w) s = .next t ∧ res t (if busy then 1 else if g = 0 then 2 else 0)
        ∧ t.apWait = (if busy = false ∧ g ≠ 0 then s'.apWait ++ [⟨u, g⟩] else s'.apWait) ∧ t.apHeld = s'.apHeld)
    ∧ (s.begins i w .aprel = some s' →
      ∃ t, exec (.aprel i w) s = .next t ∧ res t (if busy then 0 else 1) ∧ t.apHolds u = false ∧ t.apWaits u = false
        ∧ (∀ v, v ≠ u → t.apHolds v = s'.apHolds v ∧ t.apWaits v = s'.apWaits v))

/-- VBIND gives status 0x80000003 to a thread that holds a context, 0x80000001 for a context BOUND to another thread, and binds a
FREE one at once: BOUND to the thread, PIN as asked, its number in Gd. Of an OFF or RET context it begins the wake, which it
awaits. VFREE leaves the context FREE, cleared under LV_CTL.SCRUB, but keeps the pinned context of a running member, and sets
PINHOLD (R166, R170, R171, R172).
The power of a context: an idle FREE context goes to DOWN when its time has run out; DOWN ends in RET with LV_CTL.RET[c], the
contents kept, else in OFF; a ramp that has its grains ends by giving them back; and the restore of a wake leaves the context
BOUND to the thread that awaited it, whose VBIND completes with the number in Gd, or FREE; from OFF every register and CSR
is 0 (R169, R170, R192, R193). A write of LV_CTL asks for the LVU's domain or gives it up, and is refused with STATE while a
context is BOUND (R173).
Choices of the model that it rests on: log entries 45 and 71. -/
def Obligations.Contexts : Prop :=
  (
    ∀ (s s' : State) (i : Issue) (w : Word), s'.quiet i.tile i.thread = true →
      let T := i.tile
      let n := i.thread
      let c := fld w 0 2
      let status := fun (t : State) (v : Word) => s'.completed t i (gset T n (fD w) v) 8
      (s.begins i w .vbind = some s' → s'.build.lvu = true → s'.ready 2 (8 + T) = true →
        ((∃ b, s'.boundCtx T n = some b) → ∃ t, exec (.vbind i w) s = .next t ∧ status t 0x80000003)
        ∧ (s'.boundCtx T n = none → bit w 2 = false → s'.ctxState T c = 4 → ∃ t, exec (.vbind i w) s = .next t ∧ status t 0x80000001)
        ∧ (s'.boundCtx T n = none → bit w 2 = false → s'.ctxState T c = 3 → n < 16 →
            ∃ t v, exec (.vbind i w) s = .next t ∧ s'.completed t i (gset T n (fD w) (BitVec.ofNat 32 c) ++ [(.LV_CSTAT T c, v)]) 8
              ∧ fld v 0 3 = 4 ∧ bit v 4 = bit w 3 ∧ fld v 8 4 = n ∧ fld v 16 16 = s'.field (.LV_CSTAT T c) 16 16)
        ∧ (s'.boundCtx T n = none → bit w 2 = false → (s'.ctxState T c = 0 ∨ s'.ctxState T c = 1) →
            ∃ t, exec (.vbind i w) s = .next t ∧ t.ctxState T c = 2 ∧ (t.ctx T c).await = some (n, bit w 3, fD w)
              ∧ (t.ctx T c).retained = (s'.ctxState T c == 1) ∧ (t.thread T n).wait = .vbind c
              ∧ t.rd (.TH_PC T n) = s'.rd (.TH_PC T n) ∧ ∀ k, t.g T n k = s'.g T n k))
      ∧ (∀ b, s.begins i w .vfree = some s' → s'.boundCtx T n = some b →
        ((s'.flag (.LV_CSTAT T b) 4 && s'.liveMember T n) = false →
          ∃ t, exec (.vfree i w) s = .next t ∧ t.ctxState T b = 3 ∧ t.rd (.TH_PC T n) = s'.nextPc T n
            ∧ s'.regsKept t (fun q => pcReg T n q || q == .LV_CSTAT T b) ∧ t.mem = s'.mem
            ∧ (t.ctx T b).v = (if s'.flag (.LV_CTL T) 8 then [] else (s'.ctx T b).v)
            ∧ (t.thread T n).readyAt = i.cycle + (if s'.flag (.LV_CTL T) 8 then 260 else 4))
        ∧ ((s'.flag (.LV_CSTAT T b) 4 && s'.liveMember T n) = true →
          ∃ t, exec (.vfree i w) s = .next t ∧ s'.completed t i [(.LV_STAT T, s'.rd (.LV_STAT T) ||| 1)] 4)))
  ∧ (
    (∀ (s : State) (t c : Nat), s.hasCtx t c = true → s.ctxState t c = 3 → s.field (.LV_IDLE t) 0 16 ≠ 0 →
      ∃ u, exec (.lvIdlePowerDown t c) s = .next u ∧ u.ctxState t c = 5 ∧ u.ctx t c = s.ctx t c
        ∧ (let due := (s.ctx t c).idleSince + 1600 * s.field (.LV_IDLE t) 0 16
           u.now = if due ≤ s.now then s.now else (s.now + ceilDiv (due - s.now) s.tbUnit * s.tbUnit) % 2 ^ 64)
        ∧ s.regsKept u (fun q => q == .LV_CSTAT t c || q == .TB_LO || q == .TB_HI) ∧ s.sameBeyondRegs u)
    ∧ (∀ (s : State) (t c : Nat), s.hasCtx t c = true → s.ctxState t c = 5 → (s.ctx t c).await = none →
      ∃ u, exec (.lvuContextDownEnd t c) s = .next u ∧ u.ctxState t c = (if s.flag (.LV_CTL t) c then 1 else 0)
        ∧ u.ctx t c = (if s.flag (.LV_CTL t) c then s.ctx t c else ctxReset) ∧ s.regsKept u (fun q => q == .LV_CSTAT t c))
    ∧ (∀ (s : State) (t c : Nat), s.hasCtx t c = true → s.ctxState t c = 2 → (s.ctx t c).restoring = false →
      s.apHolds (.lvuWake t c) = true → (∀ x ∈ s.apDrawn, x.1 ≠ .lvuWake t c) →
      ∃ u, exec (.lvuRampEnd t c) s = .next u ∧ u.apHolds (.lvuWake t c) = false ∧ u.ctxState t c = 2
        ∧ (u.ctx t c).restoring = true ∧ u.regs = s.regs)
    ∧ (∀ (s : State) (t c cycle : Nat), s.hasCtx t c = true → s.ctxState t c = 2 → (s.ctx t c).restoring = true →
      let kept := (s.ctx t c).retained
      let contents := fun (u : State) => (u.ctx t c).v = (if kept then (s.ctx t c).v else []) ∧ (u.ctx t c).await = none
        ∧ (u.ctx t c).vl = (if kept then (s.ctx t c).vl else 0) ∧ (u.ctx t c).fcsr = (if kept then (s.ctx t c).fcsr else 0)
      ((s.ctx t c).await = none →
        ∃ u, exec (.lvuRestoreEnd ⟨t, cycle⟩ c) s = .next u ∧ u.ctxState t c = 3 ∧ contents u ∧ s.regsKept u (fun q => q == .LV_CSTAT t c))
      ∧ (∀ n pin gd, (s.ctx t c).await = some (n, pin, gd) → n < 16 → gd < 32 → s.quiet t n = true → s.thState t n ≠ 5 →
        ∃ u, exec (.lvuRestoreEnd ⟨t, cycle⟩ c) s = .next u ∧ u.ctxState t c = 4 ∧ u.flag (.LV_CSTAT t c) 4 = pin
          ∧ u.field (.LV_CSTAT t c) 8 4 = n ∧ contents u ∧ u.thState t n = 1 ∧ (u.thread t n).wait = .none
          ∧ u.rd (.TH_PC t n) = s.nextPc t n
          ∧ (∀ k, u.g t n k = if k % 32 = gd ∧ gd ≠ 0 then BitVec.ofNat 32 c else s.g t n k)))
    ∧ (∀ (s : State) (src : Src) (t : Nat) (v : Word), s.admits src (.LV_CTL t) v = true → t < 8 →
      let bound := (List.range 4).any (fun c => s.ctxState t c == 4)
      ((s.flag (.LV_CTL t) 16 && !bit v 16 && bound) = false →
        ∃ u, exec (.lvCtlWrite src t v) s = .next u ∧ s.accepted u src (fun q => q == .LV_CTL t || match q with | .BLK_READY 2 => true | _ => false)
          ∧ u.flag (.LV_CTL t) 16 = bit v 16 ∧ u.flag (.LV_CTL t) 8 = bit v 8 ∧ u.field (.LV_CTL t) 0 4 = fld v 0 4
          ∧ (bit v 16 = true → (s.pd (16 + t)).phase = .off → u.pd (16 + t) = { s.pd (16 + t) with req := true, phase := .rampUp, want := true })
          ∧ (bit v 16 = false → s.flag (.LV_CTL t) 16 = true → (s.pd (16 + t)).phase = .on → (u.pd (16 + t)).phase = .draining))
      ∧ ((s.flag (.LV_CTL t) 16 && !bit v 16 && bound) = true →
        ∃ u, exec (.lvCtlWrite src t v) s = .next u ∧ s.turnedAway u src .state
          ∧ u.rd (.LV_CTL t) = s.rd (.LV_CTL t) ∧ u.pds = s.pds)))

/-- VSETVL sets the element width of its field and VL = min(Gs1, 2048 / SEW), compared unsigned, and puts VL in Gd; the vector
registers and the other CSRs of the context stay. It takes 4 cycles (R175, R177). Another value of its field, or an imm12 that is
not 0, raises ILLEGAL, which stops the tile (R95, R175). -/
def Obligations.SetVectorLength : Prop :=
  (∀ (s s' : State) (i : Issue) (w : Word) (c : Nat), s.begins i w .vsetvl = some s' → s'.quiet i.tile i.thread = true →
    s'.boundCtx i.tile i.thread = some c →
    let bits := [1, 8, 16, 32, 64].getD (fI w) 64
    let vl := min (s'.g i.tile i.thread (fS1 w)).toNat (2048 / bits)
    ∃ t, exec (.vsetvl i w) s = .next t ∧ fI w < 5
      ∧ s'.lvuDone t i (some (fD w, BitVec.ofNat 32 vl)) c { s'.ctx i.tile c with sew := fI w, vl := vl }
      ∧ (t.thread i.tile i.thread).readyAt = i.cycle + 4)
  ∧ (∀ (s s' : State) (i : Issue) (w : Word), i.tile < 8 → i.thread < 16 → s.hasThread i.tile i.thread = true →
    (s.mayPair i w = true ∨ s.mayIssue i = true) → s.fetch i.tile i.thread w = (s', .run) → s'.unbroken i.tile i.thread = true →
    (s'.boundCtx i.tile i.thread).isSome = true → opcode w = 0x18 → (4 < fI w ∨ imm12 w ≠ 0) →
    s'.flag (.TL_FREC i.tile 0) 31 = false →
    ∃ t, exec (.vsetvl i w) s = .next t ∧ (∀ m < 16, t.thState i.tile m = 5) ∧ t.field (.TL_FREC i.tile 0) 8 8 = 1)

/-! ### Vector and floating-point instructions -/

namespace Sys2Proof.Spec

/-- SEW in bits of its code (R175). -/
def sew (c : Nat) : Nat := [1, 8, 16, 32, 64].getD c 64

/-- Element `i` of `k` bits of a vector register (R176). -/
def el (k : Nat) (v : VReg) (i : Nat) : BitVec k := v.extractLsb' (k * i) k

/-- The table of R179: `v` is the element that funct `f` gives from `a` of Vs1 and `b` of Vs2. -/
def vecRule (f : Nat) {k : Nat} (a b v : BitVec k) : Prop :=
  (f = 0x00 → v = a &&& b) ∧ (f = 0x01 → v = a ||| b) ∧ (f = 0x02 → v = a ^^^ b) ∧ (f = 0x03 → v = a &&& ~~~ b)
  ∧ (f = 0x04 → v = a ||| ~~~ b) ∧ (f = 0x05 → v = ~~~ (a ^^^ b)) ∧ (f = 0x06 → v = ~~~ a) ∧ (f = 0x07 → v = a)
  ∧ (f = 0x10 → v = a + b) ∧ (f = 0x11 → v = a - b)
  ∧ (f = 0x12 → v.toInt = min a.toInt b.toInt) ∧ (f = 0x13 → v.toInt = max a.toInt b.toInt)
  ∧ (f = 0x14 → v.toNat = min a.toNat b.toNat) ∧ (f = 0x15 → v.toNat = max a.toNat b.toNat) ∧ (f = 0x16 → v = a * b)
  ∧ (f = 0x18 → v = a <<< (b.toNat % k)) ∧ (f = 0x19 → v = a >>> (b.toNat % k)) ∧ (f = 0x1A → v = a.sshiftRight (b.toNat % k))

/-- The compares of R179. -/
def vecCompare (f : Nat) {k : Nat} (a b : BitVec k) : Bool :=
  if f = 0x20 then a == b else if f = 0x21 then a != b else if f = 0x22 then decide (a.toInt < b.toInt) else decide (a.toNat < b.toNat)

/-- The rounding shift of R182 of `v` by `d` under VXRM. -/
def roundedShift (mode : Nat) (v : Int) (d : Nat) : Int :=
  let low := v % 2 ^ d
  let odd := v / 2 ^ d % 2 = 1
  v / 2 ^ d + (if d = 0 ∨ mode = 0 then 0
    else if mode = 1 then (if 2 ^ (d - 1) ≤ low then 1 else 0)
    else if mode = 2 then (if 2 ^ (d - 1) < low ∨ (2 ^ (d - 1) = low ∧ odd) then 1 else 0)
    else if ¬ odd ∧ low ≠ 0 then 1 else 0)

/-- The exact result of a saturating operation of R181, and the ends of its range. -/
def fixedExact (f mode : Nat) {k : Nat} (a b : BitVec k) : Option (Int × Int × Int) :=
  if f = 0 then some (a.toInt + b.toInt, -2 ^ (k - 1), 2 ^ (k - 1) - 1)
  else if f = 1 then some (a.toInt - b.toInt, -2 ^ (k - 1), 2 ^ (k - 1) - 1)
  else if f = 2 then some ((a.toNat : Int) + b.toNat, 0, 2 ^ k - 1)
  else if f = 3 then some ((a.toNat : Int) - b.toNat, 0, 2 ^ k - 1)
  else if f = 0x10 then some (roundedShift mode (a.toInt * b.toInt) (k - 1), -2 ^ (k - 1), 2 ^ (k - 1) - 1)
  else none

/-- The table of R181: a saturating result is the exact one clamped, VSSRL and VSSRA are the rounding shift by the low bits of
`b`, zero-filled and sign-filled. -/
def fixedRule (f mode : Nat) {k : Nat} (a b v : BitVec k) : Prop :=
  (∀ r lo hi, fixedExact f mode a b = some (r, lo, hi) → v = BitVec.ofInt k (clamp lo hi r))
  ∧ (f = 0x18 → v = BitVec.ofInt k (roundedShift mode a.toNat (b.toNat % k)))
  ∧ (f = 0x19 → v = BitVec.ofInt k (roundedShift mode a.toInt (b.toNat % k)))

/-- A saturating operation leaves its range (R181). -/
def fixedSaturates (f mode : Nat) {k : Nat} (a b : BitVec k) : Bool :=
  match fixedExact f mode a b with
  | some (r, lo, hi) => decide (r < lo ∨ hi < r)
  | none => false

/-- Operand b of R178: the element of Vs2, or under opcode 0x1D general register Gs, sign-extended at SEW 64. -/
def operandB (s : State) (t n : Nat) (x : Ctx) (w : Word) (k i : Nat) : BitVec k :=
  if opcode w = 0x1D then (s.g t n (fS2 w)).signExtend k else el k (x.vreg (fS2 w)) i

/-- Element `i` is active: below VL, and under a mask where bit `i` of V0 is 1 (R176). -/
def active (x : Ctx) (w : Word) (i : Nat) : Bool := decide (i < x.vl) && (!bit w 10 || bit (x.vreg 0) i)

end Sys2Proof.Spec

/-- VECTOR_INTEGER_OP in a bound context: each active element of Vd becomes what R179 says and every other
element stays; a compare writes bit i of Vd for each active element; VMERGE takes b where bit i of V0 is 1, else a; VPOPC,
VFIRST and VGET write Gd, VPUT element 0 of Vd. With VL = 0 nothing changes (R176). Under opcode 0x1D operand b is Gs (R178). A
funct above 0x007 at SEW 1 is ILLEGAL and stops the tile.
Choices of the model that it rests on: log entry 64. -/
def Obligations.VectorIntegerResult : Prop :=
  ∀ (s s' : State) (i : Issue) (w : Word) (c : Nat), s.begins i w .vint = some s' → s'.quiet i.tile i.thread = true →
    s'.boundCtx i.tile i.thread = some c →
    let x := s'.ctx i.tile c
    let k := Spec.sew x.sew
    let f := fld w 0 (if opcode w = 0x1D then 9 else 10)
    let a := fun j => Spec.el k (x.vreg (fS1 w)) j
    let b := fun j => Spec.operandB s' i.tile i.thread x w k j
    let hits := (List.range x.vl).filter (fun j => Spec.active x w j && a j != 0)
    (x.sew = 0 → f ≤ 7) →
    ∃ t, ∃ v : Word × VReg, exec (.vectorIntegerOp i w) s = .next t
      ∧ s'.lvuDone t i (if 0x40 ≤ f ∧ f ≤ 0x42 ∧ x.vl ≠ 0 then some (fD w, v.1) else none) c
          (if 0x40 ≤ f ∧ f ≤ 0x42 ∨ x.vl = 0 ∨ f = 0x43 ∧ Spec.active x w 0 = false then x else x.setV (fD w) v.2)
      ∧ (f < 0x20 → ∀ j < 2048 / k, if Spec.active x w j then Spec.vecRule f (a j) (b j) (Spec.el k v.2 j)
          else Spec.el k v.2 j = Spec.el k (x.vreg (fD w)) j)
      ∧ (0x20 ≤ f → f ≤ 0x23 → ∀ j < 2048, bit v.2 j = if Spec.active x w j then Spec.vecCompare f (a j) (b j) else bit (x.vreg (fD w)) j)
      ∧ (f = 0x30 → ∀ j < 2048 / k, Spec.el k v.2 j
          = if j < x.vl then (if bit (x.vreg 0) j then b j else a j) else Spec.el k (x.vreg (fD w)) j)
      ∧ (f = 0x40 → v.1 = BitVec.ofNat 32 hits.length) ∧ (f = 0x41 → v.1 = (hits.head?.map (BitVec.ofNat 32)).getD 0xFFFFFFFF)
      ∧ (f = 0x42 → v.1 = if k = 64 then (a 0).setWidth 32 else (a 0).signExtend 32)
      ∧ (f = 0x43 → ∀ j < 2048 / k, Spec.el k v.2 j
          = if j = 0 then (s'.g i.tile i.thread (fS2 w)).signExtend k else Spec.el k (x.vreg (fD w)) j)

/-- VECTOR_FIXED_POINT_OP in a bound context: each active element becomes the exact result clamped to its range, or the rounding
shift of R182; VSAT sets where an active element saturates and is never cleared; every other element stays (R176, R181,
R182, R183). VQMUL is ILLEGAL but at SEW 16 and 32, everything at SEW 1. -/
def Obligations.VectorFixedPointResult : Prop :=
  ∀ (s s' : State) (i : Issue) (w : Word) (c : Nat), s.begins i w .vfix = some s' → s'.quiet i.tile i.thread = true →
    s'.boundCtx i.tile i.thread = some c →
    let x := s'.ctx i.tile c
    let k := Spec.sew x.sew
    let f := fld w 0 (if opcode w = 0x1D then 9 else 10)
    let a := fun j => Spec.el k (x.vreg (fS1 w)) j
    let b := fun j => Spec.operandB s' i.tile i.thread x w k j
    (1 ≤ x.sew → (f = 0x10 → x.sew = 2 ∨ x.sew = 3) →
      ∃ t v sat, exec (.vectorFixedPointOp i w) s = .next t
        ∧ s'.lvuDone t i none c (if x.vl = 0 then x else { x.setV (fD w) v with vsat := x.vsat || sat })
        ∧ sat = (List.range x.vl).any (fun j => Spec.active x w j && Spec.fixedSaturates f x.vxrm (a j) (b j))
        ∧ ∀ j < 2048 / k, if Spec.active x w j then Spec.fixedRule f x.vxrm (a j) (b j) (Spec.el k v j)
            else Spec.el k v j = Spec.el k (x.vreg (fD w)) j)
    ∧ ((x.sew = 0 ∨ (f = 0x10 ∧ x.sew ≠ 2 ∧ x.sew ≠ 3)) → i.tile < 8 → i.thread < 16 → s'.flag (.TL_FREC i.tile 0) 31 = false →
      ∃ t, exec (.vectorFixedPointOp i w) s = .next t ∧ (∀ m < 16, t.thState i.tile m = 5) ∧ t.field (.TL_FREC i.tile 0) 8 8 = 1
        ∧ (t.ctx i.tile c).v = x.v)

/-- SCALAR_FP_OP: the arithmetic operations, conversions into F registers and FMV.F.G write Fd, a binary32 result with bits 63:32
all ones, and leave bits 2047:64 of the register; compares, FCVT.W and FMV.G.F write Gd; the flags of the operation are ORed
into FCSR, and nothing else of the context changes (R174, R184). Operands are read through R174, arithmetic and its flags are those of
the operation under FRM. What FCVT.W of a NaN writes is free (log entry 3).
Choices of the model that it rests on: log entries 60 and 62.
A number that the rounding of R184 reaches from inside the range of a format lies within one unit of the last place of the exact
value, on the side that the direction names; an exact result sets no flag, an inexact one sets NX. -/
def Obligations.ScalarFloat : Prop :=
  (
    ∀ (s s' : State) (i : Issue) (w : Word) (c : Nat), s.begins i w .sfp = some s' → s'.quiet i.tile i.thread = true →
      s'.boundCtx i.tile i.thread = some c →
      let x := s'.ctx i.tile c
      let f := fld w 0 10
      let dbl := bit w 10
      let k := if dbl then b64 else b32
      let rm := fld x.fcsr 0 2
      let read := fun (d : Bool) (r : Nat) => if d then fld (x.vreg r) 0 64
        else if fld (x.vreg r) 32 32 = 0xFFFFFFFF then fld (x.vreg r) 0 32 else 0x7FC00000
      let boxed := fun (v : Nat) => setFld (x.vreg (fD w)) 0 64 (if dbl then v else 0xFFFFFFFF00000000 + v % 2 ^ 32)
      let withFlags := fun (y : Ctx) (fl : FpFlags) => { y with fcsr := fcsrSet x.fcsr fl }
      let res := if f ≤ 8 then k.arith rm f (read dbl (fS1 w)) (read dbl (fS2 w)) (read dbl (fD w))
        else if f = 0x19 then k.ofInt rm (s'.g i.tile i.thread (fS1 w)).toInt
        else k.ofVal rm ((if dbl then b32 else b64).decode (read (!dbl) (fS1 w)))
      let cmp := fCompare f (k.decode (read dbl (fS1 w))) (k.decode (read dbl (fS2 w)))
      let int := toInt 32 rm (k.decode (read dbl (fS1 w)))
      ((f ≤ 8 ∨ f = 0x19 ∨ f = 0x1A) → ∃ t, exec (.scalarFpOp i w) s = .next t
        ∧ s'.lvuDone t i none c (withFlags (x.setV (fD w) (boxed res.bits)) res.fl))
      ∧ (0x10 ≤ f ∧ f ≤ 0x12 → ∃ t, exec (.scalarFpOp i w) s = .next t
        ∧ s'.lvuDone t i (some (fD w, if cmp.1 then 1 else 0)) c (withFlags x cmp.2))
      ∧ (f = 0x18 → ∃ t v, exec (.scalarFpOp i w) s = .next t ∧ s'.lvuDone t i (some (fD w, v)) c (withFlags x int.2)
        ∧ ∀ z, int.1 = some z → v.toInt = z)
      ∧ (f = 0x1C → ∃ t, exec (.scalarFpOp i w) s = .next t ∧ s'.lvuDone t i (some (fD w, (x.vreg (fS1 w)).setWidth 32)) c x)
      ∧ (f = 0x1D → ∃ t, exec (.scalarFpOp i w) s = .next t
        ∧ s'.lvuDone t i none c (x.setV (fD w) (setFld (x.vreg (fD w)) 0 64 (0xFFFFFFFF00000000 + (s'.g i.tile i.thread (fS1 w)).toNat)))))
  ∧ (
    ∀ (k : Fmt) (rm m : Nat) (neg : Bool) (e : Int), (k = b32 ∨ k = b64) → rm < 4 → 0 < m →
      let r := k.round rm neg m e
      r.fl.of = false →
      ∃ m' e', k.decode r.bits = .fin neg m' e' ∧ m' < 2 ^ (k.mb + 1)
        ∧ (let u := min e e'
           let got := m' * 2 ^ (e' - u).toNat
           let want := m * 2 ^ (e - u).toNat
           let ulp := 2 ^ (e' - u).toNat
           (r.fl.nx = false ↔ got = want)
           ∧ (rm = 1 → got ≤ want) ∧ (rm = 2 → if neg then want ≤ got else got ≤ want) ∧ (rm = 3 → if neg then got ≤ want else want ≤ got)
           ∧ (rm = 0 → 2 * got ≤ 2 * want + ulp ∧ 2 * want ≤ 2 * got + ulp)
           ∧ got < want + ulp ∧ want < got + ulp))

/-- VECTOR_FP_OP at SEW 32 or 64: each active element becomes the result of its operation, or for a compare its bit of Vd, every
other element stays, and the flags are those of the active elements together; at another SEW it is ILLEGAL (R176, R184). What
VFCVT.X of a NaN writes is free (log entry 3).
Choices of the model that it rests on: log entry 60. -/
def Obligations.VectorFloatResult : Prop :=
  ∀ (s s' : State) (i : Issue) (w : Word) (c : Nat), s.begins i w .vfp = some s' → s'.quiet i.tile i.thread = true →
    s'.boundCtx i.tile i.thread = some c →
    let x := s'.ctx i.tile c
    let k := Spec.sew x.sew
    let fm := if x.sew = 4 then b64 else b32
    let f := fld w 0 10
    let rm := fld x.fcsr 0 2
    let a := fun j => (Spec.el k (x.vreg (fS1 w)) j)
    let b := fun j => (Spec.el k (x.vreg (fS2 w)) j)
    let d := fun j => (Spec.el k (x.vreg (fD w)) j)
    let cmp := fun j => fCompare f (fm.decode (a j).toNat) (fm.decode (b j).toNat)
    let arith := fun j => if f ≤ 8 then fm.arith rm f (a j).toNat (b j).toNat (d j).toNat else fm.ofInt rm (a j).toInt
    let all := fun (g : Nat → FpFlags) => ((List.range x.vl).filter (Spec.active x w)).foldl (fun z j => z.or (g j)) noFlags
    let done := fun (t : State) (v : VReg) (g : Nat → FpFlags) =>
      s'.lvuDone t i none c (if x.vl = 0 then x else { x.setV (fD w) v with fcsr := fcsrSet x.fcsr (all g) })
    ((x.sew = 3 ∨ x.sew = 4) →
      (0x10 ≤ f ∧ f ≤ 0x12 → ∃ t v, exec (.vectorFpOp i w) s = .next t ∧ done t v (fun j => (cmp j).2)
        ∧ ∀ j < 2048, bit v j = if Spec.active x w j then (cmp j).1 else bit (x.vreg (fD w)) j)
      ∧ ((f ≤ 8 ∨ f = 0x19) → ∃ t v, exec (.vectorFpOp i w) s = .next t ∧ done t v (fun j => (arith j).fl)
        ∧ ∀ j < 2048 / k, (Spec.el k v j).toNat = if Spec.active x w j then (arith j).bits % 2 ^ k else (d j).toNat)
      ∧ (f = 0x18 → ∃ t v, exec (.vectorFpOp i w) s = .next t ∧ done t v (fun j => (toInt k rm (fm.decode (a j).toNat)).2)
        ∧ ∀ j < 2048 / k, (Spec.active x w j = false → Spec.el k v j = d j)
          ∧ ∀ z, Spec.active x w j = true → (toInt k rm (fm.decode (a j).toNat)).1 = some z → (Spec.el k v j).toInt = z))
    ∧ (x.sew ≠ 3 → x.sew ≠ 4 → i.tile < 8 → i.thread < 16 → s'.flag (.TL_FREC i.tile 0) 31 = false →
      ∃ t, exec (.vectorFpOp i w) s = .next t ∧ (∀ m < 16, t.thState i.tile m = 5) ∧ t.field (.TL_FREC i.tile 0) 8 8 = 1
        ∧ (t.ctx i.tile c).v = x.v)

/-! ### Vector loads and stores -/

namespace Sys2Proof.Spec

/-- The address of element `j` of `k` bits in the unit-stride, strided and indexed forms (R185). -/
def elemAddr (s : State) (t n : Nat) (x : Ctx) (w : Word) (k j : Nat) : Nat :=
  ((s.g t n (fS1 w)).toNat
    + (if opcode w = 0x1C then (el k (x.vreg (fS2 w)) j).toNat else if fld w 1 9 = 1 then j * (s.g t n (fS2 w)).toNat else j * (k / 8)))
    % 2 ^ 32

/-- The word is a scalar F form (R185). -/
def scalarF (w : Word) : Bool := opcode w == 0x1B && (fld w 1 9 == 2 || fld w 1 9 == 6)

/-- VECTOR_LOAD, or VECTOR_GATHER for opcode 0x1C. -/
def loadCmd (r : Row) (i : Issue) (w : Word) (h : HostData) : Instr := match r with | .vload => .vectorLoad i w h | _ => .vectorGather i w h

/-- VECTOR_STORE, or VECTOR_SCATTER for opcode 0x1C. -/
def storeCmd (r : Row) (i : Issue) (w : Word) (h : HostData) : Instr :=
  match r with | .vstore => .vectorStore i ⟨w, h⟩ | _ => .vectorScatter i w

/-- An access of `len` bytes at scratchpad address `a` is aligned, ready and not watched. -/
def padOk (s : State) (t n : Nat) (k : AccKind) (a len : Nat) : Bool :=
  a % len == 0 && decide (a < 0x80000) && s.memIsReady (spBase t + a) && (s.watch t n k a len).isNone

end Sys2Proof.Spec

/-- VECTOR_LOAD and VECTOR_GATHER in a bound context. Where every active element passes the pre-pass, meets no watchpoint or
buffered store, and is read, the elements go to Vd. From the scratchpad each active element becomes the bytes at its address
under its form, every other element stays; at SEW 1 (unit-stride, base and VL as R180 asks) each active bit becomes the bit
of memory; a scalar F form fills Fd (R174). With VL = 0 nothing changes but for scalar F. An element that fails the pre-pass
with a misaligned address enters exception 0x06 or stops the tile with Vd and memory untouched, VFIDX and VFADDR naming it
(R176, R180, R185, R186).
Choices of the model that it rests on: log entries 58, 63 and 96. -/
def Obligations.VectorLoads : Prop :=
  ∀ (r : Row) (s s' : State) (i : Issue) (w : Word) (h : HostData) (c : Nat), (r = .vload ∨ r = .vgather) → s.begins i w r = some s' →
    s'.quiet i.tile i.thread = true → s'.boundCtx i.tile i.thread = some c →
    let T := i.tile
    let n := i.thread
    let x := s'.ctx T c
    let k := Spec.sew x.sew
    let base := (s'.g T n (fS1 w)).toNat
    let l := s'.vAccesses T n x w
    let s₁ := (s'.noteUnpinned T n c).noteHost T n (l.map (fun a => (a.addr, a.len)))
    let runs := Spec.loadCmd r i w h
    (∀ s₂ vs, (x.sew = 0 → opcode w = 0x1B ∧ fld w 1 9 ≠ 1) → (x.vl ≠ 0 ∨ Spec.scalarF w = true) →
      s₁.vPrePass T n .load x w l = none → s₁.vWatch T n .load l = none → s₁.vOverlaps T n l = false →
      s₁.vReadAll T n (readBefore (s₁.vUnit T n w) l) h.err l h.bytes = (s₂, .ok vs) → s₂.quiet T n = true → s₂.rd (.TH_PC T n) = s'.rd (.TH_PC T n) →
      ∃ t, exec runs s = .next t ∧ s₂.lvuDone t i none c (vLoaded x w vs))
    ∧ (1 ≤ x.sew → x.vl ≠ 0 → Spec.scalarF w = false → T < 8 → s'.ecc = [] →
      (∀ j < x.vl, Spec.active x w j = true → Spec.padOk s' T n .load (Spec.elemAddr s' T n x w k j) (k / 8) = true) →
      ∃ t v, exec runs s = .next t ∧ s'.lvuDone t i none c (x.setV (fD w) v)
        ∧ ∀ j < 2048 / k, Spec.el k v j = if Spec.active x w j
            then BitVec.ofNat k (Spec.num (memBytes s'.mem (spBase T + Spec.elemAddr s' T n x w k j) (k / 8))) else Spec.el k (x.vreg (fD w)) j)
    ∧ (x.sew = 0 → opcode w = 0x1B → fld w 1 9 = 0 → base % 4 = 0 → x.vl % 32 = 0 → x.vl ≠ 0 → base + x.vl / 8 ≤ 0x80000 → T < 8 →
      s'.ecc = [] → s'.memIsReady (spBase T + base) = true → (∀ a, s'.watch T n .load a 4 = none) →
      ∃ t v, exec runs s = .next t ∧ s'.lvuDone t i none c (x.setV (fD w) v)
        ∧ ∀ j < 2048, bit v j = if Spec.active x w j then bit (memGet s'.mem (spBase T + base + j / 8)) (j % 8) else bit (x.vreg (fD w)) j)
    ∧ (Spec.scalarF w = true → T < 8 → s'.ecc = [] →
      let len := if fld w 1 9 = 6 then 8 else 4
      let a := (base + (s'.g T n (fS2 w)).toNat) % 2 ^ 32
      Spec.padOk s' T n .load a len = true →
      ∃ t, exec runs s = .next t ∧ s'.lvuDone t i none c (x.setV (fD w) (setFld (x.vreg (fD w)) 0 64
        (Spec.num (memBytes s'.mem (spBase T + a) len) + if len = 8 then 0 else 0xFFFFFFFF00000000))))
    ∧ (x.vl = 0 → 1 ≤ x.sew → Spec.scalarF w = false → ∃ t, exec runs s = .next t ∧ s'.lvuDone t i none c x
        ∧ (t.thread T n).readyAt = i.cycle + 4)
    ∧ (∀ j, 2 ≤ x.sew → Spec.scalarF w = false → j < x.vl → Spec.active x w j = true → (∀ m < j, Spec.active x w m = false) →
      Spec.elemAddr s' T n x w k j % (k / 8) ≠ 0 → s'.depth T n < 2 →
      ∃ t, exec runs s = .next t ∧ t.field (.TH_STAT T n) 16 8 = 6 ∧ t.rd (.TH_EPC T n (s'.depth T n)) = s'.rd (.TH_PC T n)
        ∧ t.ctx T c = { x with vfidx := j, vfaddr := BitVec.ofNat 32 (Spec.elemAddr s' T n x w k j), vfcause := 2 } ∧ t.mem = s'.mem)

/-- VECTOR_STORE and VECTOR_SCATTER in a bound context. Where every active element passes the pre-pass and meets no watchpoint or
buffered store, the elements are written in ascending order and the context does not change; a store that reaches a host
window makes the thread wait for every response. In the scratchpad each byte takes the value of the last active element that
covers it and every other byte stays; a scalar F form stores the low bits of Fs. A misaligned active element leaves memory
untouched (R176, R185, R186, R189).
Choices of the model that it rests on: log entries 58, 65 and 98. -/
def Obligations.VectorStores : Prop :=
  ∀ (r : Row) (s s' : State) (i : Issue) (w : Word) (h : HostData) (c : Nat), (r = .vstore ∨ r = .vscatter) → s.begins i w r = some s' →
    s'.quiet i.tile i.thread = true → s'.boundCtx i.tile i.thread = some c →
    let T := i.tile
    let n := i.thread
    let x := s'.ctx T c
    let k := Spec.sew x.sew
    let base := (s'.g T n (fS1 w)).toNat
    let l := s'.vAccesses T n x w
    let s₁ := (s'.noteUnpinned T n c).noteHost T n (l.map (fun a => (a.addr, a.len)))
    let runs := Spec.storeCmd r i w h
    let host := fun (a : VAcc) => match rgnOf a.addr with | .host _ => true | _ => false
    let plain := s'.ecc = [] ∧ s'.writeBacks = [] ∧ s'.inOrder = true ∧ s'.clk.running = true ∧ s'.clk.held = false ∧ T < 8
    let kept := fun (t : State) => t.rd (.TH_PC T n) = s'.nextPc T n ∧ (∀ d, t.ctx T d = s'.ctx T d)
      ∧ s'.regsKept t (fun q => pcReg T n q || guaranteeReg q || match q with | .SC_EDITSTAT _ => true | _ => false)
    (∀ s₂, (x.sew = 0 → opcode w = 0x1B ∧ fld w 1 9 ≠ 1) → (x.vl ≠ 0 ∨ Spec.scalarF w = true) →
      s₁.vPrePass T n .store x w l = none → s₁.vWatch T n .store l = none → s₁.vOverlaps T n l = false →
      s₁.vWriteAll T n x w (fullWord (s₁.vUnit T n w) l) l (if r = .vstore then h.bytes else []) = (s₂, none) → s₂.clk.running = true → s₂.clk.held = false → s₂.quiet T n = true →
      s₂.rd (.TH_PC T n) = s'.rd (.TH_PC T n) →
      ∃ t, exec runs s = .next t
        ∧ (l.any host = false → ∃ occ, s₂.completed t i [] occ)
        ∧ (l.any host = true → (∃ hs, (t.thread T n).wait = .hostStore hs ∧ hs.length = (l.filter host).length)
            ∧ s₂.sameBeyondThreads t ∧ ∀ q, t.rd q = s₂.rd q))
    ∧ (plain → 1 ≤ x.sew → x.vl ≠ 0 → Spec.scalarF w = false →
      (∀ j < x.vl, Spec.active x w j = true → Spec.padOk s' T n .store (Spec.elemAddr s' T n x w k j) (k / 8) = true) →
      ∃ t, exec runs s = .next t ∧ kept t
        ∧ ∀ b, memGet t.mem b =
          match ((List.range x.vl).filter (fun j => Spec.active x w j
            && decide (spBase T + Spec.elemAddr s' T n x w k j ≤ b ∧ b < spBase T + Spec.elemAddr s' T n x w k j + k / 8))).getLast? with
          | some j => (Spec.el k (x.vreg (fD w)) j).extractLsb' (8 * (b - (spBase T + Spec.elemAddr s' T n x w k j))) 8
          | none => memGet s'.mem b)
    ∧ (plain → x.sew = 0 → opcode w = 0x1B → fld w 1 9 = 0 → base % 4 = 0 → x.vl % 32 = 0 → x.vl ≠ 0 → base + x.vl / 8 ≤ 0x80000 →
      s'.memIsReady (spBase T + base) = true → (∀ a, s'.watch T n .store a 4 = none) →
      ∃ t, exec runs s = .next t ∧ kept t
        ∧ ∀ b p, p < 8 → bit (memGet t.mem b) p =
          if spBase T + base ≤ b ∧ b < spBase T + base + x.vl / 8 ∧ Spec.active x w (8 * (b - (spBase T + base)) + p) = true
          then bit (x.vreg (fD w)) (8 * (b - (spBase T + base)) + p) else bit (memGet s'.mem b) p)
    ∧ (plain → Spec.scalarF w = true →
      let len := if fld w 1 9 = 6 then 8 else 4
      let a := (base + (s'.g T n (fS2 w)).toNat) % 2 ^ 32
      Spec.padOk s' T n .store a len = true →
      ∃ t, exec runs s = .next t ∧ kept t ∧ s'.memBecomes t (spBase T + a) (leBytes len (fld (x.vreg (fD w)) 0 64)))
    ∧ (x.vl = 0 → 1 ≤ x.sew → Spec.scalarF w = false → ∃ t, exec runs s = .next t ∧ s'.lvuDone t i none c x)
    ∧ (∀ j, 2 ≤ x.sew → Spec.scalarF w = false → j < x.vl → Spec.active x w j = true → (∀ m < j, Spec.active x w m = false) →
      Spec.elemAddr s' T n x w k j % (k / 8) ≠ 0 → s'.depth T n < 2 →
      ∃ t, exec runs s = .next t ∧ t.field (.TH_STAT T n) 16 8 = 6 ∧ t.rd (.TH_EPC T n (s'.depth T n)) = s'.rd (.TH_PC T n)
        ∧ t.ctx T c = { x with vfidx := j, vfaddr := BitVec.ofNat 32 (Spec.elemAddr s' T n x w k j), vfcause := 2 } ∧ t.mem = s'.mem)

/-! ### Resets, clocks and power domains -/

/-- PORST_N low resets every register, stops the divided clocks and clears the timebase (R33). When it rises with the clock
acknowledged and SYSRST_N high the block leaves reset: thread 0 of tile 0 is ACTIVE at the boot ROM, the tile's other threads
are HELD, TIMERS and GZ are ready; without the acknowledge it stays held (R29, R32). SYSRST_N low resets all but the AO
registers and the domain-request fields, and sets its cause; BLK_PDSTAT then shows the acknowledges alone; the fall of other
sources may fire Gauze channels, and out of SLEEP the timebase leaves LFCLK. When it rises the block leaves reset likewise
(R33, R36, R482, R483, R484), and at the release of MAIN's reset where that comes last. Under PORST_N, and in OFF, SYSRST_N counts for nothing more (R33, R43). CLK_ACK rising starts the divided clocks, with the timebase back from LFCLK rounded up to a multiple of 40, and
falling stops them (R27, R200).
Choices of the model that it rests on: log entries 48 and 90. -/
def Obligations.ResetsAndClocks : Prop :=
  let up := fun (t : State) => t.clk.held = false ∧ t.thState 0 0 = 1 ∧ t.rd (.TH_PC 0 0) = 0x0F800000
    ∧ (∀ n, n < 16 → n ≠ 0 → t.thState 0 n = 0) ∧ t.ready 3 4 = true ∧ t.ready 3 5 = true
  (∀ s : State, ∃ t, exec .porstNAssert s = .next t ∧ t.clk.porst = true ∧ t.clk.running = false ∧ t.clk.held = true
    ∧ (∀ q, t.rd q = regReset q) ∧ t.now = 0 ∧ t.chans = [] ∧ t.clears = [] ∧ t.build = s.build)
  ∧ (∀ s : State, s.clk.porst = true →
    (s.clk.clkAck = true → s.clk.sysrst = false → s.clk.held = true → s.mainUp →
      ∃ t, exec .porstNDeassert s = .next t ∧ t.clk.porst = false ∧ t.clk.running = true ∧ up t)
    ∧ (s.clk.clkAck = false → ∃ t, exec .porstNDeassert s = .next t ∧ t.clk.porst = false ∧ t.clk.running = false
        ∧ t.clk.held = s.clk.held ∧ ∀ q, t.rd q = s.rd q))
  ∧ (∀ s : State, s.clk.porst = false → s.blk ≠ 0 →
    ∃ t, exec .sysrstNAssert s = .next t ∧ t.clk.sysrst = true ∧ t.clk.held = true ∧ t.flag .BLK_RSTCAUSE 1 = true
      ∧ t.rd .BLK_PDSTAT = s.ackBits
      ∧ (∀ q, aoReg q = true → q ≠ .BLK_RSTCAUSE → noticeReg q = false → (s.blk = 6 → q ≠ .TB_LO ∧ q ≠ .TB_HI ∧ q ≠ .TB_STAT) →
          t.rd q = s.rd q)
      ∧ (∀ q, aoReg q = false → q ≠ .BLK_PDSTAT → t.rd q = (s.rd q &&& requestMask q) ||| (regReset q &&& ~~~ requestMask q))
      ∧ (s.cans = [] → t.mem = s.mem))
  ∧ (∀ s : State, (s.clk.porst = true ∨ s.blk = 0) → exec .sysrstNAssert s = .next { s with clk := { s.clk with sysrst := true } })
  ∧ (∀ s : State, s.clk.porst = false → s.clk.running = true → s.clk.held = true → s.mainUp →
    ∃ t, exec .sysrstNDeassert s = .next t ∧ t.clk.sysrst = false ∧ up t)
  ∧ (∀ s : State, s.clk.porst = false → s.clk.sysrst = false → s.clk.running = true → s.clk.held = true → (s.pd 1).phase = .inReset →
    ((s.pd 8).phase = .on ∨ (s.pd 8).phase = .due) → ∃ t, exec (.domainResetRelease 1) s = .next t ∧ up t)
  ∧ (∀ s : State, s.clk.clkReq = true → s.clk.porst = false → s.clk.held = false →
    ∃ t, exec .clkAckRise s = .next t ∧ t.clk.clkAck = true ∧ t.clk.running = true ∧ t.flag .TB_STAT 0 = false
      ∧ t.now = (if s.flag .TB_STAT 0 then (s.now + 39) / 40 * 40 % 2 ^ 64 else s.now)
      ∧ s.regsKept t (fun q => q == .TB_LO || q == .TB_HI || q == .TB_STAT))
  ∧ (∀ s : State, exec .clkAckFall s = .next { s with clk := { s.clk with clkAck := false, running := false } })

/-- The handshakes of a power domain (R38, R39): PD_ACK rising ends the isolation; the release of its reset makes it ON, its lost
memories to be cleared; the end of the drain isolates it and drops PD_REQ; PD_ACK falling leaves it OFF, or powers it up
again where that was asked meanwhile, as a power-down asked for meanwhile begins when its reset is released. PD_ACK lost
isolates it, leaves PD_REQ and sets PDLOST (R42); a timeout sets PDTO with PD_REQ held (R41). An accepted budget is taken
while the divided clocks run (R46). The other domains are as before. What an entry to SLEEP or OFF does with a domain is
stated with those entries (R449).
Choices of the model that it rests on: log entries 13 and 90. -/
def Obligations.PowerDomainHandshakes : Prop :=
  (∀ (s : State) (d : Nat), d < 24 → s.hasDomain d = true →
    let x := s.pd d
    let others := fun (t : State) => ∀ e, e ≠ d → t.pd e = s.pd e
    (x.phase = .rampUp → ∃ t, exec (.pdAckRise d) s = .next t ∧ t.pd d = { x with iso := false, phase := .inReset } ∧ others t
      ∧ s.regsBecome t [(.BLK_PDSTAT, setBit (s.rd .BLK_PDSTAT) d true)])
    ∧ (x.phase = .inReset → s.entry = none → s.clk.held = false → ∃ t, exec (.domainResetRelease d) s = .next t ∧ others t
      ∧ (x.want = false → t.pd d = { x with phase := .draining, lost := false })
      ∧ (x.want = true → t.pd d = { x with phase := .on, lost := false }
          ∧ (x.lost = true → (8 ≤ d ∧ d < 16 → MemUnit.tile (d - 8) ∈ t.clears) ∧ (d = 2 → MemUnit.canRam ∈ t.clears)
              ∧ (4 ≤ d ∧ d < 8 → ∀ b < 8,
                  if s.apHolds (.bank (8 * (d - 4) + b)) = true then MemUnit.bank (8 * (d - 4) + b) ∈ t.clears
                  else t.apWaits (.bank (8 * (d - 4) + b)) = true))))
    ∧ (x.phase = .inReset → s.clk.held = true → d ≠ 1 →
        exec (.domainResetRelease d) s = .next (s.setPd d { x with phase := .due }))
    ∧ (x.phase = .draining → (s.entry = none ∨ s.managersIdle = true) → ∃ t, exec (.domainDrainEnd d) s = .next t
      ∧ t.pd d = { x with iso := true, req := false, phase := .rampDown, lost := true } ∧ others t)
    ∧ (x.phase = .rampDown → s.entry = none → ∃ t, exec (.pdAckFall d) s = .next t ∧ others t ∧ t.flag .BLK_PDSTAT d = false
      ∧ t.pd d = (if x.want then { x with req := true, phase := .rampUp, want := true } else { x with phase := .off }))
    ∧ (x.req = true → x.phase ∈ [PdPhase.on, .inReset, .due, .draining] → (d = 1 → s.entry = none) → ∃ t, exec (.pdAckLost d) s = .next t ∧ others t ∧ t.flag .BLK_RSTCAUSE 2 = true
      ∧ t.pd d = { x with iso := true, phase := .rampUp, lost := true } ∧ t.flag .BLK_PDSTAT d = false
      ∧ (8 ≤ d → d < 16 → t.ready 2 (d - 8) = false) ∧ (16 ≤ d → t.ready 2 (d - 8) = false))
    ∧ ((x.phase = .rampUp ∨ x.phase = .rampDown) → ∃ t, exec (.pdTimeout d) s = .next t ∧ t.flag .BLK_PDSTAT 31 = true ∧ t.pds = s.pds
      ∧ (s.clk.held = false → s.flag (.FC_SCFG 122) 8 = false → t.latched 122 = true)
      ∧ s.regsKept t (fun q => q == .BLK_PDSTAT || q == .FC_SSTAT 122 || noticeReg q)))
  ∧ (∀ (s : State) (g : Nat), g < 1024 → s.clk.running = false → exec (.pwrBudgetAccept g) s = .next s)
  ∧ (∀ (s : State) (g : Nat), g < 1024 → s.clk.running = true → ∃ t, exec (.pwrBudgetAccept g) s = .next t ∧ t.budget = g
      ∧ s.regsBecome t [(.AP_STAT, setBit (s.rd .AP_STAT) 30 (s.flag .AP_STAT 30 || decide (t.apBudget < s.apUse)))])

/-- The memories (R66, R245, R249, R251, R253): the end of a clear in a domain that is on leaves every byte of the memory 0 and its
ready bit set, every other byte as it was; a kept memory reports ready unchanged. SM_CLRREQ asks to clear its banks, or is
refused with STATE and sets REFUSED where a bank holds code or a slice in use or is not powered; SM_PDCTL sets its fields
likewise. A word owed from the latest DMA write of its bank is replayed to memory and counted, any other is not; a write-back drops the word's error mark; a bank returns to retention.
Choices of the model that it rests on: log entry 13. -/
def Obligations.MemoryClearsAndRepairs : Prop :=
  (∀ (s : State) (m : MemUnit), s.hasMem m = true → s.inOrder = true →
    let lo := (memRange m).1
    let n := (memRange m).2
    (s.clears.contains m = true → (s.pd (memDomain m)).phase = .on → s.clk.held = false → ∃ t, exec (.memoryClearEnd m) s = .next t ∧ t.clears.contains m = false
      ∧ t.ready (memReadyBit m).1 (memReadyBit m).2 = true
      ∧ ∀ b, memGet t.mem b = if lo ≤ b ∧ b < lo + n then 0 else memGet s.mem b)
    ∧ ((s.pd (memDomain m)).phase = .on → s.clk.held = false → s.clears.contains m = false → (∀ b, m = .bank b → s.apWaits (.bank b) = false) →
      s.ready (memReadyBit m).1 (memReadyBit m).2 = false →
      ∃ t, exec (.keptMemoryReady m) s = .next t ∧ t.ready (memReadyBit m).1 (memReadyBit m).2 = true ∧ t.mem = s.mem))
  ∧ (∀ (s : State) (m : MemUnit), s.hasMem m = true →
    exec (.bankRetentionReturn m) s = .next { s with opened := s.opened.filter (· ≠ m) })
  ∧ (∀ (s : State) (src : Src) (v : Word), s.admits src .SM_CLRREQ v = true →
    (s.clrReqRefused v = false → ∃ t, exec (.smClrreqWrite src v) s = .next t ∧ t.rd .SM_CLRREQ = (s.rd .SM_CLRREQ ||| v)
      ∧ s.accepted t src (fun q => q == .SM_CLRREQ) ∧ t.mem = s.mem
      ∧ ∀ b < 32, bit v b = true → s.clears.contains (.bank b) = true ∨ t.apWaits (.bank b) = true ∨ t.apHolds (.bank b) = true)
    ∧ ((∃ b < 32, bit v b = true ∧ (b < 4 ∨ s.sliceBank b = true ∨ (s.pd (4 + b / 8)).phase ≠ .on)) →
      ∃ t, exec (.smClrreqWrite src v) s = .next t ∧ s.turnedAway t src .state
        ∧ t.flag .SM_PDSTAT 0 = true ∧ t.rd .SM_CLRREQ = s.rd .SM_CLRREQ ∧ t.apWait = s.apWait))
  ∧ (∀ (s : State) (src : Src) (v : Word), s.admits src .SM_PDCTL v = true →
    (s.pdCtlRefused v = false → ∃ t, exec (.smPdctlWrite src v) s = .next t ∧ t.field .SM_PDCTL 0 4 = fld v 0 4
      ∧ s.accepted t src (fun q => q == .SM_PDCTL || q == .BLK_READY 0)
      ∧ (∀ k < 4, bit v k = true → s.flag .SM_PDCTL k = false → (s.pd (4 + k)).phase = .off → (t.pd (4 + k)).phase = .rampUp)
      ∧ (∀ k < 4, bit v k = false → s.flag .SM_PDCTL k = true → (s.pd (4 + k)).phase = .on → (t.pd (4 + k)).phase = .draining))
    ∧ ((∃ q < 4, s.flag .SM_PDCTL q = true ∧ bit v q = false ∧ (q = 0 ∨ ∃ i < 8, s.sliceBank (8 * q + i) = true)) →
      ∃ t, exec (.smPdctlWrite src v) s = .next t ∧ s.turnedAway t src .state ∧ t.flag .SM_PDSTAT 0 = true
        ∧ t.rd .SM_PDCTL = s.rd .SM_PDCTL ∧ t.pds = s.pds))
  ∧ (∀ (s : State) (a : Nat) (d : Word) (strb : BitVec 4), smBase ≤ a → a < smBase + 0x800000 → a % 4 = 0 →
    ((s.bankServed a = false ∨ s.replayOwed a d strb = false) → exec (.collisionReplay a d strb) s = .next s)
    ∧ (s.bankServed a = true → s.replayOwed a d strb = true → s.inOrder = true → (∀ j < 4, s.viewOf (a + j) = none) →
      s.ecc = [] → s.writeBacks = [] →
      ∃ t, exec (.collisionReplay a d strb) s = .next t
      ∧ t.rd .SM_COLLCNT = BitVec.ofNat 32 (min 0xFFFFFFFF ((s.rd .SM_COLLCNT).toNat + 1))
      ∧ s.regsKept t (fun q => q == .SM_COLLCNT || (match q with | .CN_STAT _ => true | _ => false))
      ∧ ∀ b, memGet t.mem b = if a ≤ b ∧ b < a + 4 ∧ bit strb (b - a) = true then BitVec.ofNat 8 (fld d (8 * (b - a)) 8) else memGet s.mem b))
  ∧ (∀ (s : State) (a : Nat), a % 4 = 0 → s.writeBacks.contains a = true →
    ∃ t, exec (.eccWriteBack a) s = .next t ∧ t.eccOf a = none ∧ t.writeBacks.contains a = false ∧ t.mem = s.mem ∧ t.regs = s.regs
      ∧ ∀ b, b / 4 * 4 ≠ a → t.eccOf b = s.eccOf b)

/-! ### Accesses of the host ports -/

namespace Sys2Proof.Spec

/-- Registers whose write does what the access codes of their fields say and nothing more (R12). -/
def plainReg : Reg → Bool
  | .HP_TZ2CFG | .HP_WRMASK _ _ | .HP_PGBIND _ | .AP_WAKEEN | .FC_NCFG | .FC_WIN _ | .FC_SAFEENG _ => true
  | .GZ_CHPROT _ | .GZ_STORMCFG | .TM_PMHI _ | .TM_CONVSEL _ | .TL_DLGRACE _ | .TL_RESETPC _ | .TL_SLOTMAP _ _ | .LV_IDLE _ => true
  | .CN_MAPID _ | .CN_REFID _ | .DB_CTL | .DB_BP _ _ _ | .DB_WP _ _ _ | .DB_TSEL | .DB_VSEL => true
  | _ => false

/-- The value after a write under the access codes of R12: RW and RWB fields take the written value, a 1 clears a W1C bit. -/
def written (r : Reg) (old v : Word) : Word :=
  let a := regAccess r
  ((old &&& ~~~ (a.rw ||| a.rwb)) ||| (v &&& (a.rw ||| a.rwb))) &&& ~~~ (v &&& a.w1c)

end Sys2Proof.Spec

/-- REGISTER_WRITE of a register without a further effect gives it the value its access codes say (R12, R14), and answers OKAY; a
write that a check of R259 turns away changes nothing but the response, REFUSED with its cause, and the record of R275. A
SUBORDINATE_READ of such a register or of memory answers with its bytes, one that a check turns away is REFUSED and recorded
likewise, and one that reaches nothing answers DECERR with zeros; none of them changes anything else. SUBORDINATE_WRITE writes
the strobed bytes of a beat of a scratchpad or of shared memory outside the views, and refuses a register word written in part
with PARTIAL; of two ports that write one register in one cycle both are answered OKAY, and port A's write is the later one
where bit 2 of the offset is 0, port B's where it is 1 (R257, R258, R259, R260, R264).
Choices of the model that it rests on: log entries 54, 55 and 97. -/
def Obligations.RegisterAndMemoryAccess : Prop :=
  (∀ (s : State) (src : Src) (r : Reg) (o : Nat) (v : Word), regOffset r = some o → Spec.plainReg r = true → s.admits src r v = true →
    ∃ t, exec (.registerWrite src o v) s = .next t ∧ s.accepted t src (· == r) ∧ t.rd r = Spec.written r (s.rd r) v ∧ t.mem = s.mem)
  ∧ (∀ (s : State) (p : Nat) (sec : Bool) (o : Nat) (v : Word) (c : Cause), p < 2 → o < 0x40000 → o % 4 = 0 → s.portsServe = true →
    s.writeCheck (.port p sec) o v = .refused c →
    ∃ t, exec (.registerWrite (.port p sec) o v) s = .next t ∧ t.refusedFor (.port p sec) c ∧ t.mem = s.mem ∧ s.sameBeyondResp t
      ∧ s.regsKept t (fun q => q == .HP_REFSTAT p || q == .HP_REFADDR p)
      ∧ (s.flag (.HP_REFSTAT p) 31 = false → t.field (.HP_REFSTAT p) 0 8 = c.code ∧ t.flag (.HP_REFSTAT p) 31 = true
          ∧ t.rd (.HP_REFADDR p) = BitVec.ofNat 32 (o / 8 * 8 + 4))
      ∧ (s.flag (.HP_REFSTAT p) 31 = true → t.rd (.HP_REFSTAT p) = setBit (s.rd (.HP_REFSTAT p)) 30 true
          ∧ t.rd (.HP_REFADDR p) = s.rd (.HP_REFADDR p)))
  ∧ (∀ (s : State) (p : Nat) (sec : Bool) (r : Reg) (o : Nat), p < 2 → regOffset r = some o → Spec.plainReg r = true → s.portsServe = true →
    s.decodeFor (.port p sec) o = .reg r → s.readCheck (.port p sec) o = .ok → o < 0x40000 → (∀ t k, r ≠ .TL_SLOTMAP t k) →
    ∃ d : DWord, exec (.subordinateRead p sec o) s = .next { s with resp := mset s.resp p ⟨.okay, some d⟩ }
      ∧ fld d (if o / 4 % 2 = 1 then 32 else 0) 32 = (s.rd r).toNat)
  ∧ (∀ (s : State) (p : Nat) (sec : Bool) (o : Nat) (c : Cause), p < 2 → o < 0x4000000 → o % 4 = 0 → s.portsServe = true →
    s.readCheck (.port p sec) o = .refused c →
    ∃ t, exec (.subordinateRead p sec o) s = .next t ∧ t.refusedFor (.port p sec) c ∧ s.sameBeyondResp t
      ∧ s.regsKept t (fun q => q == .HP_REFSTAT p || q == .HP_REFADDR p)
      ∧ (s.flag (.HP_REFSTAT p) 31 = false → t.field (.HP_REFSTAT p) 0 8 = c.code ∧ t.flag (.HP_REFSTAT p) 31 = true
          ∧ t.rd (.HP_REFADDR p) = BitVec.ofNat 32 (o / 8 * 8)))
  ∧ (∀ (s : State) (p : Nat) (sec : Bool) (a : Nat), p < 2 →
    ((∃ t < 8, s.hasTile t = true ∧ spBase t ≤ a ∧ a < spBase t + 0x80000)
      ∨ (smBase ≤ a ∧ a < smBase + 0x800000 ∧ ∀ j < 8, s.viewOf (a / 8 * 8 + j) = none)) →
    s.portsServe = true → s.memIsReady a = true → s.ecc = [] → s.blk ≠ 5 →
    (exec (.subordinateRead p sec a) s
        = .next { s with resp := mset s.resp p ⟨.okay, some (BitVec.ofNat 64 (Spec.num (memBytes s.mem (a / 8 * 8) 8)))⟩ })
    ∧ (∀ (d : DWord) (strb : BitVec 8), s.writeBacks = [] → s.allIdle = true → (∀ g < 8, s.editState g = 0) → s.inOrder = true →
      ∃ u, exec (.subordinateWrite p sec a ⟨d, none⟩ strb) s = .next u ∧ u.okayed (.port p sec) ∧ u.regs = s.regs
        ∧ ∀ b, memGet u.mem b = if a / 8 * 8 ≤ b ∧ b < a / 8 * 8 + 8 ∧ bit strb (b % 8) = true
            then BitVec.ofNat 8 (fld d (8 * (b % 8)) 8) else memGet s.mem b))
  ∧ (∀ (s : State) (p : Nat) (sec : Bool) (o : Nat), p < 2 → o < 0x4000000 → s.portsServe = true →
    s.decodeFor (.port p sec) (o / 4 * 4) = .decerr →
    exec (.subordinateRead p sec o) s = .next { s with resp := mset s.resp p ⟨.decerr, some 0⟩ })
  ∧ (∀ (s : State) (p : Nat) (sec : Bool) (r : Reg) (o : Nat) (d : DWord) (strb : BitVec 8), p < 2 → o < 0x40000 → s.portsServe = true →
    s.decodeFor (.port p sec) (o / 8 * 8) = .reg r → o / 0x1000 ≠ 0x3F → fld strb 0 4 ≠ 0 → fld strb 0 4 ≠ 15 →
    ∃ t, exec (.subordinateWrite p sec o ⟨d, none⟩ strb) s = .next t ∧ t.refusedFor (.port p sec) .partialStrobe ∧ s.sameBeyondResp t
      ∧ s.regsKept t (fun q => q == .HP_REFSTAT p || q == .HP_REFADDR p))
  ∧ (∀ (s : State) (seca secb : Bool) (r : Reg) (o : Nat) (va vb : Word), regOffset r = some o → Spec.plainReg r = true →
    s.admits (.port 0 seca) r va = true → s.admits (.port 1 secb) r vb = true →
    let hi := o / 4 % 2 = 1
    let beat := fun (v : Word) => (BitVec.ofNat 64 (if hi then v.toNat * 2 ^ 32 else v.toNat) : DWord)
    let strb : BitVec 8 := if hi then 0xF0 else 0x0F
    let first := Spec.written r (s.rd r) (if hi then va else vb)
    (s.wr r first).admits (if hi then .port 1 secb else .port 0 seca) r (if hi then vb else va) = true →
    ∃ t, exec (.subordinateWrite 0 seca o ⟨(beat va), (some ⟨secb, beat vb, strb⟩)⟩ strb) s = .next t
      ∧ t.okayed (.port 0 seca) ∧ t.okayed (.port 1 secb) ∧ t.rd r = Spec.written r first (if hi then vb else va)
      ∧ s.regsKept t (· == r) ∧ s.sameBeyondResp t)

/-- BLK_STATE requests (R55, R57): thread 0 of tile 0 takes BOOT from TEST and TEST from BOOT, RUN ends RECOVER where no record is
latched unacknowledged at CRITICAL and ends the fault reaction; from any other sender, in any other state or with such a
record the request is turned away with STATE and leaves BLK_STATE. The marked write of BLK_BOOTDONE by that thread in BOOT
enters RUN, once: every other write of it is turned away with STATE (R61, R63). A boot pointer is written in BOOT and turned
away with STATE elsewhere; one with bit 0 set in word 0 is an event for that thread (R61, R90).
Choices of the model that it rests on: log entry 49. -/
def Obligations.BlockStateRequests : Prop :=
  let master := fun (src : Src) => match src with | .thread t n _ => t == 0 && n == 0 | _ => false
  let blkRegs := fun (q : Reg) => q == .BLK_STATE || q == .BLK_BOOTDONE || noticeReg q
  (∀ (s : State) (src : Src), s.admits src .BLK_STATE 0x10000 = true → master src = true → s.blk = 3 →
    ∃ t, exec (.blkStateReqBoot src) s = .next t ∧ t.blk = 1 ∧ t.field .BLK_STATE 4 4 = 3 ∧ s.accepted t src blkRegs)
  ∧ (∀ (s : State) (src : Src), s.admits src .BLK_STATE 0x30000 = true → master src = true → s.blk = 1 →
    ∃ t, exec (.blkStateReqTest src) s = .next t ∧ t.blk = 3 ∧ t.field .BLK_STATE 4 4 = 1 ∧ s.accepted t src blkRegs)
  ∧ (∀ (s : State) (src : Src), s.admits src .BLK_STATE 0x20000 = true → s.blk = 4 → s.unacked 3 = false →
    ∃ t, exec (.blkStateReqRun src) s = .next t ∧ t.blk = 2 ∧ t.field .BLK_STATE 4 4 = 4 ∧ t.okayed src
      ∧ t.flag .FC_RSTAT 0 = false ∧ t.flag .FC_RSTAT 1 = false)
  ∧ (∀ (s : State) (src : Src), s.admits src .BLK_STATE 0x10000 = true → (master src = false ∨ s.blk ≠ 3) →
    ∃ t, exec (.blkStateReqBoot src) s = .next t ∧ s.turnedAway t src .state ∧ t.rd .BLK_STATE = s.rd .BLK_STATE)
  ∧ (∀ (s : State) (src : Src), s.admits src .BLK_STATE 0x30000 = true → (master src = false ∨ s.blk ≠ 1) →
    ∃ t, exec (.blkStateReqTest src) s = .next t ∧ s.turnedAway t src .state ∧ t.rd .BLK_STATE = s.rd .BLK_STATE)
  ∧ (∀ (s : State) (src : Src), s.admits src .BLK_STATE 0x20000 = true → (s.blk ≠ 4 ∨ s.unacked 3 = true) →
    ∃ t, exec (.blkStateReqRun src) s = .next t ∧ s.turnedAway t src .state ∧ t.rd .BLK_STATE = s.rd .BLK_STATE)
  ∧ (∀ (s : State) (src : Src) (v : Word), s.admits src .BLK_BOOTDONE v = true → master src = true → fld v 16 16 = 0x5EA1 → s.lockOpen = true →
    ∃ t, exec (.blkBootdoneWrite src v) s = .next t ∧ t.flag .BLK_BOOTDONE 0 = true ∧ t.blk = 2 ∧ t.field .BLK_STATE 4 4 = 1
      ∧ t.lockOpen = false ∧ s.accepted t src (fun q => blkRegs q || q == .UP_IF || q == .UP_STAT || match q with | .UP_VER _ => true | _ => false))
  ∧ (∀ (s : State) (src : Src) (v : Word), s.admits src .BLK_BOOTDONE v = true →
    (master src = false ∨ fld v 16 16 ≠ 0x5EA1 ∨ s.lockOpen = false) →
    ∃ t, exec (.blkBootdoneWrite src v) s = .next t ∧ s.turnedAway t src .state ∧ t.rd .BLK_BOOTDONE = s.rd .BLK_BOOTDONE ∧ t.blk = s.blk)
  ∧ (∀ (s : State) (src : Src) (k : Nat) (v : Word), k < 2 → s.admits src (.BLK_BOOTPTR k) v = true →
    (s.blk = 1 → ∃ t, exec (.blkBootptrWrite src k v) s = .next t ∧ t.rd (.BLK_BOOTPTR k) = Spec.written (.BLK_BOOTPTR k) (s.rd (.BLK_BOOTPTR k)) v
      ∧ s.accepted t src (fun q => q == .BLK_BOOTPTR k || q == .TH_EVPEND 0 0)
      ∧ t.rd (.TH_EVPEND 0 0) = (if k = 0 ∧ bit (t.rd (.BLK_BOOTPTR 0)) 0 = true then setBit (s.rd (.TH_EVPEND 0 0)) 11 true
          else s.rd (.TH_EVPEND 0 0)))
    ∧ (s.blk ≠ 1 → ∃ t, exec (.blkBootptrWrite src k v) s = .next t ∧ s.turnedAway t src .state
      ∧ t.rd (.BLK_BOOTPTR k) = s.rd (.BLK_BOOTPTR k)))

/-- A free semaphore goes to the port that writes 1, of two in one cycle to port A if its number is even and to port B if odd,
the other refused with SEMAPHORE; a held one stays its holder's and is refused to the other; its holder's 0 frees it and sets
EVIN[20] of every thread, another's 0 is refused (R265). HP_SEMBRK by a host or DBGACC frees every semaphore it names (R266).
A mailbox word goes to its backing word, counts its notices there, and pulses its Gauze source (R273). Burst mode asks for 4
grains, or goes on with those it still holds, and leaving it returns them once nothing above the lower limits is outstanding
(R271).
Choices of the model that it rests on: log entries 46, 56 and 97. -/
def Obligations.SemaphoresMailboxAndBurst : Prop :=
  let freed := fun (s t : State) (l : List Nat) =>
    (∀ n < 32, t.rd (.HP_SEM n) = if n ∈ l then 0 else s.rd (.HP_SEM n))
      ∧ (∀ a n, s.hasThread a n = true → t.rd (.TH_EVPEND a n) = if l = [] then s.rd (.TH_EVPEND a n) else setBit (s.rd (.TH_EVPEND a n)) 20 true)
      ∧ s.regsKept t (fun q => guaranteeReg q || match q with | .HP_SEM _ | .TH_EVPEND _ _ => true | _ => false)
  (∀ (s : State) (p n : Nat), n < 32 → p < 2 →
    (s.admits (.port p false) (.HP_SEM n) 1 = true → s.flag (.HP_SEM n) 0 = false →
      ∃ t, exec (.hpSemAcquire p ⟨n, false⟩) s = .next t ∧ t.okayed (.port p false) ∧ s.sameBeyondResp t ∧ s.regsBecome t [(.HP_SEM n, BitVec.ofNat 32 (256 * (p + 1) + 1))])
    ∧ (s.admits (.port p false) (.HP_SEM n) 1 = true → s.flag (.HP_SEM n) 0 = true → s.field (.HP_SEM n) 8 2 ≠ p + 1 →
      ∃ t, exec (.hpSemAcquire p ⟨n, false⟩) s = .next t ∧ t.refusedFor (.port p false) .semaphore ∧ t.rd (.HP_SEM n) = s.rd (.HP_SEM n))
    ∧ (s.admits (.port p false) (.HP_SEM n) 1 = true → s.flag (.HP_SEM n) 0 = true → s.field (.HP_SEM n) 8 2 = p + 1 →
      ∃ t, exec (.hpSemAcquire p ⟨n, false⟩) s = .next t ∧ t.okayed (.port p false) ∧ t.regs = s.regs ∧ s.sameBeyondResp t)
    ∧ (s.admits (.port 0 false) (.HP_SEM n) 1 = true → s.admits (.port 1 false) (.HP_SEM n) 1 = true → s.flag (.HP_SEM n) 0 = false →
      ∃ t, exec (.hpSemAcquire p ⟨n, true⟩) s = .next t ∧ t.okayed (.port (n % 2) false) ∧ t.refusedFor (.port (1 - n % 2) false) .semaphore
        ∧ t.rd (.HP_SEM n) = BitVec.ofNat 32 (256 * (n % 2 + 1) + 1)
        ∧ s.regsKept t (fun q => q == .HP_SEM n || q == .HP_REFSTAT (1 - n % 2) || q == .HP_REFADDR (1 - n % 2)) ∧ s.sameBeyondResp t)
    ∧ (s.admits (.port p false) (.HP_SEM n) 0 = true → ¬(s.flag (.HP_SEM n) 0 = true ∧ s.field (.HP_SEM n) 8 2 = p + 1) →
      ∃ t, exec (.hpSemRelease p n) s = .next t ∧ t.refusedFor (.port p false) .semaphore ∧ t.rd (.HP_SEM n) = s.rd (.HP_SEM n))
    ∧ (s.admits (.port p false) (.HP_SEM n) 0 = true → s.flag (.HP_SEM n) 0 = true → s.field (.HP_SEM n) 8 2 = p + 1 →
      ∃ t, exec (.hpSemRelease p n) s = .next t ∧ t.okayed (.port p false) ∧ freed s t [n]))
  ∧ (∀ (s : State) (src : Src) (v : Word), s.admits src .HP_SEMBRK v = true →
    ((∀ a n x, src ≠ .thread a n x) → ∃ t, exec (.hpSembrk src v) s = .next t ∧ t.okayed src
      ∧ freed s t ((List.range 32).filter (fun n => bit v n && s.flag (.HP_SEM n) 0)))
    ∧ ((∃ a n x, src = .thread a n x) → ∃ t, exec (.hpSembrk src v) s = .next t ∧ s.turnedAway t src .state
      ∧ ∀ n, t.rd (.HP_SEM n) = s.rd (.HP_SEM n)))
  ∧ (∀ (s : State) (p k : Nat) (v : Word), k < 64 → p < 2 → s.admits (.port p false) (.MB p k) v = true → s.inOrder = true →
    s.ecc = [] → s.writeBacks = [] → s.blk ≠ 5 →
    let a := smBase + s.field .HP_TZ2CFG 2 14 * 1024 + 512 * p + 4 * k
    (∀ b < 512, s.viewOf (a / 512 * 512 + b) = none) → s.memIsReady a = true → a + 256 < smBase + 0x800000 →
    ∃ t, exec (.tz2MailboxWrite p k v) s = .next t ∧ t.okayed (.port p false) ∧ s.memBecomes t a (leBytes 4 v.toNat
        ++ memBytes s.mem (a + 4) 252 ++ leBytes 4 (s.rd (.MBCOUNT p k) + 1).toNat)
      ∧ t.rd (.MBCOUNT p k) = s.rd (.MBCOUNT p k) + 1
      ∧ s.regsKept t (fun q => q == .MBCOUNT p k || q == .FC_SSTAT 124 || noticeReg q))
  ∧ (∀ (s : State) (src : Src) (p : Nat), p < 2 →
    (s.admits src (.HP_CTL p) 1 = true → s.flag (.HP_CTL p) 0 = false → s.apHolds (.burst p) = false → s.apWaits (.burst p) = false →
      ∃ t, exec (.burstModeRequest src p) s = .next t ∧ s.accepted t src (· == .HP_CTL p) ∧ t.flag (.HP_CTL p) 0 = true
        ∧ t.flag (.HP_CTL p) 1 = s.flag (.HP_CTL p) 1 ∧ t.apWait = s.apWait ++ [⟨.burst p, 4⟩])
    ∧ (s.admits src (.HP_CTL p) 1 = true → s.flag (.HP_CTL p) 0 = false → s.apHolds (.burst p) = true →
      ∃ t, exec (.burstModeRequest src p) s = .next t ∧ s.accepted t src (· == .HP_CTL p) ∧ t.flag (.HP_CTL p) 0 = true
        ∧ t.flag (.HP_CTL p) 1 = true ∧ t.apHolds (.burst p) = true ∧ (t.port p).leaving = false)
    ∧ (s.admits src (.HP_CTL p) 0 = true → s.flag (.HP_CTL p) 0 = true → s.apHolds (.burst p) = true →
      ∃ t, exec (.burstModeLeave src p) s = .next t ∧ s.accepted t src (· == .HP_CTL p) ∧ t.flag (.HP_CTL p) 0 = false
        ∧ t.flag (.HP_CTL p) 1 = false ∧ t.apHolds (.burst p) = s.aboveLimits p ∧ (t.port p).leaving = s.aboveLimits p))

/-! ### Debug -/

/-- DB_THALT halts threads at their boundary into DBGHALT, a WFE or CHWAIT left to execute again and an issued host store, VBIND
or TL_HWROUTE write completed first; a STOPPED thread stays so. DB_TRES resumes them, a member that waited for its release to
that wait, and DB_TSTEP lets them step, refused with STATE where a named thread is not halted (R469, R470). DB_TILE halts every
thread of a tile that is not STOPPED, and resumes those it halted (R472). DB_BLK halts the block in BOOT, RUN, TEST or RECOVER:
it drains, and with no manager transaction left it enters HALT; RESUME returns to the state before, each group that is not
IDLE marked with DBG and RETIME; either is refused with STATE elsewhere (R226, R476, R477). DB_CHABORT discards a halted
thread's partial message (R475).
Choices of the model that it rests on: log entries 50 and 51. -/
def Obligations.DebugHalts : Prop :=
  let one := fun (n : Nat) => (BitVec.ofNat 32 (2 ^ n) : Word)
  (∀ (s : State) (src : Src) (t n : Nat), n < 16 → s.admits src (.DB_THALT t) (one n) = true → s.ready 2 t = true →
    (s.thState t n < 4 → (s.thread t n).wait.completes = false →
      ∃ u, exec (.dbThalt src t (one n)) s = .next u ∧ u.okayed src ∧ u.thState t n = 4
        ∧ (u.thread t n).wait = (if (s.thread t n).wait = .release then .release else .none)
        ∧ u.field (.DB_HSTAT t n) 29 3 = 1 ∧ u.rd (.TH_PC t n) = s.rd (.TH_PC t n) ∧ (∀ k, u.g t n k = s.g t n k)
        ∧ ((∀ g < 8, s.gState g ≠ 3) → ∀ m < 16, m ≠ n → u.thState t m = s.thState t m))
    ∧ (s.thState t n < 4 → (s.thread t n).wait.completes = true →
      ∃ u, exec (.dbThalt src t (one n)) s = .next u ∧ u.okayed src ∧ (u.thread t n).haltReq = true
        ∧ (u.thread t n).wait = (s.thread t n).wait ∧ u.regs = s.regs)
    ∧ (s.thState t n = 5 → ∃ u, exec (.dbThalt src t (one n)) s = .next u ∧ u.okayed src ∧ u.thState t n = 5))
  ∧ (∀ (s : State) (src : Src) (t n : Nat), n < 16 →
    (s.admits src (.DB_TRES t) (one n) = true → s.thState t n = 4 → (s.thread t n).wait = .none →
      ∃ u, exec (.dbTres src t (one n)) s = .next u ∧ u.okayed src ∧ u.thState t n = min 1 (s.thread t n).haltedFrom
        ∧ u.rd (.TH_PC t n) = s.rd (.TH_PC t n))
    ∧ (s.admits src (.DB_TRES t) (one n) = true → s.thState t n = 4 → (s.thread t n).wait = .release → (∀ g < 8, s.gState g ≠ 3) →
      ∃ u, exec (.dbTres src t (one n)) s = .next u ∧ u.okayed src ∧ u.thState t n = 2 ∧ (u.thread t n).wait = .release)
    ∧ (s.admits src (.DB_TRES t) (one n) = true → s.thState t n ≠ 4 →
      ∃ u, exec (.dbTres src t (one n)) s = .next u ∧ u.refusedFor src .state ∧ u.threads = s.threads)
    ∧ (s.admits src (.DB_TSTEP t) (one n) = true → s.thState t n = 4 →
      ∃ u, exec (.dbTstep src t (one n)) s = .next u ∧ u.okayed src ∧ (u.thread t n).stepping = true
        ∧ u.thState t n = if (s.thread t n).wait = .release then 2 else 1)
    ∧ (s.admits src (.DB_TSTEP t) (one n) = true → s.thState t n ≠ 4 →
      ∃ u, exec (.dbTstep src t (one n)) s = .next u ∧ u.refusedFor src .state ∧ u.threads = s.threads))
  ∧ (∀ (s : State) (src : Src) (t : Nat), s.admits src (.DB_TILE t) 1 = true → s.ready 2 t = true →
    (∀ n < 16, (s.thread t n).wait.completes = false) →
    ∃ u, exec (.dbTileHalt src t) s = .next u ∧ u.okayed src
      ∧ ∀ n < 16, u.thState t n = (if s.thState t n = 5 then 5 else 4)
          ∧ (s.thState t n ≠ 4 → s.thState t n ≠ 5 → u.field (.DB_HSTAT t n) 29 3 = 6 ∧ (u.thread t n).byTile = true))
  ∧ (∀ (s : State) (src : Src) (t : Nat), s.admits src (.DB_TILE t) 2 = true → (∀ n < 16, (s.thread t n).wait = .none) →
    ∃ u, exec (.dbTileResume src t) s = .next u ∧ u.okayed src
      ∧ ∀ n < 16, u.thState t n = (if s.thState t n = 4 ∧ (s.thread t n).byTile = true then min 1 (s.thread t n).haltedFrom else s.thState t n))
  ∧ (∀ (s : State) (src : Src), s.admits src .DB_BLK 1 = true →
    ((1 ≤ s.blk ∧ s.blk ≤ 4) → ∃ u, exec (.dbBlkHalt src) s = .next u ∧ s.accepted u src (· == .DB_BLK) ∧ u.flag .DB_BLK 3 = true)
    ∧ (¬(1 ≤ s.blk ∧ s.blk ≤ 4) → ∃ u, exec (.dbBlkHalt src) s = .next u ∧ u.refusedFor src .state ∧ u.rd .DB_BLK = s.rd .DB_BLK))
  ∧ (∀ s : State, s.flag .DB_BLK 3 = true →
    (1 ≤ s.blk → s.blk ≤ 4 → s.managersIdle = true →
      ∃ u, exec .blockHaltComplete s = .next u ∧ u.blk = 7 ∧ u.field .BLK_STATE 4 4 = s.blk ∧ u.flag .DB_BLK 3 = false ∧ u.flag .DB_BLK 2 = true
        ∧ u.threads = s.threads ∧ u.mem = s.mem)
    ∧ (s.managersIdle = false → exec .blockHaltComplete s = .next s))
  ∧ (∀ (s : State) (src : Src), s.admits src .DB_BLK 2 = true →
    (s.blk = 7 → ∃ u, exec (.dbBlkResume src) s = .next u ∧ u.okayed src ∧ u.blk = s.field .BLK_STATE 4 4 ∧ u.flag .DB_BLK 2 = false
        ∧ u.flag .TB_STAT 0 = false ∧ (∀ g < 8, s.gIdle g = false → u.flag (.SC_DETLOST g) 11 = true ∧ u.flag (.SC_DETLOST g) 1 = true))
    ∧ (s.blk ≠ 7 → ∃ u, exec (.dbBlkResume src) s = .next u ∧ u.refusedFor src .state ∧ u.blk = s.blk))
  ∧ (∀ (s : State) (src : Src) (v : Word), s.admits src .DB_CHABORT v = true →
    let t := fld v 4 3
    let n := fld v 0 4
    (s.hasTile t = true → s.thState t n = 4 →
      ∃ u, exec (.dbChabort src v) s = .next u ∧ u.okayed src ∧ u.flag (.TH_STAT t n) 8 = true ∧ u.thState t n = 4
        ∧ (∀ c, s.reserved t n = some c → (u.chan c).part = [] ∧ (u.chan c).owner = none ∧ (u.chan c).msgs = (s.chan c).msgs))
    ∧ (s.thState t n ≠ 4 → ∃ u, exec (.dbChabort src v) s = .next u ∧ u.refusedFor src .state
        ∧ u.chans = s.chans))

/-- The debug state of a halted thread is read and written through DB_GREG, DB_BITST and DB_VDATA, G0 reading 0 and a written
BITST kept as R141 says, and refused with STATE where the selected thread is not halted or, for DB_VDATA, has no bound context
(R471); for threads the page does not decode (R113). TRST_N resets the TAP; each TCK moves it as IEEE 1149.1 says, through the
registers IDCODE, DBGACC and BYPASS; Update-DR with DBGACC starts the access that GO asks for unless one runs, and its end
leaves result, cause and data for the next capture (R467, R468). None of them changes what it does not name.
Choices of the model that it rests on: log entries 51 and 52. -/
def Obligations.DebugAccessPath : Prop :=
  let off := fun (r : Reg) => (regOffset r).getD 0
  let dbRegs : List Reg := (List.range 32).map (fun k => Reg.DB_GREG k) ++ [.DB_BITST, .DB_VDATA]
  let refRegs := fun (q : Reg) => match q with | .HP_REFSTAT _ | .HP_REFADDR _ => true | _ => false
  (∀ (s : State) (src : Src) (v : Word),
    let t := s.dbSel.1
    let n := s.dbSel.2
    (∀ k < 32, s.admits src (.DB_GREG k) v = true → s.dbOpen = true →
      ∃ u, exec (.debugStateAccess src (off (.DB_GREG k)) true v) s = .next u ∧ u.okayed src ∧ s.regsBecome u (gset t n k v)
        ∧ s.sameBeyondResp u)
    ∧ (s.admits src .DB_BITST v = true → s.dbOpen = true →
      ∃ u, exec (.debugStateAccess src (off .DB_BITST) true v) s = .next u ∧ u.okayed src ∧ s.sameBeyondResp u
        ∧ s.regsBecome u [(.BITST t n, setFld (v &&& 0x0300FF01) 16 4 (min 8 (fld v 16 4)))])
    ∧ (∀ c, s.admits src .DB_VDATA v = true → s.dbOpen = true → s.boundCtx t n = some c →
      let x := s.ctx t c
      ∃ u, exec (.debugStateAccess src (off .DB_VDATA) true v) s = .next u ∧ u.okayed src ∧ u.regs = s.regs
        ∧ { u with resp := s.resp, ctxs := s.ctxs } = s
        ∧ u.ctx t c = x.setV (s.field .DB_VSEL 6 5) (setFld (x.vreg (s.field .DB_VSEL 6 5)) (32 * s.field .DB_VSEL 0 6) 32 v.toNat))
    ∧ (∀ r ∈ dbRegs, s.admits src r v = true → (s.dbOpen = false ∨ (r = .DB_VDATA ∧ s.boundCtx t n = none)) →
      ∃ u, exec (.debugStateAccess src (off r) true v) s = .next u ∧ u.refusedFor src .state ∧ s.regsKept u refRegs ∧ s.sameBeyondResp u))
  ∧ (∀ (s : State) (r : Reg), r ∈ dbRegs → s.portsServe = true →
    let t := s.dbSel.1
    let n := s.dbSel.2
    let shown : Option Word := if s.dbOpen = false then none else match r with
      | .DB_GREG k => some (s.g t n k)
      | .DB_BITST => some (s.rd (.BITST t n))
      | _ => (s.boundCtx t n).map (fun c => ((s.ctx t c).vreg (s.field .DB_VSEL 6 5)).extractLsb' (32 * s.field .DB_VSEL 0 6) 32)
    (s.decodeFor .tap (off r) = .reg r →
      exec (.debugStateAccess .tap (off r) false 0) s = .next { s with resp := mset s.resp 2 (match shown with
        | some w => ⟨.okay, some (w.setWidth 64)⟩
        | none => ⟨.refused, some (BitVec.ofNat 64 Cause.state.code)⟩) })
    ∧ (∀ p < 2, s.decodeFor (.port p true) (off r) = .reg r → ∃ u, exec (.debugStateAccess (.port p true) (off r) false 0) s = .next u
        ∧ s.sameBeyondResp u
        ∧ match shown with
          | some w => u.regs = s.regs
              ∧ ∃ d : DWord, mget u.resp ⟨.decerr, none⟩ p = ⟨.okay, some d⟩ ∧ fld d (if off r / 4 % 2 = 1 then 32 else 0) 32 = w.toNat
          | none => u.refusedFor (.port p true) .state ∧ s.regsKept u refRegs)
    ∧ (∀ p < 2, ∃ u, exec (.debugStateAccess (.port p false) (off r) false 0) s = .next u ∧ s.sameBeyondResp u ∧ s.regsKept u refRegs
        ∧ (s.decodeFor (.port p false) (off r) = .reg r → u.refusedFor (.port p false) .secure)))
  ∧ (∀ (s : State) (a n : Nat) (r : Reg) (w : Bool) (v : Word), r ∈ dbRegs → s.portsServe = true → s.hasThread a n = true → s.thState a n = 1 →
    ∃ u, exec (.debugStateAccess (.thread a n false) (off r) w v) s = .next u ∧ (∀ m < 16, u.thState a m = 5)
      ∧ (s.flag (.TL_FREC a 0) 31 = false → u.rd (.TL_FREC a 0) = BitVec.ofNat 32 (2 ^ 31 + n * 2 ^ 16 + 2 * 2 ^ 8 + 1)))
  ∧ (∀ s : State, ∃ u, exec .trstNAssert s = .next u ∧ u.tap.st = .reset ∧ u.tap.ir = 1 ∧ u.tap.acc = none ∧ u.tap.result = 0
      ∧ { u with tap := s.tap } = s)
  ∧ (∀ (s : State) (tms tdi : Bool), s.clk.porst = true → exec (.tapTckEdge tms tdi) s = .next s)
  ∧ (∀ (s : State) (tms tdi : Bool), s.clk.porst = false →
    let x := s.tap
    let sr := fun (n : Nat) => setBit (x.sh >>> 1) (n - 1) tdi
    let go := tapNext x.st tms = .updDr ∧ x.ir = 8 ∧ x.result ≠ 3 ∧ bit x.sh 0 = true
    ∃ u, exec (.tapTckEdge tms tdi) s = .next u ∧ { u with tap := s.tap } = s ∧ u.tap.st = tapNext x.st tms
      ∧ u.tap.ir = (if u.tap.st = .reset then 1 else if u.tap.st = .updIr then fld u.tap.sh 0 4 else x.ir)
      ∧ (x.st = .capDr → x.ir = 1 → u.tap.sh = 0x35A3338B)
      ∧ (x.st = .capDr → x.ir = 8 → x.cause < 256 → x.result < 4 →
          u.tap.sh.extractLsb' 32 32 = x.data ∧ fld u.tap.sh 24 8 = x.cause ∧ fld u.tap.sh 0 8 = x.result)
      ∧ (x.st = .capDr → x.ir ≠ 1 → x.ir ≠ 8 → u.tap.sh = 0)
      ∧ (x.st = .shDr → u.tap.sh = if x.ir = 1 then sr 32 else if x.ir = 8 then sr 64 else sr 1)
      ∧ (x.st = .capIr → u.tap.sh = 1) ∧ (x.st = .shIr → u.tap.sh = sr 4)
      ∧ (x.st ∉ [TapSt.capDr, .shDr, .capIr, .shIr] → u.tap.sh = x.sh)
      ∧ u.tap.tdo = (if u.tap.st = .shDr ∨ u.tap.st = .shIr then bit u.tap.sh 0 else x.tdo)
      ∧ (go → u.tap.acc = some (bit x.sh 1, 4 * fld x.sh 8 24, x.sh.extractLsb' 32 32) ∧ u.tap.result = 3)
      ∧ (¬go → u.tap.acc = x.acc ∧ u.tap.result = x.result) ∧ u.tap.data = x.data ∧ u.tap.cause = x.cause)
  ∧ (∀ s : State, (s.tap.acc = none ∨ s.portsServe = false) → exec .dbgaccUpdate s = .next s)
  ∧ (∀ s : State, s.portsServe = true →
    (∀ o r v, s.tap.acc = some (false, o, v) → regOffset r = some o → Spec.plainReg r = true → s.decodeFor .tap o = .reg r →
      (∀ t k, r ≠ .TL_SLOTMAP t k) → s.readCheck .tap o = .ok →
      ∃ u, exec .dbgaccUpdate s = .next u ∧ { u with tap := s.tap } = s ∧ u.tap.acc = none ∧ u.tap.result = 0 ∧ u.tap.cause = 0
        ∧ u.tap.data = s.rd r)
    ∧ (∀ o r v, s.tap.acc = some (true, o, v) → regOffset r = some o → Spec.plainReg r = true → s.admits .tap r v = true →
      ∃ u, exec .dbgaccUpdate s = .next u ∧ u.tap.acc = none ∧ u.tap.result = 0 ∧ u.tap.cause = 0
        ∧ s.regsBecome u [(r, Spec.written r (s.rd r) v)] ∧ u.mem = s.mem)
    ∧ (∀ w o v c, s.tap.acc = some (w, o, v) → o % 4 = 0 → o < 0x40000 →
      (if w then s.writeCheck .tap o v else s.readCheck .tap o) = .refused c →
      ∃ u, exec .dbgaccUpdate s = .next u ∧ { u with tap := s.tap } = s ∧ u.tap.acc = none ∧ u.tap.result = 1 ∧ u.tap.cause = c.code
        ∧ u.tap.data = 0)
    ∧ (∀ w o v, s.tap.acc = some (w, o, v) → o % 8 = 0 → s.decodeFor .tap o = .decerr → s.decodeFor .tap (o + 4) = .decerr →
      ∃ u, exec .dbgaccUpdate s = .next u ∧ { u with tap := s.tap } = s ∧ u.tap.acc = none ∧ u.tap.result = 2 ∧ u.tap.cause = 0
        ∧ u.tap.data = 0))

/-! ### Tiles -/

/-- TL_CTL.MAPLOAD judges the shadow map: a map that passes waits for position 0, one that fails sets MAPERR with its code; the
waiting map becomes active whole, on the edge of a cycle in position 0 in which the tile has not issued (R72, R74). START makes
HELD thread 0 ACTIVE at TL_RESETPC (R87); DETM written anew empties caches and branch target buffer (R84); TRST by a host
resets the tile's threads and keeps its scratchpad, engines and store buffer, and is turned away with STATE from a thread
(R96). TL_HWROUTE waits for an empty store buffer, and a thread 0 that wrote it waits with it (R114). A window register drops
what the caches hold of its window (R104). TH_PC takes a value while the thread is HELD or in DBGHALT, and is turned away with
STATE else; TH_CTL takes a class of HELD threads outside running groups, or the class it has, and no class 3 (R77, R102).
Choices of the model that it rests on: log entries 43, 44 and 92. -/
def Obligations.TileControl : Prop :=
  (∀ (s : State) (src : Src) (t : Nat), s.admits src (.TL_CTL t) ((s.rd (.TL_CTL t) &&& 1) ||| 0x40) = true →
    ∃ u, exec (.tlCtlMapload src t) s = .next u ∧ s.accepted u src (fun q => q == .TL_STAT t || q == .TL_CTL t)
      ∧ (s.mapFailure t = 0 → (u.tile t).pendingMap = some (s.shadowMap t) ∧ u.flag (.TL_STAT t) 2 = true)
      ∧ (s.mapFailure t ≠ 0 → (u.tile t).pendingMap = (s.tile t).pendingMap ∧ u.flag (.TL_STAT t) 31 = true
          ∧ u.field (.TL_STAT t) 28 3 = s.mapFailure t)
      ∧ ((∃ i < 16, ∀ j < 4, ((s.shadowMap t).getD ((i + j) % 16) (0, 0)).1 = 1) → s.mapFailure t = 1)
      ∧ (u.tile t).activeMap = (s.tile t).activeMap)
  ∧ (∀ (s : State) (t cycle : Nat), s.hasTile t = true →
    (cycle % 16 ≠ 0 ∨ s.clk.running = false ∨ (s.tile t).pendingMap = none ∨ (∃ c, (s.tile t).lastCycle = some c ∧ cycle ≤ c)) →
    exec (.slotMapActivate ⟨t, cycle⟩) s = .next s)
  ∧ (∀ (s : State) (t cycle : Nat) (m : List (Nat × Nat)), s.hasTile t = true → (s.tile t).pendingMap = some m →
    cycle % 16 = 0 → s.clk.running = true → s.clk.held = false → (∀ c, (s.tile t).lastCycle = some c → c < cycle) →
    ∃ u, exec (.slotMapActivate ⟨t, cycle⟩) s = .next u ∧ (u.tile t).activeMap = m ∧ (u.tile t).pendingMap = none
      ∧ s.regsBecome u [(.TL_STAT t, setBit (s.rd (.TL_STAT t)) 2 false)])
  ∧ (∀ (s : State) (src : Src) (t : Nat), s.admits src (.TL_CTL t) ((s.rd (.TL_CTL t) &&& 1) ||| 0x20) = true →
    ∃ u, exec (.tlCtlStart src t) s = .next u ∧ s.accepted u src (fun q => q == .TH_STAT t 0 || q == .TH_PC t 0 || q == .TL_CTL t)
      ∧ (t ≠ 0 → s.thState t 0 = 0 → u.thState t 0 = 1 ∧ u.rd (.TH_PC t 0) = s.rd (.TL_RESETPC t))
      ∧ ((t = 0 ∨ s.thState t 0 ≠ 0) → u.rd (.TH_STAT t 0) = s.rd (.TH_STAT t 0) ∧ u.rd (.TH_PC t 0) = s.rd (.TH_PC t 0)))
  ∧ (∀ (s : State) (src : Src) (t : Nat) (d : Bool), s.admits src (.TL_CTL t) (if d then 1 else 0) = true →
    ∃ u, exec (.tlCtlDetmWrite src t d) s = .next u ∧ s.accepted u src (· == .TL_CTL t) ∧ u.flag (.TL_CTL t) 0 = d
      ∧ (s.flag (.TL_CTL t) 0 ≠ d → (u.tile t).icache = [] ∧ (u.tile t).dcache = [] ∧ (u.tile t).btb = []))
  ∧ (∀ (s : State) (src : Src) (t : Nat), s.admits src (.TL_CTL t) ((s.rd (.TL_CTL t) &&& 1) ||| 0x80) = true →
    ((∃ a n x, src = .thread a n x) → ∃ u, exec (.tlCtlTrst src t) s = .next u ∧ s.turnedAway u src .state)
    ∧ ((∀ a n x, src ≠ .thread a n x) →
    ∃ u, exec (.tlCtlTrst src t) s = .next u ∧ u.okayed src ∧ (∀ n k, u.g t n k = 0)
      ∧ (∀ n < 16, u.thState t n = if t = 0 ∧ n = 0 then 1 else 0) ∧ (∀ n, u.reserved t n = none)
      ∧ (∀ n, u.rd (.TH_WPERM t n) = s.rd (.TH_WPERM t n)) ∧ u.engines = s.engines
      ∧ ((∀ g < 8, s.gState g ≠ 3) → u.mem = s.mem)
      ∧ (u.tile t).sb = (s.tile t).sb ∧ (∀ c, u.chan (.tile t c) = ⟨none, [], []⟩)))
  ∧ (∀ (s : State) (src : Src) (t : Nat) (v : Word), s.admits src (.TL_HWROUTE t) v = true →
    let w := Spec.written (.TL_HWROUTE t) (s.rd (.TL_HWROUTE t)) v
    ∃ u, exec (.tlHwrouteWrite src t v) s = .next u ∧ s.accepted u src (· == .TL_HWROUTE t)
      ∧ ((s.tile t).sb = [] → u.rd (.TL_HWROUTE t) = w ∧ (u.tile t).hwRoute = none)
      ∧ ((s.tile t).sb ≠ [] → u.rd (.TL_HWROUTE t) = s.rd (.TL_HWROUTE t) ∧ (u.tile t).hwRoute = some w))
  ∧ (∀ (s : State) (t cycle : Nat) (v : Word), s.hasTile t = true → (s.tile t).hwRoute = some v →
    ((s.tile t).sb = [] → (s.thread t 0).wait ≠ .hwRoute →
      ∃ u, exec (.tlHwrouteApply ⟨t, cycle⟩) s = .next u ∧ s.regsBecome u [(.TL_HWROUTE t, v)] ∧ (u.tile t).hwRoute = none)
    ∧ ((s.tile t).sb = [] → (s.thread t 0).wait = .hwRoute → s.thState t 0 ≠ 5 → s.quiet t 0 = true →
      ∃ u, exec (.tlHwrouteApply ⟨t, cycle⟩) s = .next u ∧ u.rd (.TL_HWROUTE t) = v ∧ (u.tile t).hwRoute = none
        ∧ u.thState t 0 = 1 ∧ (u.thread t 0).wait = .none ∧ u.rd (.TH_PC t 0) = s.nextPc t 0)
    ∧ ((s.tile t).sb ≠ [] → exec (.tlHwrouteApply ⟨t, cycle⟩) s = .next s))
  ∧ (∀ (s : State) (src : Src) (t n i : Nat) (v : Word), n < 16 → i < 5 →
    let r := if i = 4 then Reg.TH_HWINHI t n else .TH_HWIN t n i
    s.admits src r v = true →
    ∃ u, exec (.thHwinWrite src t n i v) s = .next u ∧ s.accepted u src (· == r) ∧ u.rd r = Spec.written r (s.rd r) v
      ∧ (∀ x ∈ (u.tile t).dcache ++ (u.tile t).icache, x.1 = n → 0x04000000 ≤ x.2.1.toNat → x.2.1.toNat < 0x05000000 →
          i ≠ 4 ∧ (x.2.1.toNat - 0x04000000) / 0x400000 ≠ i)
      ∧ (∀ x ∈ (s.tile t).dcache, x.1 ≠ n → x ∈ (u.tile t).dcache))
  ∧ (∀ (s : State) (src : Src) (t n : Nat), n < 16 →
    (∀ v, s.admits src (.TH_PC t n) v = true → (s.thState t n = 0 ∨ s.thState t n = 4) →
      ∃ u, exec (.thRegisterWrite src t n 2 v) s = .next u ∧ s.accepted u src (· == .TH_PC t n) ∧ u.rd (.TH_PC t n) = v &&& 0xFFFFFFFC)
    ∧ (∀ v, s.admits src (.TH_PC t n) v = true → s.thState t n ≠ 0 → s.thState t n ≠ 4 →
      ∃ u, exec (.thRegisterWrite src t n 2 v) s = .next u ∧ s.turnedAway u src .state ∧ u.rd (.TH_PC t n) = s.rd (.TH_PC t n))
    ∧ (∀ v, s.admits src (.TH_CTL t n) v = true → fld v 0 2 = 3 →
      ∃ u, exec (.thRegisterWrite src t n 0 v) s = .next u ∧ s.turnedAway u src .state ∧ u.rd (.TH_CTL t n) = s.rd (.TH_CTL t n))
    ∧ (∀ v, s.admits src (.TH_CTL t n) v = true → fld v 0 2 < 3 →
      (fld v 0 2 = s.thClass t n ∨ (s.thState t n = 0 ∧ n ≠ 0 ∧ (fld v 0 2 = 2 → ∀ m < 16, m ≠ n → s.thClass t m ≠ 2) ∧ s.groupsOf t n = [])) →
      ∃ u, exec (.thRegisterWrite src t n 0 v) s = .next u ∧ s.accepted u src (· == .TH_CTL t n) ∧ u.thClass t n = fld v 0 2
        ∧ u.rd (.TH_CTL t n) = Spec.written (.TH_CTL t n) (s.rd (.TH_CTL t n)) v)
    ∧ (∀ i r v, (i = 1 ∨ (3 ≤ i ∧ i < 11)) → regTH t n i = some r → s.admits src r v = true →
      ∃ u, exec (.thRegisterWrite src t n i v) s = .next u ∧ s.accepted u src (· == r) ∧ u.rd r = Spec.written r (s.rd r) v))

/-- The oldest store-buffer entry whose write is outstanding drains on its response, and its write is over; ERR stops the tile
with BUSERR against the storing thread, its PC and host address recorded; in a tile that has stopped, another thread's ERR on
the edge of that fault sets MULTI and keeps the record of the lower thread, and any later one sets SBMORE (R95, R96, R136). A
write response for the last host store of a thread lets it go on four cycles later, for another it waits on, and ERR stops its
tile; an ERR of an entry or a word-7 write sets the error of the queue (R71, R134, R269, R292). A read response frees its
identifier and changes nothing that its data do not (R269); ERR of a poll's reads sets the poll error, a doorbell line's
halfword as before (R295), and ERR of a ring's oldest fetch stops the ring with 0x11 (R292). The deadlock detector sets
DEADLOCK and raises its source once while every running thread waits on what only threads can serve (R101).
Choices of the model that it rests on: log entries 56, 75 and 79. -/
def Obligations.ResponsesAndDeadlock : Prop :=
  let stopped := fun (u : State) (t n : Nat) (pc addr : Word) => (∀ m < 16, u.thState t m = 5)
    ∧ u.field (.TL_FREC t 0) 8 8 = 4 ∧ u.field (.TL_FREC t 0) 16 4 = n ∧ u.rd (.TL_FREC t 1) = pc ∧ u.rd (.TL_FREC t 2) = addr
  let gone := fun (s u : State) (p id : Nat) (w : Bool) => (s.port p).wait = [] → u.mgrFind p id w = none
  (∀ (s : State) (t cycle : Nat) (err : Bool), s.hasTile t = true → (∀ e ∈ (s.tile t).sb, s.entryTxn t e = none) →
    exec (.storeBufferDrain t ⟨err, cycle⟩) s = .next s)
  ∧ (∀ (s : State) (t cycle : Nat) (e : SbEntry) (id : Nat), s.hasTile t = true → t < 8 → e.thread < 16 →
    (s.tile t).sb.find? (fun x => (s.entryTxn t x).isSome) = some e → s.entryTxn t e = some id →
    (∃ u, exec (.storeBufferDrain t ⟨false, cycle⟩) s = .next u ∧ (u.tile t).sb = (s.tile t).sb.erase e ∧ u.mem = s.mem ∧ u.regs = s.regs
      ∧ gone s u e.port id true)
    ∧ ∃ u, exec (.storeBufferDrain t ⟨true, cycle⟩) s = .next u ∧ (u.tile t).sb = (s.tile t).sb.erase e
      ∧ (s.flag (.TL_STAT t) 1 = false → s.flag (.TL_FREC t 0) 31 = false → stopped u t e.thread e.pc (BitVec.ofNat 32 e.addr))
      ∧ (s.flag (.TL_STAT t) 1 = true →
          let m := s.field (.TL_FREC t 0) 16 4
          s.regsKept u (fun q => match q with | .TL_FREC t' _ => t' == t | _ => false)
            ∧ if (s.tile t).faultAt = some cycle ∧ e.thread ≠ m then
                u.flag (.TL_FREC t 0) 30 = true ∧ u.field (.TL_FREC t 0) 16 4 = min m e.thread
              else u.rd (.TL_FREC t 0) = setBit (s.rd (.TL_FREC t 0)) 29 true))
  ∧ (∀ (s : State) (p id cycle : Nat) (x : Txn), p < 2 → id < 64 → s.mgrFind p id true = some x →
    (∀ t e, x.use = .store t → (s.tile t).sb.find? (fun y => y.port == p && y.addr == x.addr && y.bytes == x.data) = some e →
      ∃ u, exec (.managerWriteResponse p id ⟨false, cycle⟩) s = .next u ∧ (u.tile t).sb = (s.tile t).sb.erase e ∧ u.regs = s.regs)
    ∧ (∀ t n left one, x.use = .threadStore t n → (s.thread t n).wait = .hostStore left →
        left.find? (fun y => y.1 == p && y.2.1 == x.addr) = some one → t < 8 → n < 16 →
      (left.length = 1 → s.quiet t n = true → s.thState t n ≠ 5 →
        ∃ u, exec (.managerWriteResponse p id ⟨false, cycle⟩) s = .next u ∧ u.thState t n = 1 ∧ (u.thread t n).wait = .none
          ∧ u.rd (.TH_PC t n) = s.nextPc t n ∧ (u.thread t n).readyAt = max (s.thread t n).readyAt (cycle + 4))
      ∧ (1 < left.length → ∃ u, exec (.managerWriteResponse p id ⟨false, cycle⟩) s = .next u ∧ u.regs = s.regs
          ∧ (u.thread t n).wait = .hostStore (left.erase one))
      ∧ (s.flag (.TL_STAT t) 1 = false → s.flag (.TL_FREC t 0) 31 = false →
        ∃ u, exec (.managerWriteResponse p id ⟨true, cycle⟩) s = .next u ∧ stopped u t n (s.rd (.TH_PC t n)) one.2.2.1))
    ∧ (∀ q r, x.use = .entry q r → ∃ u, exec (.managerWriteResponse p id ⟨true, cycle⟩) s = .next u ∧ u.flag (.RG_CQSTAT p q) 30 = true
        ∧ s.regsKept u (fun y => y == .RG_CQSTAT p q))
    ∧ (∀ r, x.use = .word7 r → ∃ u, exec (.managerWriteResponse p id ⟨true, cycle⟩) s = .next u
        ∧ u.flag (.RG_CQSTAT p (s.field (.RG_CFG p r) 8 6)) 30 = true ∧ s.regsKept u (fun y => y == .RG_CQSTAT p (s.field (.RG_CFG p r) 8 6)))
    ∧ ((∀ t, x.use ≠ .store t) → (∀ t n, x.use ≠ .threadStore t n) →
      ∃ u, exec (.managerWriteResponse p id ⟨false, cycle⟩) s = .next u ∧ u.regs = s.regs ∧ u.mem = s.mem ∧ gone s u p id true))
  ∧ (∀ (s : State) (p id : Nat) (x : Txn), p < 2 → id < 64 → s.mgrFind p id false = some x →
    ((∀ r, x.use = .fetch r → s.readFailed p (.fetch r) = false) →
      ∃ u, exec (.managerReadResponse p id false) s = .next u ∧ u.regs = s.regs ∧ u.mem = s.mem ∧ gone s u p id false)
    ∧ (x.use = .summary →
      ∃ u, exec (.managerReadResponse p id true) s = .next u ∧ u.flag (.RG_PSTAT p) 31 = true ∧ u.mem = s.mem
        ∧ (u.poll p).seen = (s.poll p).seen)
    ∧ (∀ h old, x.use = .doorbells h old → h < (s.poll p).seen.length →
      ∃ u, exec (.managerReadResponse p id true) s = .next u ∧ u.flag (.RG_PSTAT p) 31 = true ∧ u.mem = s.mem
        ∧ (u.poll p).seen = (s.poll p).seen.set h old)
    ∧ (∀ r, x.use = .fetch r → s.readHead p (.fetch r) = some x → (s.ring p r).pref = [] → (s.ring p r).stop = none →
      ∃ u, exec (.managerReadResponse p id true) s = .next u ∧ u.flag (.RG_STAT p r) 30 = true ∧ u.field (.RG_STAT p r) 16 7 = 0x11))
  ∧ (∀ (s : State) (t : Nat), s.hasTile t = true → t < 8 →
    ((s.coresRun = false ∨ s.field (.TL_DLGRACE t) 0 24 = 0 ∨ (s.tile t).dlArmed = false ∨ (∃ n < 16, s.thState t n = 1)
        ∨ (∀ n < 16, s.thState t n = 0 ∨ 4 ≤ s.thState t n)) →
      exec (.deadlockDetected t) s = .next s)
    ∧ (s.coresRun = true → s.field (.TL_DLGRACE t) 0 24 ≠ 0 → (s.tile t).dlArmed = true →
      (∃ n < 16, s.thState t n = 2 ∨ s.thState t n = 3) →
      (∀ n < 16, s.thState t n = 0 ∨ s.thState t n = 4 ∨ s.thState t n = 5
        ∨ (s.apWaits (.thread t n) = false
            ∧ ((s.thState t n = 2 ∧ (∃ g, (s.thread t n).wait = .wfe g)
                  ∧ (s.rd (.TH_EVWE t n) ||| s.rd (.TH_EVIE t n)) &&& 0xFFFF00FF = 0)
              ∨ (s.thState t n = 3 ∧ ((∃ b c, (s.thread t n).wait = .chopen b c) ∨ (∃ b c g, (s.thread t n).wait = .chget b c g))
                  ∧ (s.flag (.TH_CTL t n) 4 = false ∨ s.depth t n ≠ 0 ∨ s.rd (.TH_EVIE t n) &&& 0xFFFF00FF = 0))))) →
      ∃ u, exec (.deadlockDetected t) s = .next u ∧ u.flag (.TL_STAT t) 0 = true ∧ (u.tile t).dlArmed = false
        ∧ (s.flag (.FC_SCFG (8 * t + 1)) 8 = false → u.latched (8 * t + 1) = true)
        ∧ s.regsKept u (fun q => q == .TL_STAT t || q == .FC_SSTAT (8 * t + 1) || noticeReg q)))

/-! ### The scan sequencer and edits -/

/-- RUN = 1 on an IDLE group makes it ARMED while its checks run: the grid, the image and input slice, the slices, the members and
the reservation are judged on the accepting edge, the first that fails giving its code, the owners at the end; a failing
check returns the group to IDLE with its code, else its members wait for the first release and its first pending instant is the
first grid freeze at least 10 us away (R199, R203). RUN = 0 ends the checks, or makes the group STOPPING, whose members leave
from the release wait to HELD at their entry address, and does nothing to an IDLE or STOPPING one; the end of the stop copies
makes it IDLE (R204). Freeze k, when it is the pending instant, gives SC_TFREEZE and SC_SCANNO, flips the input banks and is
EVIN[16] (R205, R207, R90); its release wakes the members at their entry (R160, R211); the commit instant with every member done
flips the output banks and is EVIN[17] (R214), one without is an overrun under the group's policy (R216 to R219). None of these
does anything to a group that is IDLE or whose checks run. The copy at the head of the queue copies its line, and SC_CPYTIME
takes its time: eight lines a cycle once the engine is free, and the wait for the samples (R202, R209).
Choices of the model that it rests on: log entries 26, 85 and 86. -/
def Obligations.ScanSequence : Prop :=
  let entry := fun (s : State) (g n : Nat) => BitVec.ofNat 32 (64 * s.field (.SC_PBASE g) (16 * s.field (.SC_GCTL g) 8 1) 13 + 4 * n)
  let ctlRegs := fun (g : Nat) (q : Reg) => q == .SC_GCTL g || q == .SC_GSTAT g
  (∀ (s : State) (src : Src) (g : Nat) (d : Bool), g < 8 → s.admits src (.SC_GCTL g) (if d then 3 else 1) = true → s.gState g = 0 →
    ∃ u, exec (.scGctlRunStart src g d) s = .next u ∧ s.accepted u src (ctlRegs g)
      ∧ u.gState g = 1 ∧ u.flag (.SC_GCTL g) 0 = true ∧ u.flag (.SC_GCTL g) 1 = d ∧ (u.group g).checking = true
      ∧ (u.group g).verdict =
          (if ¬ (400 ≤ s.field (.SC_PERIOD g) 0 29 ∧ s.field (.SC_PERIOD g) 0 29 ≤ 400000000 ∧ 1 ≤ s.field (.SC_OFFSET g) 0 29
            ∧ s.field (.SC_OFFSET g) 0 29 ≤ s.field (.SC_PERIOD g) 0 29 ∧ s.field (.SC_PHASE g) 0 29 < s.field (.SC_PERIOD g) 0 29
            ∧ 1 ≤ s.field (.SC_FREEZELAT g) 0 16 ∧ s.field (.SC_FREEZELAT g) 0 16 < s.field (.SC_OFFSET g) 0 29) then 1
          else if s.field .SC_IMGSIZE 0 9 = 0 ∨ s.field (.SC_ISLICE g) 16 15 = 0 then 2
          else if s.slicesOk g = false then 3 else if s.membersOk g = false then 4
          else if s.flag (.AP_RSV g) 30 = false ∧ s.field (.AP_RSV g) 0 10 ≠ 0 then 6 else 0)
      ∧ u.threads = s.threads ∧ u.mem = s.mem)
  ∧ (∀ (s : State) (g : Nat), g < 8 → s.seqRuns = true → (s.group g).checking = true → s.gState g = 1 →
    let code := if (s.group g).verdict ≠ 0 ∧ (s.group g).verdict ≠ 6 then (s.group g).verdict
      else if s.ownersOk g = false then 5 else (s.group g).verdict
    (1 ≤ code → code ≤ 6 → (s.group g).stopCopies = false →
      ∃ u, exec (.scanStartChecksEnd g) s = .next u ∧ u.gState g = 0 ∧ u.field (.SC_GSTAT g) 12 4 = code ∧ u.flag (.SC_GSTAT g) 4 = true
        ∧ u.flag (.SC_GCTL g) 0 = false ∧ s.regsKept u (fun q => ctlRegs g q || q == .SC_EDITSTAT g) ∧ u.threads = s.threads)
    ∧ (code = 0 → 0 < s.field (.SC_PERIOD g) 0 29 →
      ∃ u, exec (.scanStartChecksEnd g) s = .next u ∧ u.gState g = 1 ∧ (u.group g).checking = false
        ∧ (∃ k, (u.group g).pend = s.freezeAt g k ∧ s.now + 16000 ≤ s.freezeAt g k ∧ ∀ j < k, s.freezeAt g j < s.now + 16000)
        ∧ u.field (.SC_GSTAT g) 16 16 = 0
        ∧ (s.field (.SC_PERIOD g) 0 29 % 2 = 0 → u.rd (.SC_DETLOST g) = 0) ∧ (s.field (.SC_PERIOD g) 0 29 % 2 = 1 → u.flag (.SC_DETLOST g) 11 = true)
        ∧ ∀ t n, s.hasThread t n = true → s.isMember g t n = true → u.thState t n = 2 ∧ (u.thread t n).wait = .release))
  ∧ (∀ (s : State) (src : Src) (g : Nat) (d : Bool), g < 8 → s.admits src (.SC_GCTL g) (if d then 2 else 0) = true →
    let left := fun (u : State) => ∀ t n, s.hasThread t n = true → s.isMember g t n = true → s.thState t n = 2 →
      (s.thread t n).wait = .release → u.thState t n = 0 ∧ (u.thread t n).wait = .none ∧ u.rd (.TH_PC t n) = entry s g n
    ((s.gState g = 0 ∨ s.gState g = 3) → ∃ u, exec (.scGctlRunStop src g d) s = .next u ∧ s.accepted u src (· == .SC_GCTL g)
      ∧ u.flag (.SC_GCTL g) 1 = d ∧ u.gState g = s.gState g)
    ∧ (s.gState g = 1 → (s.group g).checking = true → ∃ u, exec (.scGctlRunStop src g d) s = .next u ∧ u.okayed src ∧ u.gState g = 0
      ∧ u.flag (.SC_GCTL g) 0 = false)
    ∧ (s.gState g = 1 → (s.group g).checking = false → ∃ u, exec (.scGctlRunStop src g d) s = .next u ∧ u.okayed src
      ∧ (u.gState g = 0 ∨ u.gState g = 3) ∧ u.flag (.SC_GCTL g) 0 = false ∧ left u)
    ∧ (∀ k, (s.gState g = 2 ∨ s.gState g = 4 ∨ s.gState g = 5) → (s.group g).checking = false → (s.group g).scan = some k →
      ∃ u, exec (.scGctlRunStop src g d) s = .next u ∧ u.gState g = 3 ∧ u.flag (.SC_GCTL g) 0 = false ∧ (u.group g).scan = some k
        ∧ s.accepted u src (fun q => ctlRegs g q || match q with | .TH_STAT _ _ | .TH_PC _ _ => true | _ => false) ∧ left u))
  ∧ (∀ (s : State) (g : Nat), g < 8 → s.seqRuns = true → s.ecc = [] → (s.group g).stopCopies = true →
    ∃ u, exec (.stopCopiesEnd g) s = .next u ∧ u.gState g = 0 ∧ u.flag (.SC_GCTL g) 0 = false ∧ (u.group g).stopCopies = false
      ∧ (∀ j ∈ u.copies, j.group ≠ g) ∧ u.threads = s.threads
      ∧ s.regsKept u (fun q => ctlRegs g q || q == .SC_EDITSTAT g || q == .SC_CPYTIME g))
  ∧ (∀ (s : State) (g : Nat) (levels : BitVec 512), g < 8 → (s.gState g = 0 ∨ (s.group g).checking = true) →
    exec (.scanFreeze g levels) s = .next s ∧ exec (.scanRelease g) s = .next s ∧ exec (.scanCommit g) s = .next s)
  ∧ (∀ (s : State) (g : Nat) (levels : BitVec 512), g < 8 → s.ecc = [] → s.seqRuns = true → (s.gState g = 1 ∨ s.gState g = 2) →
    (s.group g).checking = false → s.seqHeld g = false → (s.group g).late = .none → (s.group g).restoring = false →
    s.mirrored g = false → s.mirror.takeover = [] → 0 < s.field (.SC_PERIOD g) 0 29 → s.freezeDue g = true → s.commitDue g = false →
    (s.group g).pend + 8 < 2 ^ 64 →
    let k := s.nextFreeze g
    ∃ u, exec (.scanFreeze g levels) s = .next u ∧ u.gState g = 2 ∧ u.rd (.SC_SCANNO g) = BitVec.ofNat 32 k
      ∧ (u.rd (.SC_TFREEZE g 1)).toNat * 2 ^ 32 + (u.rd (.SC_TFREEZE g 0)).toNat = s.freezeAt g k ∧ s.freezeAt g k = (s.group g).pend
      ∧ u.now = (if s.now < (s.group g).pend then s.now + ((s.group g).pend - s.now + 7) / 8 * 8 else s.now)
      ∧ (u.group g).latest = k ∧ (u.group g).frozen = some k ∧ (s.group g).pend < (u.group g).pend ∧ (u.group g).iSwap = !(s.group g).iSwap
      ∧ ∀ t n, s.hasThread t n = true → u.flag (.TH_EVPEND t n) 16 = true ∧ u.thState t n = s.thState t n)
  ∧ (∀ (s : State) (g k : Nat), g < 8 → s.seqRuns = true → (s.gState g = 2 ∨ s.gState g = 5) → (s.group g).checking = false →
    (s.group g).frozen = some k → s.mirrored g = false → s.releaseDue g = true → (s.edit g).applying = false →
    ∃ u, exec (.scanRelease g) s = .next u ∧ (u.group g).scan = some k ∧ (u.group g).frozen = none ∧ (u.group g).done = []
      ∧ (∀ t n, s.hasThread t n = true → s.isMember g t n = true → (s.thread t n).wait = .release → s.thState t n = 2 →
          u.thState t n = 1 ∧ (u.thread t n).wait = .none ∧ u.rd (.TH_PC t n) = entry s g n)
      ∧ (s.copiesLate g = true → u.flag (.SC_GSTAT g) 6 = true ∧ u.flag (.SC_DETLOST g) 12 = true)
      ∧ u.mem = s.mem)
  ∧ (∀ (s : State) (g j : Nat), g < 8 → s.ecc = [] → s.seqRuns = true → (s.gState g = 2 ∨ s.gState g = 5) → (s.group g).checking = false →
    (s.group g).begun = true → (s.group g).scan = some j → s.seqHeld g = false → s.commitDue g = true →
    (s.group g).late ≠ .skip → (s.group g).owed = false → s.mirrored g = false → s.mirror.takeover = [] →
    ((∀ t n, s.hasThread t n = true → s.isMember g t n = true → (t, n) ∈ (s.group g).done) →
      ∃ u, exec (.scanCommit g) s = .next u ∧ (u.group g).scan = none ∧ (u.group g).qSwap = !(s.group g).qSwap
        ∧ (u.group g).pubs = (s.group g).pubs + 1 ∧ (u.group g).pubScan = some j ∧ u.field (.SC_GSTAT g) 16 16 = s.field (.SC_GSTAT g) 16 16
        ∧ u.gState g = 2 ∧ ∀ t n, s.hasThread t n = true → u.flag (.TH_EVPEND t n) 17 = true)
    ∧ ((∃ t n, s.hasThread t n = true ∧ s.isMember g t n = true ∧ (t, n) ∉ (s.group g).done) →
      ∃ u, exec (.scanCommit g) s = .next u ∧ (u.group g).scan = some j ∧ (u.group g).qSwap = (s.group g).qSwap
        ∧ (u.group g).late = (if (s.group g).late = .hold then .hold else if s.flag .SC_OVRPOL g then .skip else .hold) ∧ u.gState g = 5
        ∧ u.field (.SC_GSTAT g) 16 16 = min 0xFFFF (s.field (.SC_GSTAT g) 16 16 + 1) ∧ u.flag (.SC_GSTAT g) 5 = true
        ∧ u.flag (.SC_DETLOST g) 0 = true ∧ (s.flag (.FC_SCFG (64 + g)) 8 = false → u.latched (64 + g) = true)))
  ∧ (∀ (s : State) (wait : Nat), wait ≤ 8 → s.copies = [] → exec (.copyEngineCopyEnd wait) s = .next s)
  ∧ (∀ (s : State) (wait g l edge total sampled : Nat) (f : Bool) (rest : List CopyJob), wait ≤ 8 → s.seqRuns = true →
    s.inOrder = true → s.ecc = [] → s.copies = ⟨.input, g, [l], f, edge, total, sampled⟩ :: rest →
    let a := smBase + s.viewBase (if f then .F else .I) + 64 * l
    let b := smBase + s.viewBase (if f then .I else .F) + 64 * l
    let moved := max edge s.copyFree + 2 * ((total + 7) / 8)
    let ends := if sampled = 0 then moved else max moved (edge + 2 * (wait + (sampled + 7) / 8))
    let cycles := min 0xFFFF ((ends - edge) / 2)
    ∃ u, exec (.copyEngineCopyEnd wait) s = .next u ∧ u.copies = rest ∧ s.memBecomes u b (memBytes s.mem a 64) ∧ u.copyFree = ends
      ∧ u.field (.SC_CPYTIME g) 0 16 = cycles ∧ u.field (.SC_CPYTIME g) 16 16 = max cycles (s.field (.SC_CPYTIME g) 16 16)
      ∧ l ∉ u.fDirty ∧ s.regsKept u (· == .SC_CPYTIME g))

/-- While every group is IDLE a layout within the limits that fits shared memory is accepted, and else LAYOUTERR sets and it is
turned away with STATE (R222). SC_OWNDATA writes the entry at SC_OWNPTR, which moves on, and is turned away with OWNERR while a
fill runs or where it would change an entry of an output slice of a group that is not IDLE (R212, R223); SC_OWNFILL fills a
range that its end makes visible, and is turned away with OWNERR while a fill runs, for no words, or beyond the Q view (R223).
EDIT_ARM arms a READY package whose target is to come and whose applier fits, and in an IDLE group swaps at once; it is turned
away with cause 0x7 for a target that has passed, 0x8 for an applier that does not fit, and 0x9 in a STOPPING group or without a
READY package (R236, R238). CANCEL returns an armed edit to READY and does nothing to another; SC_EDITTGT can be written in
READY and MISSED alone (R236). The applier's end makes the edit APPLIED; a record of a general register replaces the bits that
its mask names, and an ownership record sets its entry of SC_OWN (R233, R234, R237).
Choices of the model that it rests on: log entry 99. -/
def Obligations.ScanConfigurationAndEdits : Prop :=
  (∀ (s : State) (src : Src) (v : Word),
    let w := s.rd .SC_IMGSIZE
    let sum := fun (x : Word) => 2 * fld x 0 9 + 2 * fld x 9 9 + fld x 18 8 + fld x 26 6
    let limits := fun (x : Word) => fld x 0 9 ≤ 256 ∧ fld x 9 9 ≤ 256 ∧ fld x 18 8 ≤ 128 ∧ fld x 26 6 ≤ 32
    (s.admits src .SC_IMGBASE v = true → s.allIdle = true → limits w → fld v 12 11 + sum w ≤ 2048 →
      ∃ u, exec (.scImglayoutWrite src false v) s = .next u ∧ s.accepted u src (· == .SC_IMGBASE)
        ∧ u.rd .SC_IMGBASE = Spec.written .SC_IMGBASE (s.rd .SC_IMGBASE) v)
    ∧ (s.admits src .SC_IMGSIZE v = true → s.allIdle = true → limits v → s.field .SC_IMGBASE 12 11 + sum v ≤ 2048 →
      ∃ u, exec (.scImglayoutWrite src true v) s = .next u ∧ s.accepted u src (· == .SC_IMGSIZE)
        ∧ u.rd .SC_IMGSIZE = Spec.written .SC_IMGSIZE (s.rd .SC_IMGSIZE) v)
    ∧ (s.admits src .SC_IMGBASE v = true → (s.allIdle = false ∨ ¬ limits w ∨ 2048 < fld v 12 11 + sum w) →
      ∃ u, exec (.scImglayoutWrite src false v) s = .next u ∧ s.turnedAway u src .state ∧ u.flag .SC_STAT 0 = true
        ∧ u.rd .SC_IMGBASE = s.rd .SC_IMGBASE)
    ∧ (s.admits src .SC_IMGSIZE v = true → (s.allIdle = false ∨ ¬ limits v ∨ 2048 < s.field .SC_IMGBASE 12 11 + sum v) →
      ∃ u, exec (.scImglayoutWrite src true v) s = .next u ∧ s.turnedAway u src .state ∧ u.flag .SC_STAT 0 = true
        ∧ u.rd .SC_IMGSIZE = s.rd .SC_IMGSIZE))
  ∧ (∀ (s : State) (src : Src) (v : Word), s.admits src .SC_OWNDATA v = true →
    let p := s.field .SC_OWNPTR 0 18
    let fixed := (∃ g < 8, s.gState g ≠ 0 ∧ s.inQSlice g (p / 16) = true) ∧ s.ownAt p ≠ BitVec.ofNat 8 (fld v 0 8)
    (s.fill = none → ¬ fixed → ∃ u, exec (.scOwndataWrite src v) s = .next u ∧ s.accepted u src (· == .SC_OWNPTR)
      ∧ u.rd .SC_OWNPTR = BitVec.ofNat 32 ((p + 1) % 2 ^ 18)
      ∧ ∀ i, u.ownAt i = if i = p then BitVec.ofNat 8 (fld v 0 8) else s.ownAt i)
    ∧ ((s.fill ≠ none ∨ fixed) → ∃ u, exec (.scOwndataWrite src v) s = .next u ∧ s.turnedAway u src .state ∧ u.flag .SC_STAT 1 = true
      ∧ u.own = s.own ∧ u.rd .SC_OWNPTR = s.rd .SC_OWNPTR))
  ∧ (∀ (s : State) (src : Src) (v : Word), s.admits src .SC_OWNFILL v = true →
    let n := fld v 0 19
    (s.fill = none → n ≠ 0 → s.allIdle = true → 4 * (s.field .SC_OWNPTR 0 18 + n) ≤ s.viewSize .Q →
      ∃ u, exec (.scOwnfillWrite src v) s = .next u ∧ s.accepted u src (· == .SC_STAT) ∧ u.flag .SC_STAT 2 = true
        ∧ u.fill = some (fld v 24 8, n) ∧ u.own = s.own)
    ∧ ((s.fill ≠ none ∨ n = 0 ∨ s.viewSize .Q < 4 * (s.field .SC_OWNPTR 0 18 + n)) →
      ∃ u, exec (.scOwnfillWrite src v) s = .next u ∧ s.turnedAway u src .state ∧ u.flag .SC_STAT 1 = true ∧ u.fill = s.fill))
  ∧ (∀ (s : State) (b n : Nat), s.fill = some (b, n) →
    let p := s.field .SC_OWNPTR 0 18
    ∃ u, exec .scOwnfillEnd s = .next u ∧ u.fill = none ∧ u.flag .SC_STAT 2 = false ∧ u.rd .SC_OWNPTR = BitVec.ofNat 32 ((p + n) % 2 ^ 18)
      ∧ (∀ i, u.ownAt i = if p ≤ i ∧ i < p + n then BitVec.ofNat 8 b else s.ownAt i)
      ∧ s.regsKept u (fun q => q == .SC_STAT || q == .SC_OWNPTR) ∧ u.mem = s.mem)
  ∧ (∀ (s : State) (src : Src) (g : Nat), g < 8 → s.admits src (.SC_EDITCTL g) 1 = true →
    let tgt := (s.rd (.SC_EDITTGT g 1)).toNat * 2 ^ 32 + (s.rd (.SC_EDITTGT g 0)).toNat
    let fits := applierTime (s.edit g).bytes < 20 * s.field (.SC_FREEZELAT g) 0 16
    (s.editState g = 2 → s.gState g = 0 →
      ∃ u, exec (.editArm src g) s = .next u ∧ u.editState g = 3 ∧ u.field (.SC_GCTL g) 8 1 = 1 - s.field (.SC_GCTL g) 8 1
        ∧ u.field (.SC_EDITID g) 0 16 = s.field (.SC_EDITID g) 16 16 ∧ (u.edit g).applying = true
        ∧ s.accepted u src (fun q => q == .SC_EDITSTAT g || q == .SC_GCTL g || q == .SC_EDITID g || match q with | .TH_EVPEND _ _ => true | _ => false)
        ∧ ∀ t n, s.hasThread t n = true → s.isMember g t n = true → u.flag (.TH_EVPEND t n) 22 = true)
    ∧ (s.editState g = 2 → s.gState g ≠ 0 → s.gState g ≠ 3 → (s.group g).latest < tgt → fits →
      ∃ u, exec (.editArm src g) s = .next u ∧ s.accepted u src (· == .SC_EDITSTAT g) ∧ u.editState g = 3)
    ∧ (s.editState g = 2 → s.gState g ≠ 0 → s.gState g ≠ 3 → tgt ≤ (s.group g).latest →
      ∃ u, exec (.editArm src g) s = .next u ∧ s.turnedAway u src .state ∧ u.editState g = 2 ∧ u.field (.SC_EDITSTAT g) 12 4 = 7)
    ∧ (s.editState g = 2 → s.gState g ≠ 0 → s.gState g ≠ 3 → (s.group g).latest < tgt → ¬ fits →
      ∃ u, exec (.editArm src g) s = .next u ∧ s.turnedAway u src .state ∧ u.editState g = 2 ∧ u.field (.SC_EDITSTAT g) 12 4 = 8)
    ∧ ((s.editState g ≠ 2 ∨ s.gState g = 3) →
      ∃ u, exec (.editArm src g) s = .next u ∧ s.turnedAway u src .state ∧ u.field (.SC_EDITSTAT g) 12 4 = 9))
  ∧ (∀ (s : State) (src : Src) (g : Nat), g < 8 → s.admits src (.SC_EDITCTL g) 2 = true →
    ∃ u, exec (.editCancel src g) s = .next u ∧ s.accepted u src (· == .SC_EDITSTAT g)
      ∧ u.editState g = if s.editState g = 3 ∧ (s.edit g).applying = false then 2 else s.editState g)
  ∧ (∀ (s : State) (src : Src) (g i : Nat) (v : Word), g < 8 → i < 2 → s.admits src (.SC_EDITTGT g i) v = true →
    ((s.editState g = 2 ∨ s.editState g = 5) →
      ∃ u, exec (.scEdittgtWrite src g i v) s = .next u ∧ s.accepted u src (fun q => q == .SC_EDITTGT g i || q == .SC_EDITSTAT g)
        ∧ u.rd (.SC_EDITTGT g i) = Spec.written (.SC_EDITTGT g i) (s.rd (.SC_EDITTGT g i)) v ∧ u.editState g = 2)
    ∧ (s.editState g ≠ 2 → s.editState g ≠ 5 →
      ∃ u, exec (.scEdittgtWrite src g i v) s = .next u ∧ s.turnedAway u src .state ∧ u.rd (.SC_EDITTGT g i) = s.rd (.SC_EDITTGT g i)))
  ∧ (∀ (s : State) (g : Nat), g < 8 → (s.edit g).applying = false → exec (.editApplierEnd g) s = .next s)
  ∧ (∀ (s : State) (g : Nat), g < 8 → (s.edit g).applying = true →
    let p := (s.edit g).bytes
    ∃ u, exec (.editApplierEnd g) s = .next u ∧ u.editState g = 4 ∧ (u.edit g).applying = false
      ∧ s.regsKept u (fun q => match q with | .SC_EDITSTAT _ => true | .G _ _ _ => true | _ => false)
      ∧ (∀ t n k, pkgInits p = 1 → 0 < k → k < 32 → t < 8 → n < 16 →
          initWord p 0 0 = BitVec.ofNat 32 (3 * 2 ^ 30 + t * 2 ^ 27 + n * 2 ^ 23 + k) →
          u.g t n k = (s.g t n k &&& ~~~ initWord p 0 1) ||| (initWord p 0 2 &&& initWord p 0 1))
      ∧ (pkgOwns p = 1 → ∀ i, u.ownAt i = if i = fld (ownRec p 0) 0 18 then BitVec.ofNat 8 (fld (ownRec p 0) 24 8) else s.ownAt i))

/-! ### Rings, doorbells and descriptors -/

namespace Sys2Proof.Spec

/-- A manager-side transaction of port `p` is outstanding or waits, of which `q` holds. -/
def queued (u : State) (p : Nat) (q : Txn → Prop) : Prop := ∃ x ∈ (u.port p).out ++ (u.port p).wait, q x

/-- Descriptor `d` of ring `r` is the only one that the ring has fetched, may be worked on, and its completion can be issued:
the queue holds nothing back and keeps no completion (R281, R302). -/
def workable (s : State) (p r ty : Nat) (d : Desc) : Prop :=
  s.frontOf p r ty = some d ∧ (s.ring p r).pref = [d] ∧ (s.cq p (s.rgCq p r)).kept = [] ∧ s.cqHolds p (s.rgCq p r) = false
    ∧ s.rgBase p r % 4 = 0

/-- From `s` to `u` descriptor `d` has completed with a code and a length: word 7 is on its way to its slot, CI has advanced, and
the queue counts one more entry (R285 to R287). -/
def completes (s u : State) (p r : Nat) (d : Desc) (err len : Nat) : Prop :=
  u.rgCi p r = (s.rgCi p r + 1) % 2 ^ 17 ∧ (u.ring p r).pref = [] ∧ u.field (.RG_CQSTAT p (s.rgCq p r)) 0 17 ≠ s.field (.RG_CQSTAT p (s.rgCq p r)) 0 17
    ∧ queued u p (fun x => x.write = true ∧ x.use = .word7 r ∧ x.addr = s.rgBase p r + 32 * d.idx + 28
        ∧ x.data = leBytes 4 (2 ^ 31 + err * 2 ^ 24 + len))

/-- Nothing in the memory of the block interferes with a transfer: no group runs, no edit is loaded, no error is marked, no word waits for its
write-back, and the views lie inside shared memory. -/
def memoryPlain (s : State) : Prop :=
  s.inOrder = true ∧ s.allIdle = true ∧ s.ecc = [] ∧ s.writeBacks = [] ∧ s.copies = [] ∧ s.viewBase .H + s.viewSize .H ≤ 0x800000
    ∧ ∀ g < 8, s.editState g = 0

end Sys2Proof.Spec

/-- An enable with a valid configuration sets the ring's registers and its first fetch: one read of at most 16 posted descriptors
up to the ring's end; where more are posted than the ring holds it stops with 0x10; an enabled or busy ring and an invalid
configuration are turned away with STATE (R276, R278, R279, R281). A disable completes a begun descriptor with ABORT,
discards what else was fetched, and IDLE follows the last transaction (R280). A queue is enabled while no ring maps to it, and
again, with its configuration, under the rings that it holds; another write is turned away (R279, R292). A poll reads the
summary line; a changed halfword fetches its doorbell line and sets the interval to MIN, else it doubles up to MAX; ERR sets
the poll error (R294, R295). A doorbell line gives every ring its PI, stopping an enabled ring of more posted descriptors than
it holds, and every queue its consumer index (R278, R293), as does a legacy write where it is allowed (R296). Unmasking a
pending vector sends its message (R289). A kick polls at once, or once more after the poll under way; in DOZE it wakes the
block where it may (R48, R448).
Choices of the model that it rests on: log entries 19, 91, 100 and 101. -/
def Obligations.RingsAndDoorbells : Prop :=
  let piOf := fun (s : State) (p r v : Nat) =>
    if s.rgOn p r = true ∧ s.rgSize p r < idxDiff v (s.rgCi p r) ∧ (s.rgStopped p r = true ∨ (s.ring p r).stop.isSome = true) then s.rgPi p r
    else v
  (∀ (s : State) (src : Src) (p r : Nat) (v : Word), p < 2 → r < 256 → s.admits src (.RG_CFG p r) (setBit v 31 true) = true →
    let w := Spec.written (.RG_CFG p r) (s.rd (.RG_CFG p r)) (setBit v 31 true)
    let n := idxDiff (s.rgPi p r) (s.rgCi p r)
    let size := 2 ^ fld w 16 5
    (s.rgOn p r = false → s.flag (.RG_STAT p r) 31 = true → s.ringBad p r w = false →
      (n = 0 →
        ∃ u, exec (.ringEnable src p r v) s = .next u ∧ s.accepted u src (fun q => q == .RG_CFG p r || q == .RG_STAT p r || q == .RG_PI p r)
          ∧ u.rd (.RG_CFG p r) = w ∧ u.flag (.RG_STAT p r) 30 = false ∧ (u.ring p r).fetchPos = s.rgCi p r ∧ (u.ring p r).pref = []
          ∧ u.ports = s.ports)
      ∧ (0 < n → n ≤ size → s.ringsRun = true → s.cqHolds p (fld w 8 6) = false →
        ∃ u, exec (.ringEnable src p r v) s = .next u ∧ s.accepted u src (fun q => q == .RG_CFG p r || q == .RG_STAT p r || q == .RG_PI p r)
          ∧ u.rd (.RG_CFG p r) = w ∧ (u.ring p r).asked = min (min n 16) (size - s.rgCi p r % size) ∧ u.flag (.RG_STAT p r) 31 = false
          ∧ u.rgOn p r = true
          ∧ Spec.queued u p (fun x => x.write = false ∧ x.use = .fetch r ∧ x.addr = s.rgBase p r + 32 * (s.rgCi p r % size)))
      ∧ (size < n →
        ∃ u, exec (.ringEnable src p r v) s = .next u ∧ u.okayed src ∧ u.rd (.RG_CFG p r) = w ∧ u.flag (.RG_STAT p r) 30 = true
          ∧ u.field (.RG_STAT p r) 16 7 = 0x10))
    ∧ ((s.rgOn p r = true ∨ s.flag (.RG_STAT p r) 31 = false ∨ s.ringBad p r w = true) →
      ∃ u, exec (.ringEnable src p r v) s = .next u ∧ s.turnedAway u src .state ∧ u.rd (.RG_CFG p r) = s.rd (.RG_CFG p r))
    ∧ ((fld w 24 3 = 7 ∨ fld w 16 5 < 4 ∨ 16 < fld w 16 5) → s.ringBad p r w = true))
  ∧ (∀ (s : State) (src : Src) (p r : Nat), p < 2 → r < 256 → s.admits src (.RG_CFG p r) (setBit (s.rd (.RG_CFG p r)) 31 false) = true →
    s.rgOn p r = true →
    (((s.ring p r).pref.head?.all (fun d => !d.begun && d.moved == 0)) = true →
      ∃ u, exec (.ringDisable src p r) s = .next u ∧ u.rd (.RG_CFG p r) = setBit (s.rd (.RG_CFG p r)) 31 false
        ∧ u.flag (.RG_STAT p r) 31 = (!u.rgBusy p r) ∧ (u.ring p r).pref = [] ∧ (u.ring p r).asked = 0 ∧ (u.ring p r).stop = none
        ∧ s.accepted u src (fun q => q == .RG_CFG p r || q == .RG_STAT p r || match q with | .CN_STAT _ => true | _ => false))
    ∧ (∀ d rest, (s.ring p r).pref = d :: rest → (d.begun = true ∨ 0 < d.moved) → (s.cq p (s.rgCq p r)).kept = [] →
      s.cqHolds p (s.rgCq p r) = false → s.rgBase p r % 4 = 0 →
      ∃ u, exec (.ringDisable src p r) s = .next u ∧ u.okayed src ∧ u.rd (.RG_CFG p r) = setBit (s.rd (.RG_CFG p r)) 31 false
        ∧ u.flag (.RG_STAT p r) 31 = (!u.rgBusy p r) ∧ Spec.completes s u p r d 0xC d.moved))
  ∧ (∀ (s : State) (p r : Nat), p < 2 → r < 256 →
    (s.rgOn p r = false → s.rgBusy p r = false →
      ∃ u, exec (.ringIdle p r) s = .next u ∧ s.regsBecome u [(.RG_STAT p r, setBit (s.rd (.RG_STAT p r)) 31 true)] ∧ s.sameBeyondRegs u)
    ∧ ((s.rgOn p r = true ∨ s.rgBusy p r = true) → exec (.ringIdle p r) s = .next s))
  ∧ (∀ (s : State) (src : Src) (p q : Nat) (v : Word), p < 2 → q < 64 → s.admits src (.RG_CQCFG p q) (setBit v 31 true) = true →
    let old := s.rd (.RG_CQCFG p q)
    let w := Spec.written (.RG_CQCFG p q) old (setBit v 31 true)
    (s.flag (.RG_CQCFG p q) 31 = false → 4 ≤ fld w 16 5 → fld w 16 5 ≤ 16 →
      (s.cqMapped p q = false → (s.cq p q).kept = [] →
        ∃ u, exec (.cqEnable src p q v) s = .next u ∧ s.accepted u src (fun x => x == .RG_CQCFG p q || x == .RG_CQSTAT p q)
          ∧ u.rd (.RG_CQCFG p q) = w ∧ u.flag (.RG_CQSTAT p q) 30 = false)
      ∧ ((s.cqMapped p q = false ∨ fld old 0 31 = fld w 0 31) →
        ∃ u, exec (.cqEnable src p q v) s = .next u ∧ u.okayed src ∧ u.rd (.RG_CQCFG p q) = w ∧ u.flag (.RG_CQSTAT p q) 30 = false))
    ∧ ((s.flag (.RG_CQCFG p q) 31 = true ∨ fld w 16 5 < 4 ∨ 16 < fld w 16 5 ∨ (s.cqMapped p q = true ∧ fld old 0 31 ≠ fld w 0 31)) →
      ∃ u, exec (.cqEnable src p q v) s = .next u ∧ s.turnedAway u src .state ∧ u.rd (.RG_CQCFG p q) = old))
  ∧ (∀ (s : State) (src : Src) (p q : Nat), p < 2 → q < 64 →
    s.admits src (.RG_CQCFG p q) (setBit (s.rd (.RG_CQCFG p q)) 31 false) = true → s.flag (.RG_CQCFG p q) 31 = true →
    ∃ u, exec (.cqDisable src p q) s = .next u ∧ s.accepted u src (· == .RG_CQCFG p q)
      ∧ u.rd (.RG_CQCFG p q) = setBit (s.rd (.RG_CQCFG p q)) 31 false)
  ∧ (∀ (s : State) (p : Nat), p < 2 →
    let sum := (s.rd (.RG_SUMADDR p 1)).toNat * 2 ^ 32 + (s.rd (.RG_SUMADDR p 0)).toNat
    let asked := fun (u : State) => Spec.queued u p (fun x => x.write = false ∧ x.use = .summary ∧ x.addr = sum)
    let waits := (s.port p).wait.any (fun x => x.use == .summary)
    (s.flag (.RG_PCTL p) 0 = true → waits = false → s.ringsRun = true →
      ∃ u, exec (.doorbellPoll p) s = .next u ∧ u.regs = s.regs ∧ u.mem = s.mem ∧ asked u)
    ∧ ((s.flag (.RG_PCTL p) 0 = false ∨ waits = true ∨ s.ringsRun = false) → exec (.doorbellPoll p) s = .next s)
    ∧ (s.blk ≠ 5 → s.flag (.RG_PCTL p) 0 = true →
      ∃ u, exec (.dbKickEdge p) s = .next u ∧ (u.poll p).interval = s.field (.RG_PCTL p) 14 10 ∧ s.regsKept u (· == .RG_PSTAT p)
        ∧ u.mem = s.mem ∧ (s.polling p = false → s.ringsRun = true → asked u) ∧ (s.polling p = true → (u.poll p).again = true))
    ∧ (s.blk ≠ 5 → s.flag (.RG_PCTL p) 0 = false → exec (.dbKickEdge p) s = .next s)
    ∧ (s.blk = 5 → s.flag .AP_WAKEEN (8 + p) = true →
      ∃ u, exec (.dbKickEdge p) s = .next u ∧ .kick p ∈ u.wakes ∧ { u with wakes := s.wakes } = s)
    ∧ (s.blk = 5 → s.flag .AP_WAKEEN (8 + p) = false → exec (.dbKickEdge p) s = .next s))
  ∧ (∀ (s : State) (p : Nat) (hw : List (BitVec 16)), p < 2 →
    let x := s.poll p
    (∀ err, s.readHead p .summary = none → exec (.summaryLineArrival p hw err) s = .next s)
    ∧ (s.readHead p .summary ≠ none →
      (x.first = false → (∀ h < 20, hw.getD h 0 = x.seen.getD h 0) → s.fullGroups p = [] → s.portActive p = false → x.again = false →
        ∃ u, exec (.summaryLineArrival p hw false) s = .next u ∧ (u.poll p).interval = min (2 * x.interval) (8 * s.field (.RG_PCTL p) 1 13)
          ∧ s.regsKept u (· == .RG_PSTAT p) ∧ u.mem = s.mem)
      ∧ (∀ h < 20, (x.first = true ∨ hw.getD h 0 ≠ x.seen.getD h 0) →
        ∃ u, exec (.summaryLineArrival p hw false) s = .next u ∧ (u.poll p).interval = s.field (.RG_PCTL p) 14 10
          ∧ (u.poll p).seen = (List.range 20).map (fun h => hw.getD h 0) ∧ s.regsKept u (· == .RG_PSTAT p) ∧ u.mem = s.mem
          ∧ Spec.queued u p (fun y => y.write = false ∧ y.use = .doorbells h (x.seen.getD h 0)
              ∧ y.addr = (s.rd (.RG_DBBASE p 1)).toNat * 2 ^ 32 + (s.rd (.RG_DBBASE p 0)).toNat + 64 * h))
      ∧ (∃ u, exec (.summaryLineArrival p hw true) s = .next u ∧ u.flag (.RG_PSTAT p) 31 = true ∧ (u.poll p).seen = x.seen
          ∧ s.regsKept u (· == .RG_PSTAT p) ∧ u.mem = s.mem)))
  ∧ (∀ (s : State) (p h : Nat) (ws : List Word), p < 2 → h < 20 →
    (∀ err, s.lineHead p h = none → exec (.doorbellLineArrival p h ws err) s = .next s)
    ∧ (s.lineHead p h ≠ none → h < 16 →
      ∃ u, exec (.doorbellLineArrival p h ws false) s = .next u ∧ u.mem = s.mem
        ∧ ∀ i < 16,
          let r := 16 * h + i
          let v := fld (ws.getD i 0) 0 17
          u.rgPi p r = (if s.flag (.RG_CFG p r) 30 then s.rgPi p r else piOf s p r v)
          ∧ (s.flag (.RG_CFG p r) 30 = false → s.rgOn p r = true → s.rgSize p r < idxDiff v (s.rgCi p r) → s.rgStopped p r = false →
              (s.ring p r).stop = none → (s.ring p r).pref = [] → (s.ring p r).asked = 0 →
              u.flag (.RG_STAT p r) 30 = true ∧ u.field (.RG_STAT p r) 16 7 = 0x10))
    ∧ (s.lineHead p h ≠ none → 16 ≤ h →
      ∃ u, exec (.doorbellLineArrival p h ws false) s = .next u
        ∧ ((∀ i < 16, s.cqMapped p (16 * (h - 16) + i) = false ∧ (s.cq p (16 * (h - 16) + i)).kept = []) → u.regs = s.regs ∧ u.mem = s.mem)
        ∧ ∀ i < 16,
          let q := 16 * (h - 16) + i
          (u.cq p q).cidx = if s.flag (.RG_CQCFG p q) 30 then (s.cq p q).cidx else fld (ws.getD i 0) 0 17)
    ∧ (∀ x old, s.lineHead p h = some x → x.use = .doorbells h old →
      ∃ u, exec (.doorbellLineArrival p h ws true) s = .next u ∧ u.flag (.RG_PSTAT p) 31 = true
        ∧ (u.poll p).seen = (s.poll p).seen.set h old ∧ s.regsKept u (· == .RG_PSTAT p) ∧ u.mem = s.mem))
  ∧ (∀ (s : State) (src : Src) (p o : Nat) (v : Word), p < 2 → o < 0x500 → o % 4 = 0 → s.srcOk src 0 = true → srcHost src = true →
    s.portsServe = true → s.decodeFor src (0x100000 + 0x10000 * p + o) = .legacy p o →
    s.writeCheck src (0x100000 + 0x10000 * p + o) v = .ok →
    let r := o / 4
    let q := (o - 0x400) / 4
    (o < 0x400 → s.flag (.RG_CFG p r) 30 = true →
      ∃ u, exec (.legacyDoorbellWrite src p o v) s = .next u ∧ u.okayed src ∧ u.rgPi p r = piOf s p r (fld v 0 17) ∧ u.mem = s.mem
        ∧ (s.flag (.RG_PCTL p) 0 = true → (u.poll p).interval = s.field (.RG_PCTL p) 14 10)
        ∧ (s.rgOn p r = false → s.regsKept u (fun y => y == .RG_PI p r || y == .RG_PSTAT p)))
    ∧ (o < 0x400 → s.flag (.RG_CFG p r) 30 = false →
      ∃ u, exec (.legacyDoorbellWrite src p o v) s = .next u ∧ u.refusedFor src .state ∧ u.rgPi p r = s.rgPi p r)
    ∧ (0x400 ≤ o → s.flag (.RG_CQCFG p q) 30 = true →
      ∃ u, exec (.legacyDoorbellWrite src p o v) s = .next u ∧ u.okayed src ∧ (u.cq p q).cidx = fld v 0 17
        ∧ (s.flag (.RG_PCTL p) 0 = true → (u.poll p).interval = s.field (.RG_PCTL p) 14 10))
    ∧ (0x400 ≤ o → s.flag (.RG_CQCFG p q) 30 = false →
      ∃ u, exec (.legacyDoorbellWrite src p o v) s = .next u ∧ u.refusedFor src .state ∧ (u.cq p q).cidx = (s.cq p q).cidx))
  ∧ (∀ (s : State) (src : Src) (p n : Nat), p < 2 → n < 64 → s.admits src (.RG_VECCTL p n) 0 = true →
    let a := (s.rd (.RG_VECADDR p n 1)).toNat * 2 ^ 32 + (s.rd (.RG_VECADDR p n 0)).toNat
    ∃ u, exec (.vectorUnmask src p n) s = .next u ∧ s.accepted u src (· == .RG_VECCTL p n) ∧ u.flag (.RG_VECCTL p n) 0 = false
      ∧ u.flag (.RG_VECCTL p n) 1 = false
      ∧ (s.flag (.RG_VECCTL p n) 1 = false → u.ports = s.ports)
      ∧ (s.flag (.RG_VECCTL p n) 1 = true → a % 4 = 0 →
          Spec.queued u p (fun x => x.write = true ∧ x.use = .message none ∧ x.addr = a ∧ x.data = leBytes 4 (s.rd (.RG_VECDATA p n)).toNat)))

namespace Sys2Proof.Spec

/-- The front descriptor's buffer has been read whole, and its bytes are to come (R282). -/
def whole (s : State) (p r : Nat) (d : Desc) (n : Nat) : Prop :=
  d.asked = d.len ∧ d.moved = 0 ∧ 0 < d.len ∧ s.readIssued p (.ringData r) = d.len ∧ n = d.len

/-- From `s` to `u` the front descriptor has asked for the rest of its buffer, and nothing else has begun (R282). -/
def asks (s u : State) (p r : Nat) (d : Desc) : Prop :=
  (u.ring p r).pref.head? = some { d with begun := true, asked := d.len } ∧ u.regs = s.regs ∧ u.mem = s.mem
    ∧ queued u p (fun x => x.write = false ∧ x.use = .ringData r ∧ x.addr = d.buf + d.asked)

/-- A write of bytes of `bs` to host memory from `a` on is on its way. -/
def sends (u : State) (p r a : Nat) (bs : List Byte) : Prop :=
  queued u p (fun x => x.write = true ∧ x.use = .ringData r ∧ x.addr = a ∧ x.data ≠ [] ∧ x.data = bs.take x.data.length)

end Sys2Proof.Spec

/-- Fetched descriptors are kept in order; one that fails a check of R283 completes with the first code in the order FLAGS, LEN,
TARGET and length 0; an ERR stops the ring with code 0x11 (R281, R283, R292). IMG_IN, MSG_TX and MGMT ask for their buffer first
(R282). IMG_IN writes it to the input view, waiting while a freeze lies before the tagged one's (R297); IMG_OUT waits for its
publication and sends published bytes to its buffer, or completes with STALE (R299); STREAM_TX asks for what the segment has
room for and fills it (R300); STREAM_RX empties it up to LEN or an end-of-record mark (R301, R321); MSG_TX waits for its object,
copies a record into it and requests it, or completes with LEN, TARGET or NOTREADY (R385); MSG_RX takes a record (R382); MGMT
loads an edit package, refusing a bad one with PKG up to its EOP (R284), or waits for room and appends to the mailbox (R466).
Each then completes with its length, and with HOSTERR and the bytes before it where a transfer receives ERR: word 7, a queue
entry, CI advanced (R285 to R287, R290).
Choices of the model that it rests on: log entries 100 and 103. -/
def Obligations.DescriptorTransfers : Prop :=
  (∀ (s : State) (p r : Nat) (ws : List Word), p < 2 → r < 256 →
    (∀ err, s.readHead p (.fetch r) = none → exec (.descriptorArrival p r ws err) s = .next s)
    ∧ (s.readHead p (.fetch r) ≠ none → (s.ring p r).pref = [] → (s.ring p r).stop = none →
      ∃ u, exec (.descriptorArrival p r [] true) s = .next u ∧ u.flag (.RG_STAT p r) 30 = true ∧ u.field (.RG_STAT p r) 16 7 = 0x11
        ∧ u.mem = s.mem)
    ∧ (∀ d : Desc, s.readIssued p (.fetch r) = 32 → s.rgOn p r = true → (s.ring p r).asked = 1 → (s.ring p r).pref = [] →
      d.words = ws → d.idx = (s.ring p r).fetchPos % s.rgSize p r → ws.length = 8 →
      (s.descCheck p r d = 0 →
        ∃ u e, exec (.descriptorArrival p r ws false) s = .next u ∧ (u.ring p r).pref = [e] ∧ e.words = ws ∧ e.idx = d.idx ∧ e.bad = 0
          ∧ e.begun = false ∧ e.moved = 0 ∧ e.asked = 0 ∧ (u.ring p r).fetchPos = ((s.ring p r).fetchPos + 1) % 2 ^ 17 ∧ u.mem = s.mem)
      ∧ (∀ c, s.descCheck p r d = c → c ≠ 0 → (s.cq p (s.rgCq p r)).kept = [] → s.cqHolds p (s.rgCq p r) = false → s.rgBase p r % 4 = 0 →
        ∃ u, exec (.descriptorArrival p r ws false) s = .next u ∧ Spec.completes s u p r d c 0 ∧ u.mem = s.mem))
    ∧ (∀ d : Desc,
      let ty := s.rgType p r
      let flags := 32 ≤ d.flags ∨ (d.tagv = true ∧ 2 ≤ ty)
      let lens := d.buf % 4 ≠ 0 ∨ d.len % 4 ≠ 0 ∨ d.len = 0 ∨ (ty < 2 ∧ 4096 < d.len) ∨ (ty = 5 ∧ d.len < 80)
      (flags → s.descCheck p r d = 7) ∧ (¬ flags → lens → s.descCheck p r d = 6)
        ∧ (¬ flags → ¬ lens → (ty = 2 ∨ ty = 3) → s.descCheck p r d = if (d.w 3).toNat = s.rgUnit p r then 0 else 5)
        ∧ (¬ flags → ¬ lens → ty = 5 → s.descCheck p r d = if d.w 3 = 0 then 0 else 5)))
  ∧ (∀ (s : State) (p r : Nat) (d : Desc) (data : List Byte) (err : Bool), p < 2 → r < 256 → d.asked < d.len →
    (s.frontOf p r 0 = some d → ∃ u, exec (.imgInDescriptor p r data err) s = .next u ∧ Spec.asks s u p r d)
    ∧ (s.frontOf p r 4 = some d → (d.w 3).toNat ∉ (s.can (s.rgUnit p r)).pend →
      ∃ u, exec (.msgTxDescriptor p r data err) s = .next u ∧ Spec.asks s u p r d)
    ∧ (s.frontOf p r 6 = some d → (d.w 3).toNat < 2 ^ 28 → ((s.ring p r).pkgRefused = false ∨ d.sop = true) →
      ∃ u, exec (.mgmtEditDescriptor p r data err) s = .next u ∧ Spec.asks s u p r d)
    ∧ (s.frontOf p r 6 = some d → (d.w 3).toNat / 2 ^ 28 = 1 → d.len ≤ s.mboxFree →
      ∃ u, exec (.mgmtMessageDescriptor p r data err) s = .next u ∧ Spec.asks s u p r d))
  ∧ (∀ (s : State) (p r : Nat) (d : Desc) (data : List Byte), p < 2 → r < 256 → d.scan = none → d.code = 0 →
    (Spec.workable s p r 0 d → Spec.memoryPlain s → Spec.whole s p r d data.length → (d.w 3).toNat + d.len ≤ s.viewSize .F →
      s.rangeReady (smBase + s.viewBase .F + (d.w 3).toNat) d.len = true →
      (∃ u, exec (.imgInDescriptor p r data false) s = .next u ∧ Spec.completes s u p r d 0 d.len
        ∧ s.memBecomes u (smBase + s.viewBase .I + (d.w 3).toNat) data)
      ∧ ∃ u, exec (.imgInDescriptor p r [] true) s = .next u ∧ Spec.completes s u p r d 1 0 ∧ u.mem = s.mem)
    ∧ (∀ err k, s.frontOf p r 0 = some d → d.asked = d.len → s.gIdle (s.rgGroup p r) = false → d.tagv = true → d.deadline = some k →
      (s.group (s.rgGroup p r)).latest + 1 < k → exec (.imgInDescriptor p r data err) s = .next s))
  ∧ (∀ (s : State) (p r rows : Nat) (d : Desc), p < 2 → r < 256 → d.begun = false → d.moved = 0 → d.scan = none → d.code = 0 →
    let g := s.rgGroup p r
    (Spec.workable s p r 1 d → Spec.memoryPlain s → d.tagv = false → 0 < d.len → d.len ≤ 16 * rows →
      (d.w 3).toNat + d.len ≤ s.viewSize .P → s.rangeReady (smBase + s.viewBase .P + (d.w 3).toNat) d.len = true →
      d.deadline.getD 0 < (s.group g).pubs →
      let bs := memBytes s.mem (smBase + s.viewBase .Q + (d.w 3).toNat) d.len
      (∃ u, exec (.imgOutDescriptor p r ⟨rows, none⟩) s = .next u ∧ Spec.completes s u p r d 0 d.len ∧ u.mem = s.mem ∧ Spec.sends u p r d.buf bs)
      ∧ ∀ b, ∃ u, exec (.imgOutDescriptor p r ⟨rows, (some b)⟩) s = .next u ∧ Spec.completes s u p r d 1 (min b d.len) ∧ u.mem = s.mem)
    ∧ (∀ err, s.frontOf p r 1 = some d → d.tagv = false → (s.group g).pubs ≤ d.deadline.getD 0 →
      exec (.imgOutDescriptor p r ⟨rows, err⟩) s = .next s)
    ∧ (∀ err j k, Spec.workable s p r 1 d → d.tagv = true → d.deadline = some k → (s.group g).pubScan = some j → k < j →
      ∃ u, exec (.imgOutDescriptor p r ⟨rows, err⟩) s = .next u ∧ Spec.completes s u p r d 0xA 0 ∧ u.mem = s.mem))
  ∧ (∀ (s : State) (p r : Nat) (d : Desc) (data : List Byte), p < 2 → r < 256 → Spec.workable s p r 2 d →
    let t := s.rgUnit p r / 32
    let e := s.rgUnit p r % 32
    let x := s.engine t e
    let free := 4 * s.segFree t e
    (Spec.memoryPlain s → Spec.whole s p r d data.length → d.len % 4 = 0 → d.len ≤ free → x.txWr < s.segSize t e →
      (∀ k < s.segSize t e, s.dmaWriteRefusal (s.segBase t e true + 4 * k) 4 = none) →
      ∃ u, exec (.streamTxDescriptor p r data false) s = .next u ∧ Spec.completes s u p r d 0 d.len
        ∧ (u.engine t e).txSeg = x.txSeg + d.len / 4
        ∧ (s.field (.FE_SEG t e) 30 2 = 0 → ∀ j < d.len,
            memGet u.mem (s.segBase t e true + 4 * ((x.txWr + j / 4) % s.segSize t e) + j % 4) = data.getD j 0))
    ∧ (s.readFailed p (.ringData r) = false → d.asked < d.len → d.moved ≤ d.asked → d.asked - d.moved < free →
      ((s.ring p r).filling = true ∨ 64 * s.field (.RG_FLOW p r) 16 8 ≤ free) →
      ∃ u, exec (.streamTxDescriptor p r [] false) s = .next u ∧ u.regs = s.regs ∧ u.mem = s.mem
        ∧ (u.ring p r).pref = [{ d with begun := true, asked := d.asked + min (d.len - d.asked) (free - (d.asked - d.moved)) }]
        ∧ Spec.queued u p (fun x => x.write = false ∧ x.use = .ringData r ∧ x.addr = d.buf + d.asked))
    ∧ (d.moved < d.len →
      ∃ u, exec (.streamTxDescriptor p r [] true) s = .next u ∧ Spec.completes s u p r d 1 d.moved ∧ u.mem = s.mem))
  ∧ (∀ (s : State) (p r : Nat) (d : Desc), p < 2 → r < 256 → Spec.workable s p r 3 d → Spec.memoryPlain s →
    let t := s.rgUnit p r / 32
    let e := s.rgUnit p r % 32
    let x := s.engine t e
    0 < s.segSize t e → (∀ j < s.segSize t e, s.rangeReady (s.segBase t e false + 4 * j) 4 = true) →
    (∀ k, x.rxSeg = List.replicate k false ++ [true] → d.moved + 4 * (k + 1) ≤ d.len →
      (∃ u bs, exec (.streamRxDescriptor p r none) s = .next u ∧ Spec.completes s u p r d 0 (d.moved + 4 * (k + 1))
        ∧ (u.engine t e).rxSeg = [] ∧ u.mem = s.mem ∧ bs.length = 4 * (k + 1) ∧ Spec.sends u p r (d.buf + d.moved) bs)
      ∧ ∀ b, ∃ u, exec (.streamRxDescriptor p r (some b)) s = .next u ∧ Spec.completes s u p r d 1 (d.moved + min b (4 * (k + 1)))
          ∧ (u.engine t e).rxSeg = [] ∧ u.mem = s.mem)
    ∧ (∀ m, 0 < m → d.moved + 4 * m = d.len → m ≤ x.rxSeg.length → (x.rxSeg.take m).contains true = false →
      ∃ u, exec (.streamRxDescriptor p r none) s = .next u ∧ Spec.completes s u p r d 0 d.len ∧ (u.engine t e).rxSeg = x.rxSeg.drop m
        ∧ u.mem = s.mem))
  ∧ (∀ (s : State) (p r : Nat) (d : Desc) (data : List Byte), p < 2 → r < 256 →
    let c := s.rgUnit p r
    let n := (d.w 3).toNat
    let rw := fun (i : Nat) => BitVec.ofNat 32 (Spec.num ((data.drop (4 * i)).take 4))
    let k := ceilDiv (dlcBytes (bit (rw 0) 31) (fld (rw 2) 8 4)) 4
    let w2 := (s.objWord n 2 &&& 0xFFFFE0FF) ||| (rw 2 &&& 0x1F00)
    (∀ err, s.frontOf p r 4 = some d → n ∈ (s.can c).pend → exec (.msgTxDescriptor p r data err) s = .next s)
    ∧ (Spec.workable s p r 4 d → Spec.whole s p r d data.length → n ∉ (s.can c).pend →
      (s.inOrder = true → s.canOn c = true → d.len = 16 + 4 * k → s.txRefusal c n (rw 0) (s.objWord n 1) w2 = none →
        ∃ u, exec (.msgTxDescriptor p r data false) s = .next u ∧ Spec.completes s u p r d 0 d.len ∧ (u.can c).pend = (s.can c).pend ++ [n]
          ∧ u.objWord n 0 = rw 0 ∧ u.objWord n 2 = setBit w2 2 true ∧ ∀ j < k, u.objWord n (4 + j) = rw (4 + j))
      ∧ (d.len ≠ 16 + 4 * k →
        ∃ u, exec (.msgTxDescriptor p r data false) s = .next u ∧ Spec.completes s u p r d 6 0 ∧ u.mem = s.mem)
      ∧ (d.len = 16 + 4 * k → s.canOn c = false →
        ∃ u, exec (.msgTxDescriptor p r data false) s = .next u ∧ Spec.completes s u p r d 2 0 ∧ u.mem = s.mem)
      ∧ (d.len = 16 + 4 * k → s.canOn c = true → s.txRefusal c n (rw 0) (s.objWord n 1) w2 ≠ none →
        ∃ u, exec (.msgTxDescriptor p r data false) s = .next u ∧ Spec.completes s u p r d 5 0 ∧ u.mem = s.mem)
      ∧ ∃ u, exec (.msgTxDescriptor p r [] true) s = .next u ∧ Spec.completes s u p r d 1 0 ∧ u.mem = s.mem))
  ∧ (∀ (s : State) (p r : Nat) (d : Desc) (bs : List Byte) (ps : List Nat), p < 2 → r < 256 → Spec.workable s p r 5 d →
    (s.can (s.rgUnit p r)).records = [(bs, ps)] → p ∉ ps → s.msgRxRing (1 - p) (s.rgUnit p r) = false → 0 < bs.length →
    (∃ u, exec (.msgRxDescriptor p r none) s = .next u ∧ Spec.completes s u p r d 0 bs.length ∧ u.mem = s.mem
      ∧ (u.can (s.rgUnit p r)).records = [] ∧ u.field (.CN_STAT (s.rgUnit p r)) 8 6 = 0 ∧ Spec.sends u p r d.buf bs)
    ∧ ∀ b, ∃ u, exec (.msgRxDescriptor p r (some b)) s = .next u ∧ Spec.completes s u p r d 1 (min b bs.length) ∧ u.mem = s.mem)
  ∧ (∀ (s : State) (p r : Nat) (err : Option Nat), p < 2 → r < 256 →
    (s.can (s.rgUnit p r)).records.all (fun x => x.2.contains p) = true → exec (.msgRxDescriptor p r err) s = .next s)
  ∧ (∀ (s : State) (p r : Nat) (d : Desc) (data : List Byte), p < 2 → r < 256 → Spec.workable s p r 6 d → (d.w 3).toNat < 2 ^ 28 →
    let g := fld (d.w 3) 0 3
    (d.sop = true → Spec.whole s p r d data.length →
      (s.editState g ≠ 3 → d.len < 64 →
        (d.eop = false →
          ∃ u, exec (.mgmtEditDescriptor p r data false) s = .next u ∧ Spec.completes s u p r d 0 d.len ∧ u.editState g = 1
            ∧ (u.edit g).bytes = data ∧ (u.edit g).ring = some (p, r) ∧ u.mem = s.mem)
        ∧ (d.eop = true →
          ∃ u, exec (.mgmtEditDescriptor p r data false) s = .next u ∧ Spec.completes s u p r d 0xB d.len ∧ u.editState g = 6
            ∧ u.field (.SC_EDITSTAT g) 12 4 = 1 ∧ u.mem = s.mem))
      ∧ (s.editState g ≠ 3 → 64 ≤ d.len → d.len = pkgSize data → s.headFailure g data = none → s.pkgBlocked g data 0 = false →
        s.pkgFailure g data = none →
        ∃ u, exec (.mgmtEditDescriptor p r data false) s = .next u ∧ Spec.completes s u p r d 0 d.len ∧ u.editState g = 2
          ∧ (u.edit g).bytes = data ∧ u.rd (.SC_EDITTGT g 0) = BitVec.ofNat 32 (pkgField data 8 4))
      ∧ (s.editState g = 3 →
        ∃ u, exec (.mgmtEditDescriptor p r data false) s = .next u ∧ Spec.completes s u p r d 0xB d.len ∧ u.editState g = 3
          ∧ u.field (.SC_EDITSTAT g) 12 4 = 0xB ∧ u.edits = s.edits ∧ u.mem = s.mem))
    ∧ (∀ err, d.sop = false → (s.ring p r).pkgRefused = true →
      ∃ u, exec (.mgmtEditDescriptor p r data err) s = .next u ∧ Spec.completes s u p r d 0xB 0 ∧ u.edits = s.edits ∧ u.mem = s.mem))
  ∧ (∀ (s : State) (p r : Nat) (d : Desc) (data : List Byte), p < 2 → r < 256 → (d.w 3).toNat / 2 ^ 28 = 1 →
    let base := smBase + s.field .UP_MBOX 10 13 * 1024
    (∀ err, s.frontOf p r 6 = some d → s.mboxFree < d.len → exec (.mgmtMessageDescriptor p r data err) s = .next s)
    ∧ (Spec.workable s p r 6 d → Spec.whole s p r d data.length → d.len ≤ s.mboxFree →
      ((∀ o n, o + n ≤ s.mboxSize → s.dmaWriteRefusal (base + o) n = none) → s.ecc = [] → s.writeBacks = [] →
        ∃ u, exec (.mgmtMessageDescriptor p r data false) s = .next u ∧ Spec.completes s u p r d 0 d.len
          ∧ u.rd .UP_MBOXWR = s.rd .UP_MBOXWR + BitVec.ofNat 32 d.len
          ∧ (s.inOrder = true → s.rd .SC_IMGSIZE = 0 → ∀ j < d.len,
              memGet u.mem (base + ((s.rd .UP_MBOXWR).toNat + j) % s.mboxSize) = data.getD j 0))
      ∧ ∃ u, exec (.mgmtMessageDescriptor p r [] true) s = .next u ∧ Spec.completes s u p r d 1 0
          ∧ u.rd .UP_MBOXWR = s.rd .UP_MBOXWR ∧ u.mem = s.mem))

/-! ### Facet engines -/

namespace Sys2Proof.Spec

/-- The instruction that is due: the word at FE_STAT.PC of the active bank (R311). -/
def engWord (s : State) (t e : Nat) : Word := s.eInsn t e (s.field (.FE_STAT t e) 28 4)

/-- The tick takes place: the engine exists and ticks, and an external clock's edge is one that FE_CLK.EDGE selects (R307, R309). -/
def engRuns (s : State) (t e : Nat) (pins : Byte) : Prop := s.hasEngine t e = true ∧ s.eTicks t e = true ∧ s.extEdge t e pins = true

/-- An instruction of opcode `op` begins on the tick: the engine ticks, stands at an instruction, has no swap pending, and the
instruction is valid (R308, R311, R315, R316). -/
def engBegins (s : State) (t e : Nat) (pins : Byte) (op : Nat) : Prop :=
  engRuns s t e pins ∧ (s.engine t e).work = .fresh ∧ s.swapPend t e = false
    ∧ eValid (engWord s t e) (s.eShw t e) = true ∧ eOp (engWord s t e) = op

/-- What no instruction changes but those that name it: SHR, counters, pin registers, FIFOs, clock mode. -/
def engSame (x y : Engine) : Prop :=
  y.shr = x.shr ∧ y.c0 = x.c0 ∧ y.c1 = x.c1 ∧ y.pinout = x.pinout ∧ y.pinoe = x.pinoe ∧ y.tx = x.tx ∧ y.rx = x.rx ∧ y.clkMode = x.clkMode
    ∧ y.clkIdle = x.clkIdle ∧ y.prog = x.prog

/-- The instruction has ended with this tick, and the next one stands at `next`: at once, or after DELAY ticks (R312). -/
def engDone (s u : State) (t e next : Nat) : Prop :=
  let d := fld (engWord s t e) 24 4
  (u.engine t e).npc = next % 16
    ∧ (d = 0 → (u.engine t e).work = .fresh ∧ u.field (.FE_STAT t e) 28 4 = next % 16 ∧ u.field (.FE_STAT t e) 24 3 = 1)
    ∧ (d ≠ 0 → (u.engine t e).work = .delay d ∧ u.field (.FE_STAT t e) 28 4 = s.field (.FE_STAT t e) 28 4 ∧ u.field (.FE_STAT t e) 24 3 = 4)

/-- The instruction goes on with the next tick in state `st`. -/
def engStays (s u : State) (t e st : Nat) (w : EngWork) : Prop :=
  (u.engine t e).work = w ∧ u.field (.FE_STAT t e) 28 4 = s.field (.FE_STAT t e) 28 4 ∧ u.field (.FE_STAT t e) 24 3 = st

/-- A tick of an engine changes, besides the engine, FE_STAT alone; no memory, no other engine. -/
def engOnly (s u : State) (t e : Nat) : Prop :=
  s.regsKept u (· == .FE_STAT t e) ∧ u.mem = s.mem ∧ ∀ a b, (a, b) ≠ (t, e) → u.engine a b = s.engine a b

/-- The clock output after the tick: at its non-idle level in mode 0b10 on every tick and in mode 0b01 on a shift tick, with the
engine's own tick generator (R308 to R310, R314). -/
def engClock (s u : State) (t e : Nat) (shift : Bool) : Prop :=
  (u.engine t e).clkOut = decide (s.flag (.FE_CLK t e) 31 = false
    ∧ ((u.engine t e).clkMode = 2 ∨ ((u.engine t e).clkMode = 1 ∧ shift = true)))

/-- What a tick changes, and its clock output. -/
def engFrame (s u : State) (t e : Nat) (shift : Bool) : Prop := engOnly s u t e ∧ engClock s u t e shift

/-- The engine stalls: nothing moves, and its clock output is idle (R322). -/
def engStalls (s u : State) (t e : Nat) : Prop :=
  engStays s u t e 3 .stalled ∧ engSame (s.engine t e) (u.engine t e) ∧ engOnly s u t e ∧ (u.engine t e).clkOut = false

/-- The levels of the group signals below WIDTH at the tick's midpoint (R309). -/
def engPins (s : State) (t e : Nat) (pins : Byte) : Nat := fld pins 0 (s.eWidth t e)

end Sys2Proof.Spec

/-- One tick of an engine carries out the instruction that begins (R308, R312 to R314, R321, R322): NOP; SHO, SHI and SHX shift SHR by
the shift width, out over the group signals, in from them, or both, tick after tick; PULL takes a TX word, the idle pattern with
UNDERRUN in RUN, or stalls; PUSH gives an RX word with its end-of-record mark, drops it with OVERRUN in RUN, or stalls; a stall
ends, or goes on, on a later tick; WAIT and WAITC wait for a level, an edge, an event or the comparison, tick after tick; SETP
and DIR write the pin registers under their mask; JMP, DJNZ, CLK, EVT. An instruction's delay follows it; an invalid one stops the
engine and raises ENGERR (R315). The clock output runs as the CLK mode says (R310, R314). Where the engine does not tick, or another
instruction begins, nothing changes.
Choices of the model that it rests on: log entry 104. -/
def Obligations.EngineInstructions : Prop :=
  ∀ (s : State) (t e : Nat) (pins : Byte),
    let x := s.engine t e
    let w := Spec.engWord s t e
    let a := fld w 16 8
    let b := fld w 0 16
    let pc := s.field (.FE_STAT t e) 28 4
    let W := 2 ^ s.field (.FE_CFG t e) 30 2
    let msb := s.flag (.FE_CFG t e) 29
    let P := Spec.engPins s t e pins
    let out := fun (v : Byte) => ∀ i < 8, bit v i = if i < W then bit x.shr (if msb then 32 - W + i else i) else bit x.pinout i
    let shifted := if msb then x.shr <<< W else x.shr >>> W
    let taken := if msb then (x.shr <<< W) ||| BitVec.ofNat 32 (P % 2 ^ W) else (x.shr >>> W) ||| (BitVec.ofNat 32 (P % 2 ^ W) <<< (32 - W))
    let equal := decide (x.shr &&& s.rd (.FE_CMPMASK t e) = s.rd (.FE_CMP t e) &&& s.rd (.FE_CMPMASK t e))
    let events := mget s.gz.cnt 0 (512 + 32 * t + e)
    let done := fun (u : State) (y : Engine) => Spec.engDone s u t e (pc + 1) ∧ Spec.engSame y (u.engine t e) ∧ Spec.engFrame s u t e false
    let shift := fun (op n : Nat) (u : State) => ∃ v, (if op = 2 then v = x.pinout else out v)
      ∧ (if n ≤ 1 then Spec.engDone s u t e (pc + 1) else Spec.engStays s u t e 1 (.shifting (n - 1)))
      ∧ Spec.engSame { x with pinout := v, shr := if op = 1 then shifted else taken } (u.engine t e) ∧ Spec.engFrame s u t e true
    let pull := fun (u : State) =>
      (∀ v l, x.tx = v :: l → done u { x with shr := v, tx := l })
      ∧ (x.tx = [] → s.blk = 2 → done u { x with shr := s.rd (.FE_IDLEPAT t e) } ∧ u.flag (.FE_STAT t e) 2 = true)
      ∧ (x.tx = [] → s.blk ≠ 2 → Spec.engStalls s u t e)
    let push := fun (u : State) =>
      (x.rx.length < 8 → done u { x with rx := x.rx ++ [(x.shr, bit w 16)], shr := if bit w 17 then 0 else x.shr })
      ∧ (8 ≤ x.rx.length → s.blk = 2 → done u { x with shr := if bit w 17 then 0 else x.shr } ∧ u.flag (.FE_STAT t e) 3 = true)
      ∧ (8 ≤ x.rx.length → s.blk ≠ 2 → Spec.engStalls s u t e)
    let wait := fun (u : State) =>
      let now := bit pins (a % 8) && decide (a % 8 < s.eWidth t e)
      let old := bit x.sample (a % 8)
      let met := (32 ≤ a ∧ 0 < events) ∨ (a / 8 = 0 ∧ now = false) ∨ (a / 8 = 1 ∧ now = true) ∨ (a / 8 = 2 ∧ now = true ∧ old = false)
        ∨ (a / 8 = 3 ∧ now = false ∧ old = true)
      (met → done u x ∧ mget u.gz.cnt 0 (512 + 32 * t + e) = if 32 ≤ a then events - 1 else events)
      ∧ (¬ met → Spec.engStays s u t e 2 .waiting ∧ Spec.engSame x (u.engine t e) ∧ Spec.engFrame s u t e false)
    let waitc := fun (u : State) =>
      (equal = !bit w 16 → done u x)
      ∧ (equal = bit w 16 → Spec.engStays s u t e 2 .waiting ∧ Spec.engSame { x with shr := if bit w 17 then taken else x.shr } (u.engine t e)
          ∧ Spec.engFrame s u t e (bit w 17))
    (Spec.engBegins s t e pins 0x0 → ∃ u, exec (.engNop t e pins) s = .next u ∧ done u x)
    ∧ (Spec.engBegins s t e pins 0x1 → ∃ u, exec (.engSho t e pins) s = .next u ∧ shift 1 (a + 1) u)
    ∧ (Spec.engBegins s t e pins 0x2 → ∃ u, exec (.engShi t e pins) s = .next u ∧ shift 2 (a + 1) u)
    ∧ (Spec.engBegins s t e pins 0x3 → ∃ u, exec (.engShx t e pins) s = .next u ∧ shift 3 (a + 1) u)
    ∧ (∀ n, Spec.engRuns s t e pins → x.work = .shifting n → 1 ≤ eOp w → eOp w ≤ 3 →
        ∃ u, exec (.engineTick t e pins) s = .next u ∧ shift (eOp w) n u)
    ∧ (Spec.engBegins s t e pins 0x4 → ∃ u, exec (.engPull t e pins) s = .next u ∧ pull u)
    ∧ (Spec.engBegins s t e pins 0x5 → ∃ u, exec (.engPush t e pins) s = .next u ∧ push u)
    ∧ (Spec.engRuns s t e pins → x.work = .stalled →
      (eOp w = 0x4 → ∃ u, exec (.engineStallEnd t e pins) s = .next u ∧ pull u)
      ∧ (eOp w = 0x5 → ∃ u, exec (.engineStallEnd t e pins) s = .next u ∧ push u))
    ∧ (s.hasEngine t e = true → (x.work ≠ .stalled ∨ s.eTicks t e = false ∨ s.extEdge t e pins = false) →
        exec (.engineStallEnd t e pins) s = .next s)
    ∧ (Spec.engBegins s t e pins 0x6 → ∃ u, exec (.engWait t e pins) s = .next u ∧ wait u)
    ∧ (Spec.engBegins s t e pins 0x7 → ∃ u, exec (.engWaitc t e pins) s = .next u ∧ waitc u)
    ∧ (Spec.engRuns s t e pins → x.work = .waiting → s.swapPend t e = false →
      (eOp w = 0x6 → a ≤ 32 → ∃ u, exec (.engineTick t e pins) s = .next u ∧ wait u)
      ∧ (eOp w = 0x7 → a < 4 → ∃ u, exec (.engineTick t e pins) s = .next u ∧ waitc u))
    ∧ (Spec.engBegins s t e pins 0x8 → ∃ u v, exec (.engSetp t e pins) s = .next u ∧ done u { x with pinout := v }
      ∧ ∀ i < 8, bit v i = if i < s.eWidth t e ∧ bit w (16 + i) = true then bit w i else bit x.pinout i)
    ∧ (Spec.engBegins s t e pins 0x9 → ∃ u v, exec (.engDir t e pins) s = .next u ∧ done u { x with pinoe := v }
      ∧ ∀ i < 8, bit v i = if i < s.eWidth t e ∧ bit w (16 + i) = true then bit w i else bit x.pinoe i)
    ∧ (Spec.engBegins s t e pins 0xA →
      let j := decide (P.testBit (s.field (.FE_CFG t e) 20 3))
      let cond := (a = 0 ∨ (a = 1 ∧ equal = true) ∨ (a = 2 ∧ equal = false) ∨ (a = 3 ∧ x.tx = []) ∨ (a = 4 ∧ 8 ≤ x.rx.length)
        ∨ (a = 5 ∧ j = true) ∨ (a = 6 ∧ j = false) ∨ (a = 7 ∧ 0 < events))
      ∃ u, exec (.engJmp t e pins) s = .next u ∧ (cond → Spec.engDone s u t e b) ∧ (¬ cond → Spec.engDone s u t e (pc + 1))
        ∧ Spec.engSame x (u.engine t e) ∧ Spec.engFrame s u t e false)
    ∧ (Spec.engBegins s t e pins 0xB →
      let c := if bit w 16 then x.c1 else x.c0
      let n := s.field (.FE_CNT t e) (if bit w 16 then 16 else 0) 16
      let full := if n = 0 then 65536 else n
      (1 < c → ∃ u, exec (.engDjnz t e pins) s = .next u ∧ Spec.engDone s u t e b ∧ Spec.engFrame s u t e false
        ∧ Spec.engSame (if bit w 16 then { x with c1 := c - 1 } else { x with c0 := c - 1 }) (u.engine t e))
      ∧ (c = 1 → ∃ u, exec (.engDjnz t e pins) s = .next u ∧ done u (if bit w 16 then { x with c1 := full } else { x with c0 := full })))
    ∧ (Spec.engBegins s t e pins 0xC → ∃ u, exec (.engClk t e pins) s = .next u ∧ done u { x with clkMode := a % 4, clkIdle := bit w 18 })
    ∧ (Spec.engBegins s t e pins 0xD → ∃ u, exec (.engEvt t e pins) s = .next u ∧ Spec.engDone s u t e (pc + 1) ∧ Spec.engSame x (u.engine t e)
      ∧ s.regsKept u (fun q => q == .FE_STAT t e || noticeReg q) ∧ u.mem = s.mem ∧ Spec.engClock s u t e false)
    ∧ (s.hasEngine t e = true → (s.eTicks t e = false ∨ s.extEdge t e pins = false) → exec (.engineTick t e pins) s = .next s)
    ∧ (∀ d, Spec.engRuns s t e pins → x.work = .delay d → 2 ≤ d → ∃ u, exec (.engineTick t e pins) s = .next u
        ∧ Spec.engStays s u t e (s.field (.FE_STAT t e) 24 3) (.delay (d - 1)) ∧ Spec.engSame x (u.engine t e) ∧ Spec.engFrame s u t e false)
    ∧ (Spec.engRuns s t e pins → x.work = .delay 1 → x.npc < 16 → ∃ u, exec (.engineTick t e pins) s = .next u ∧ (u.engine t e).work = .fresh
        ∧ u.field (.FE_STAT t e) 28 4 = x.npc ∧ u.field (.FE_STAT t e) 24 3 = 1 ∧ Spec.engSame x (u.engine t e) ∧ Spec.engFrame s u t e false)
    ∧ (Spec.engRuns s t e pins → x.work = .fresh → s.swapPend t e = false → eValid w W = false →
        ∃ u, exec (.engineTick t e pins) s = .next u ∧ (u.engine t e).work = .stopped ∧ u.field (.FE_STAT t e) 24 3 = 5
          ∧ u.flag (.FE_STAT t e) 6 = true ∧ (u.engine t e).clkOut = x.clkOut ∧ Spec.engSame x (u.engine t e)
          ∧ (t < 8 → s.flag (.FC_SCFG (8 * t + 2)) 8 = false → u.latched (8 * t + 2) = true))
    ∧ (∀ c ∈ [(Instr.engNop t e pins, 0x0), (.engSho t e pins, 0x1), (.engShi t e pins, 0x2), (.engShx t e pins, 0x3), (.engPull t e pins, 0x4),
          (.engPush t e pins, 0x5), (.engWait t e pins, 0x6), (.engWaitc t e pins, 0x7), (.engSetp t e pins, 0x8), (.engDir t e pins, 0x9),
          (.engJmp t e pins, 0xA), (.engDjnz t e pins, 0xB), (.engClk t e pins, 0xC), (.engEvt t e pins, 0xD)],
        s.hasEngine t e = true → s.eNextOp t e ≠ some c.2 → exec c.1 s = .next s)

/-- The stream mover moves the oldest RX word into the segment, or into the image window with the count of words, else a segment
word into the TX FIFO; a refused access sets SEGERR and keeps the word (R317 to R321). FE_CTL enables an engine whose
configuration is valid, disables it, flushes its FIFOs while it is off, requests a swap of banks, forces it, and clears the
override latch (R326, R329, R331, R332); the swap takes place at an instruction boundary and the other bank begins at address 0
(R331). The program window writes the bank that WBANK names (R330), refused with PROGERR while that bank runs or a swap waits;
the configuration registers take what their rules allow, and some of them only while the engine is off (R305, R307, R319, R330).
A group of engines waits for one grain, then becomes ready; a cleared bit of TL_ENGGRP gives ready bit and grain back, refused
while an engine of the group is on (R328). What a rule refuses is turned away with STATE.
Choices of the model that it rests on: log entry 18. -/
def Obligations.EngineControl : Prop :=
  (∀ (s : State) (t e : Nat), s.hasEngine t e = true → t < 8 →
    let x := s.engine t e
    let space := s.field (.FE_SEG t e) 30 2
    let plain := space = 0 ∨ (space = 1 ∧ s.rd .SC_IMGSIZE = 0)
    let n := s.segSize t e
    ((s.eReady t e = false ∨ s.engClocks = false) → exec (.streamMoverTurn t e) s = .next s)
    ∧ (s.eReady t e = true → s.engClocks = true → Spec.memoryPlain s →
      (∀ v l, plain → x.rx = v :: l → x.rxSeg.length < s.segWords t e false →
        let a := s.segBase t e false + 4 * x.rxWr
        (s.dmaWriteRefusal a 4 = none →
          ∃ u, exec (.streamMoverTurn t e) s = .next u ∧ s.memBecomes u a (leBytes 4 v.1.toNat) ∧ u.regs = s.regs
            ∧ (u.engine t e).rx = l ∧ (u.engine t e).rxSeg = x.rxSeg ++ [v.2] ∧ (u.engine t e).rxWr = (x.rxWr + 1) % n)
        ∧ (s.dmaWriteRefusal a 4 ≠ none →
          ∃ u, exec (.streamMoverTurn t e) s = .next u ∧ u.mem = s.mem ∧ u.engines = s.engines ∧ u.flag (.FE_STAT t e) 1 = true))
      ∧ (∀ v l, space = 2 → s.flag (.FE_SEG t e) 29 = false → s.segPlaced (s.rd (.FE_SEG t e)) = true → x.rx = v :: l →
        let o := smBase + s.viewBase .I + s.field (.FE_SEG t e) 0 13 * 1024
        let a := o + 4 * (1 + x.winCount % (n - 1))
        s.dmaWriteRefusal (s.segBase t e false) 4 = none → s.dmaWriteRefusal (s.segBase t e false + 4 * (1 + x.winCount % (n - 1))) 4 = none →
        ∃ u, exec (.streamMoverTurn t e) s = .next u ∧ u.regs = s.regs ∧ (u.engine t e).rx = l
          ∧ (u.engine t e).winCount = (x.winCount + 1) % 2 ^ 32
          ∧ ∀ b, memGet u.mem b = if o ≤ b ∧ b < o + 4 then (leBytes 4 ((x.winCount + 1) % 2 ^ 32)).getD (b - o) 0
              else if a ≤ b ∧ b < a + 4 then (leBytes 4 v.1.toNat).getD (b - a) 0 else memGet s.mem b)
      ∧ (plain → x.rx = [] → x.tx.length < 8 → 0 < x.txSeg →
        let a := s.segBase t e true + 4 * x.txRd
        s.rangeReady a 4 = true →
        ∃ u, exec (.streamMoverTurn t e) s = .next u ∧ u.mem = s.mem ∧ u.regs = s.regs
          ∧ (u.engine t e).tx = x.tx ++ [BitVec.ofNat 32 (Spec.num (memBytes s.mem a 4))]
          ∧ (u.engine t e).txSeg = x.txSeg - 1 ∧ (u.engine t e).txRd = (x.txRd + 1) % n)))
  ∧ (∀ (s : State) (src : Src) (t e : Nat), s.admits src (.FE_CTL t e) ((s.rd (.FE_CTL t e) &&& 5) ||| 1) = true → s.eOn t e = false →
    (s.eMayEnable t e = true → ∃ u, exec (.engineEnable src t e) s = .next u
      ∧ s.accepted u src (fun q => q == .FE_CTL t e || q == .FE_STAT t e) ∧ u.flag (.FE_CTL t e) 0 = true
      ∧ u.field (.FE_CTL t e) 1 1 = s.field (.FE_CTL t e) 1 1 ∧ u.field (.FE_STAT t e) 28 4 = 0 ∧ u.field (.FE_STAT t e) 24 3 = 1
      ∧ (u.engine t e).shr = 0 ∧ (u.engine t e).work = .fresh
      ∧ (u.engine t e).c0 = (let n := s.field (.FE_CNT t e) 0 16; if n = 0 then 65536 else n)
      ∧ (u.engine t e).tx = (s.engine t e).tx ∧ (u.engine t e).rx = (s.engine t e).rx)
    ∧ (s.eMayEnable t e = false → ∃ u, exec (.engineEnable src t e) s = .next u ∧ s.turnedAway u src .state
      ∧ u.rd (.FE_CTL t e) = s.rd (.FE_CTL t e) ∧ u.engines = s.engines))
  ∧ (∀ (s : State) (src : Src) (t e : Nat), s.admits src (.FE_CTL t e) (s.rd (.FE_CTL t e) &&& 4) = true → s.eOn t e = true →
    ∃ u, exec (.engineDisable src t e) s = .next u ∧ s.accepted u src (fun q => q == .FE_CTL t e || q == .FE_STAT t e)
      ∧ u.flag (.FE_CTL t e) 0 = false ∧ u.field (.FE_STAT t e) 24 3 = (if s.field (.FE_STAT t e) 24 3 = 5 then 5 else 0)
      ∧ Spec.engSame (s.engine t e) (u.engine t e))
  ∧ (∀ (s : State) (src : Src) (t e : Nat), s.admits src (.FE_CTL t e) ((s.rd (.FE_CTL t e) &&& 5) ||| 0x40) = true →
    (s.eOn t e = false → ∃ u, exec (.engineFlush src t e) s = .next u ∧ s.accepted u src (fun _ => false)
      ∧ Spec.engSame { s.engine t e with tx := [], rx := [] } (u.engine t e))
    ∧ (s.eOn t e = true → ∃ u, exec (.engineFlush src t e) s = .next u ∧ s.turnedAway u src .state ∧ u.engines = s.engines))
  ∧ (∀ (s : State) (src : Src) (t e : Nat), s.admits src (.FE_CTL t e) ((s.rd (.FE_CTL t e) &&& 5) ||| 0x10) = true →
    (s.eOn t e = false → ∃ u, exec (.engineSwap src t e) s = .next u ∧ s.accepted u src (· == .FE_CTL t e)
      ∧ u.field (.FE_CTL t e) 1 1 = 1 - s.field (.FE_CTL t e) 1 1 ∧ u.engines = s.engines)
    ∧ (s.eOn t e = true → ∃ u, exec (.engineSwap src t e) s = .next u ∧ s.accepted u src (· == .FE_STAT t e) ∧ u.swapPend t e = true
      ∧ u.engines = s.engines))
  ∧ (∀ (s : State) (src : Src) (t e : Nat), s.admits src (.FE_CTL t e) ((s.rd (.FE_CTL t e) &&& 5) ||| 0x30) = true → s.eOn t e = true →
    ∃ u, exec (.engineForce src t e) s = .next u ∧ s.accepted u src (· == .FE_STAT t e) ∧ u.swapPend t e = true
      ∧ Spec.engSame (s.engine t e) (u.engine t e) ∧ u.eBoundary t e = true
      ∧ (s.eBoundary t e = false → (u.engine t e).work = .fresh ∧ u.flag (.FE_STAT t e) 4 = true)
      ∧ (s.eBoundary t e = true → (u.engine t e).work = (s.engine t e).work ∧ u.flag (.FE_STAT t e) 4 = s.flag (.FE_STAT t e) 4))
  ∧ (∀ (s : State) (t e : Nat) (pins : Byte), s.hasEngine t e = true →
    let bank := 1 - s.field (.FE_CTL t e) 1 1
    ((s.swapPend t e = false ∨ s.eBoundary t e = false ∨ s.eTicks t e = false ∨ s.extEdge t e pins = false) →
      exec (.engineBankSwap t e pins) s = .next s)
    ∧ (Spec.engRuns s t e pins → s.swapPend t e = true → s.eBoundary t e = true →
      (mget (s.engine t e).prog 0 (16 * bank) = 0 →
        ∃ u, exec (.engineBankSwap t e pins) s = .next u ∧ u.swapPend t e = false ∧ u.field (.FE_CTL t e) 1 1 = bank
          ∧ u.field (.FE_STAT t e) 28 4 = 1 ∧ u.field (.FE_STAT t e) 24 3 = 1 ∧ Spec.engSame (s.engine t e) (u.engine t e)
          ∧ s.regsKept u (fun q => q == .FE_CTL t e || q == .FE_STAT t e))
      ∧ ∃ v u, v.swapPend t e = false ∧ v.field (.FE_CTL t e) 1 1 = bank ∧ v.field (.FE_STAT t e) 28 4 = 0 ∧ (v.engine t e).work = .fresh
          ∧ Spec.engSame (s.engine t e) (v.engine t e) ∧ s.regsKept v (fun q => q == .FE_CTL t e || q == .FE_STAT t e) ∧ v.mem = s.mem
          ∧ exec (.engineTick t e pins) v = .next u ∧ exec (.engineBankSwap t e pins) s = .next u))
  ∧ (∀ (s : State) (src : Src) (t e : Nat), s.admits src (.FE_CTL t e) ((s.rd (.FE_CTL t e) &&& 5) ||| 0x80) = true →
    ∃ u, exec (.engineOvrclr src t e) s = .next u ∧ s.accepted u src (· == .FE_STAT t e)
      ∧ u.rd (.FE_STAT t e) = setBit (s.rd (.FE_STAT t e)) 8 false ∧ u.engines = s.engines)
  ∧ (∀ (s : State) (src : Src) (t e i : Nat) (v : Word), i < 16 → s.admits src (.FE_PROG t e i) v = true →
    let wb := s.field (.FE_CTL t e) 2 1
    ((s.eOn t e = false ∨ (wb ≠ s.field (.FE_CTL t e) 1 1 ∧ s.swapPend t e = false)) →
      ∃ u, exec (.engineProgramWrite src t e i v) s = .next u ∧ s.accepted u src (fun _ => false)
        ∧ (∀ k, mget (u.engine t e).prog 0 k = if k = 16 * wb + i then v else mget (s.engine t e).prog 0 k))
    ∧ (s.eOn t e = true → (wb = s.field (.FE_CTL t e) 1 1 ∨ s.swapPend t e = true) →
      ∃ u, exec (.engineProgramWrite src t e i v) s = .next u ∧ s.turnedAway u src .state ∧ u.flag (.FE_STAT t e) 5 = true
        ∧ u.engines = s.engines))
  ∧ (∀ (s : State) (src : Src) (t e i : Nat) (r : Reg) (v : Word), regFEe t e i = some r → s.admits src r v = true →
    let w := Spec.written r (s.rd r) v
    let ok := (5 ≤ i ∧ i ≤ 9) ∨ (s.eOn t e = false ∧ (i = 2 ∨ i = 11 ∨ (i = 4 ∧ fld w 29 2 ≠ 0 ∧ (bit w 31 = true ∨ 0x400 ≤ fld w 0 26))
        ∨ (i = 3 ∧ fld w 8 6 + fld w 0 4 ≤ 64 ∧ fld w 0 4 ≤ 8 ∧ s.pinsOverlap t e w = false)
        ∨ (i = 10 ∧ s.streamRing t e 2 = false ∧ s.streamRing t e 3 = false ∧ s.segPlaced w = true
            ∧ (bit w 29 = true → fld w 19 7 % 2 = 0 ∧ fld w 30 2 ≠ 2))))
    (ok → ∃ u, exec (.engineConfigWrite src t e i v) s = .next u ∧ s.accepted u src (· == r) ∧ u.rd r = w
      ∧ Spec.engSame (s.engine t e) (u.engine t e))
    ∧ (¬ ok → 2 ≤ i → i ≤ 11 →
      ∃ u, exec (.engineConfigWrite src t e i v) s = .next u ∧ s.turnedAway u src .state ∧ u.rd r = s.rd r ∧ u.engines = s.engines))
  ∧ (∀ (s : State) (src : Src) (t : Nat) (v : Word), t < 8 → s.admits src (.TL_ENGGRP t) v = true →
    let old := s.rd (.TL_ENGGRP t)
    let blocked := ∃ g < 4, bit old g = true ∧ bit v g = false ∧ ∃ k < 8, s.eOn t (8 * g + k) = true
    (¬ blocked → ∃ u, exec (.engineGroupRequest src t v) s = .next u ∧ s.accepted u src (fun q => q == .TL_ENGGRP t || q == .BLK_READY 1)
      ∧ u.field (.TL_ENGGRP t) 0 4 = fld v 0 4
      ∧ ∀ g < 4, (bit v g = true → bit old g = false → u.apHolds (.engGroup (4 * t + g)) = true ∨ u.apWaits (.engGroup (4 * t + g)) = true)
        ∧ (bit v g = false → bit old g = true → u.ready 1 (4 * t + g) = false ∧ u.apHolds (.engGroup (4 * t + g)) = false)
        ∧ (bit v g = bit old g → u.ready 1 (4 * t + g) = s.ready 1 (4 * t + g)
            ∧ u.apHolds (.engGroup (4 * t + g)) = s.apHolds (.engGroup (4 * t + g))))
    ∧ (blocked → ∃ u, exec (.engineGroupRequest src t v) s = .next u ∧ s.turnedAway u src .state ∧ u.rd (.TL_ENGGRP t) = old))
  ∧ (∀ (s : State) (t g : Nat), s.hasTile t = true → t < 8 → g < 4 →
    (s.flag (.TL_ENGGRP t) g = true → s.apHolds (.engGroup (4 * t + g)) = true → s.ready 2 t = true →
      ∃ u, exec (.engineGroupReady t g) s = .next u ∧ u.ready 1 (4 * t + g) = true ∧ s.regsKept u (· == .BLK_READY 1) ∧ s.sameBeyondRegs u)
    ∧ ((s.flag (.TL_ENGGRP t) g = false ∨ s.apHolds (.engGroup (4 * t + g)) = false ∨ s.ready 2 t = false) →
      exec (.engineGroupReady t g) s = .next s))

/-! ### Gauze, timebase and timers -/

namespace Sys2Proof.Spec

/-- Channel `c` is the only configured channel: enabled, its source alone, not inverted and low, its output and its hold 0, and
the storm detector is off (R335, R346). -/
def oneChannel (s : State) (c n : Nat) : Prop :=
  c < 128 ∧ n < 512 ∧ s.gzChans = [c] ∧ s.rd (.GZ_CH c) = BitVec.ofNat 32 (2 ^ 31 + n) ∧ bit s.gz.out c = false ∧ bit s.gz.hold c = false
    ∧ s.srcLevel n = false ∧ s.field .GZ_STORMCFG 16 16 = 0 ∧ s.clk.porst = false

/-- The pin exists: a field pin of the maximum build, or a FAULT_IN pin. -/
def pinExists : GzPin → Prop
  | .fio k => k < 512
  | .fin j => j < 16

/-- The pin takes its level, and nothing else changes. -/
def pinOnly (s : State) (p : GzPin) (l : Bool) : State :=
  match p with
  | .fio k => { s with fioIn := setBit s.fioIn k l }
  | .fin j => { s with finPin := setBit s.finPin j l }

/-- Source `n` is a pin source that shows the pin (R333). -/
def showsPin (s : State) (n : Nat) : GzPin → Prop
  | .fio k => n < 128 ∧ s.pinSel n = k
  | .fin j => n = 128 + j

/-- The block ignores the pin: it lies above the build's range (R5). -/
def pinIgnored (s : State) : GzPin → Prop
  | .fio k => 64 * s.nTiles ≤ k
  | .fin _ => False

end Sys2Proof.Spec

/-- A pin edge reaches the channel that selects the pin: its output rises, its flag sets, and a task input that names it counts one
firing, of at most 3, the next one setting its overflow; an override input sets its engine's latch (R333 to R335, R337, R340). An
edge under PORST_N, of a pin above the build's range, or with no channel configured changes the pin alone (R5, R333). The end of a
storm window clears the firing counts (R346). A task input is taken where its target takes it, and acts there: a thread's event
sets, a timer starts, stops or captures, a fault source occurs, a wake is requested, a converter starts, a ring port is kicked
(R339, R340, R342, R347). Channels, tasks and thread targets are written under the checks of R338, R339 and R343 to R345 on the
whole configuration, a refusal recorded in GZ_ERR; a pin selector and a fire register as R336 and R333 say. The timebase counts
in LFCLK mode once TMRCLK has stopped and returns rounded up to a multiple of 40 (R200, R349); TB_ADJ waits for its edge, which
adds the amount (R351). A comparator fires on the first edge at or after its value, reloads beyond the present time, or disarms
(R369), and wakes where it may (R448).
Choices of the model that it rests on: log entries 14, 15, 87 and 88. -/
def Obligations.GauzeAndTimebase : Prop :=
  (∀ (s : State) (p : GzPin) (l : Bool), Spec.pinExists p →
    (∃ u, exec (.gauzeSourceEdge p l) s = .next u ∧ u.fioIn = (Spec.pinOnly s p l).fioIn ∧ u.finPin = (Spec.pinOnly s p l).finPin
      ∧ s.regsKept u noticeReg ∧ u.mem = s.mem)
    ∧ ((s.clk.porst = true ∨ s.gzChans = []) → exec (.gauzeSourceEdge p l) s = .next (Spec.pinOnly s p l))
    ∧ (∀ c n, Spec.oneChannel s c n → Spec.showsPin s n p → Spec.pinIgnored s p → exec (.gauzeSourceEdge p l) s = .next (Spec.pinOnly s p l))
    ∧ (∀ c n, Spec.oneChannel s c n → Spec.showsPin s n p → ¬ Spec.pinIgnored s p →
      ∃ u, exec (.gauzeSourceEdge p true) s = .next u ∧ bit u.gz.out c = true ∧ u.srcLevel n = true
        ∧ u.flag (.GZ_CHFLAG (c / 32)) (c % 32) = true
        ∧ (∀ i, s.tasksOf c = [i] → s.taskPresent i = true → (i < 512 → (s.taskTarget i).1 = true) →
            ((i < 768 ∨ 1024 ≤ i) →
              mget u.gz.cnt 0 i = (if mget s.gz.cnt 0 i < 3 then mget s.gz.cnt 0 i + 1 else mget s.gz.cnt 0 i)
              ∧ (3 ≤ mget s.gz.cnt 0 i → u.flag (.GZ_TOVF (i / 32)) (i % 32) = true))
            ∧ (768 ≤ i → i < 1024 → s.clk.sysrst = false → u.flag (.FE_STAT ((i - 768) / 32) ((i - 768) % 32)) 8 = true))))
  ∧ (∀ s : State, exec .stormWindowEnd s = .next { s with gz := { s.gz with fires := [] } })
  ∧ (∀ (s : State) (i : Nat), i < 1280 →
    let k := mget s.gz.cnt 0 i
    let v := { s with gz := { s.gz with cnt := mset s.gz.cnt i (k - 1) } }
    ((k = 0 ∨ s.taskTaken i = false) → exec (.taskInputTake i) s = .next s)
    ∧ (0 < k → s.taskTaken i = true →
      (i < 512 → s.hasTile (i / 64) = true →
        let x := s.field (.GZ_TTGT (i / 4)) (8 * (i % 4)) 8
        ∃ u, exec (.taskInputTake i) s = .next u ∧ mget u.gz.cnt 0 i = k - 1
          ∧ s.regsBecome u (if 128 ≤ x then [(.TH_EVPEND (i / 64) (x / 8 % 16), setBit (s.rd (.TH_EVPEND (i / 64) (x / 8 % 16))) (x % 8) true)] else [])
          ∧ u.mem = s.mem ∧ u.threads = s.threads)
      ∧ (1024 ≤ i → i < 1216 →
        let n := (i - 1024) / 3
        ((i - 1024) % 3 = 0 → exec (.taskInputTake i) s = .next (v.setTimer n { s.timer n with startReq := true }))
        ∧ ((i - 1024) % 3 = 1 → exec (.taskInputTake i) s = .next (v.setTimer n { s.timer n with stopReq := true }))
        ∧ ((i - 1024) % 3 = 2 → ∃ u, exec (.taskInputTake i) s = .next u
            ∧ (s.flag (.TM_CTL n) 23 = true → exec (.timerCapture n true) v = .next u) ∧ (s.flag (.TM_CTL n) 23 = false → u = v)))
      ∧ (1216 ≤ i → i < 1232 → ∃ u, exec (.taskInputTake i) s = .next u
          ∧ (s.flag (.FC_SCFG (i - 1112)) 8 = false → u.latched (i - 1112) = true))
      ∧ (1232 ≤ i → i < 1240 → ∃ u, exec (.taskInputTake i) s = .next u ∧ { u with wakes := s.wakes } = v
          ∧ (s.flag .AP_WAKEEN (i - 1232) = true → (s.blk = 5 ∨ s.blk = 6) → .gauze (i - 1232) ∈ u.wakes))
      ∧ (1240 ≤ i → i < 1256 → ∃ u, exec (.taskInputTake i) s = .next u ∧ bit u.conv (i - 1240) = true
          ∧ s.regsBecome u (if bit s.conv (i - 1240) then [(.TM_CONVSTAT, setBit (s.rd .TM_CONVSTAT) (i - 1240) true)] else []))
      ∧ (1256 ≤ i → i < 1258 → ∃ u, exec (.taskInputTake i) s = .next u ∧ exec (.dbKickEdge (i - 1256)) v = .next u)))
  ∧ (∀ (s : State) (src : Src) (c o : Nat) (v : Word), c < 128 → regOffset (.GZ_CH c) = some o → s.admits src (.GZ_CH c) v = true →
    let w := Spec.written (.GZ_CH c) (s.rd (.GZ_CH c)) v
    let new := s.wr (.GZ_CH c) w
    let mine := s.chAdmits c (match src with | .port p _ => some p | _ => none)
    (mine = true → new.gzFailure = none →
      ∃ u, exec (.gzConfigWrite src o v) s = .next u ∧ s.accepted u src noticeReg ∧ (s.field .GZ_STORMCFG 16 16 = 0 → u.rd (.GZ_CH c) = w))
    ∧ (mine = false → ∃ u, exec (.gzConfigWrite src o v) s = .next u ∧ s.turnedAway u src .state ∧ u.rd (.GZ_CH c) = s.rd (.GZ_CH c))
    ∧ (∀ f, mine = true → new.gzFailure = some f →
      ∃ u, exec (.gzConfigWrite src o v) s = .next u ∧ s.turnedAway u src .state ∧ u.rd (.GZ_CH c) = s.rd (.GZ_CH c)
        ∧ u.flag .GZ_ERR f.1 = true)
    ∧ ((640 ≤ fld w 0 10 ∨ 640 ≤ fld w 16 10) → new.gzFailure = some (28, none))
    ∧ (fld w 0 10 = 512 + c → new.gzChans.any new.rangeTrip = false → new.ownerTrip = none → new.gzFailure = some (31, none)))
  ∧ (∀ (s : State) (src : Src) (r : Reg) (o : Nat) (v : Word), ((∃ i, r = .GZ_TASK i) ∨ ∃ i, r = .GZ_TTGT i) → regOffset r = some o →
    s.admits src r v = true →
    let w := Spec.written r (s.rd r) v
    (s.gzReserved r = false → (s.wr r w).gzFailure = none →
      ∃ u, exec (.gzConfigWrite src o v) s = .next u ∧ s.accepted u src (· == r) ∧ u.rd r = w ∧ u.gz = s.gz)
    ∧ (s.gzReserved r = true → ∃ u, exec (.gzConfigWrite src o v) s = .next u ∧ s.accepted u src (fun _ => false) ∧ u.gz = s.gz)
    ∧ (∀ f, s.gzReserved r = false → (s.wr r w).gzFailure = some f →
      ∃ u, exec (.gzConfigWrite src o v) s = .next u ∧ s.turnedAway u src .state ∧ u.rd r = s.rd r ∧ u.flag .GZ_ERR f.1 = true))
  ∧ (∀ (s : State) (src : Src) (i : Nat) (v : Word), s.admits src (.GZ_PINSEL i) v = true →
    ∃ u, exec (.gzPinselWrite src i v) s = .next u ∧ s.accepted u src (fun q => q == .GZ_PINSEL i || noticeReg q)
      ∧ u.rd (.GZ_PINSEL i) = Spec.written (.GZ_PINSEL i) (s.rd (.GZ_PINSEL i)) v)
  ∧ (∀ (s : State) (src : Src) (t : Nat) (v : Word), s.admits src (.TL_GZFIRE t) v = true →
    (∃ u, exec (.tlGzfire src t v) s = .next u ∧ s.accepted u src noticeReg ∧ u.mem = s.mem ∧ (fld v 0 4 = 0 → u.gz = s.gz))
    ∧ (∀ j c, t < 8 → j < 4 → s.hasTile t = true → v = BitVec.ofNat 32 (2 ^ j) → Spec.oneChannel s c (472 + 4 * t + j) →
      ∃ u, exec (.tlGzfire src t v) s = .next u ∧ u.flag (.GZ_CHFLAG (c / 32)) (c % 32) = true ∧ bit u.gz.src (472 + 4 * t + j) = false
        ∧ bit u.gz.out c = false))
  ∧ (∀ s : State, let stopped := s.clk.running = false ∨ s.blk = 7
    (stopped → ∃ u, exec (.timebaseModeChange true) s = .next u ∧ s.regsBecome u [(.TB_STAT, setBit (s.rd .TB_STAT) 0 true)] ∧ s.sameBeyondRegs u)
    ∧ (¬ stopped → exec (.timebaseModeChange true) s = .next s)
    ∧ ((stopped ∨ s.flag .TB_STAT 0 = false) → exec (.timebaseModeChange false) s = .next s)
    ∧ (¬ stopped → s.flag .TB_STAT 0 = true → ∃ u, exec (.timebaseModeChange false) s = .next u ∧ u.flag .TB_STAT 0 = false
        ∧ u.now = (s.now + 39) / 40 * 40 % 2 ^ 64 ∧ s.regsKept u (fun q => q == .TB_STAT || q == .TB_LO || q == .TB_HI) ∧ s.sameBeyondRegs u))
  ∧ (∀ (s : State) (src : Src) (v : Word), s.admits src .TB_ADJ v = true →
    (s.flag .TB_STAT 2 = false → s.tbAdj = none → ∃ u, exec (.tbAdjWrite src v) s = .next u ∧ s.accepted u src (· == .TB_STAT)
      ∧ u.tbAdj = some v.toInt ∧ u.flag .TB_STAT 1 = true)
    ∧ ((s.flag .TB_STAT 2 = true ∨ s.tbAdj ≠ none) →
      ∃ u, exec (.tbAdjWrite src v) s = .next u ∧ s.turnedAway u src .state ∧ u.tbAdj = s.tbAdj))
  ∧ (∀ s : State, (s.tbAdj = none → exec .timebaseAdjustApply s = .next s)
    ∧ (∀ a, s.tbAdj = some a → s.allIdle = true → ∃ u, exec .timebaseAdjustApply s = .next u ∧ u.tbAdj = none ∧ u.flag .TB_STAT 1 = false
        ∧ s.regsKept u (fun q => q == .TB_STAT || q == .TB_LO || q == .TB_HI) ∧ u.mem = s.mem
        ∧ (u.now : Int) = (if s.tmrStopped then (s.now : Int) + 1600 + a
            else (((s.now + 39) / 40 * 40 : Nat) : Int) + 40 * ((a + 39) / 40)) % 2 ^ 64))
  ∧ (∀ (s : State) (n : Nat), n < 8 →
    let c := (s.rd (.TB_CMP n 1)).toNat * 2 ^ 32 + (s.rd (.TB_CMP n 0)).toNat
    let step := 1600 * (s.rd (.TB_CMP n 2)).toNat
    let unit := if s.tmrStopped then 1600 else 8
    ((s.clk.porst = true ∨ s.flag (.TB_CMP n 3) 31 = false) → exec (.aoComparatorFire n) s = .next s)
    ∧ (s.flag (.TB_CMP n 3) 31 = true → s.clk.porst = false →
      ∃ u, exec (.aoComparatorFire n) s = .next u ∧ u.flag (.TB_CMP n 3) 0 = true
        ∧ u.now = (if s.now < c then s.now + (c - s.now + unit - 1) / unit * unit else s.now) % 2 ^ 64
        ∧ (s.flag (.TB_CMP n 3) 30 = false → u.flag (.TB_CMP n 3) 31 = false)
        ∧ (s.flag (.TB_CMP n 3) 30 = true → 0 < step →
            let k := (u.now - c) / step + 1
            u.flag (.TB_CMP n 3) 31 = true ∧ (1 < k → u.flag (.TB_CMP n 3) 1 = true)
              ∧ (u.rd (.TB_CMP n 1)).toNat * 2 ^ 32 + (u.rd (.TB_CMP n 0)).toNat = (c + k * step) % 2 ^ 64)
        ∧ (s.flag (.TB_CMP n 3) 29 = true → (s.blk = 5 ∨ s.blk = 6) → .comparator n ∈ u.wakes)
        ∧ s.regsKept u (fun q => noticeReg q || match q with | .TB_CMP m _ => m == n | .TB_LO | .TB_HI => true | _ => false)))

/-- A counting channel takes one tick per accumulator overflow, cycle after cycle (R353): up to PERIOD and to 0 with UEV, down from
PERIOD, or up and down (R355, R357), an armed PERIOD and MATCH taken before the tick or, with PRELOAD, at the UEV (R356), and
MATCHED where the count meets MATCH (R358). A LFCLK step takes its ticks at once (R367); a link resets or clocks the slave one edge
after its master (R362, R363). EN = 1 makes the shadows active; RUN follows start and stop, a stop winning (R354); a shadow write
arms, and without PRELOAD the transfer follows (R356). Captures fill two FIFOs, OVCAP where one held an entry, and a read pops
them (R364, R365). The counter is written while it does not count, and another write of it, or of a running channel's
configuration, is turned away (R354). A converter pulse ends (R47).
Choices of the model that it rests on: log entries 16 and 42. -/
def Obligations.TimerChannels : Prop :=
  let full := fun (p : Nat) => if p = 0 then 2 ^ 48 - 1 else p
  let pre := fun (s : State) (n : Nat) => s.flag (.TM_CTL n) 25
  let newP := fun (s : State) (n : Nat) => if (s.timer n).armP then s.shadowPeriod n else (s.timer n).period
  let P := fun (s : State) (n : Nat) => full (if pre s n then (s.timer n).period else newP s n)
  let counts := fun (s : State) (n : Nat) => n < 64 ∧ s.flag (.TM_CTL n) 31 = true ∧ s.flag (.TM_CTL n) 30 = true
    ∧ (s.field (.TM_CTL n) 21 2 = 1 → (s.timer n).gate = true) ∧ (s.timer n).period < 2 ^ 48
  let ticked := fun (s u : State) (n : Nat) =>
    let c := s.tmCount n
    let mode := s.field (.TM_CTL n) 28 2
    let down := s.flag (.TM_STAT n) 8
    (mode = 0 → u.tmCount n = (if c < P s n then c + 1 else 0) ∧ (P s n ≤ c → u.flag (.TM_STAT n) 0 = true)
        ∧ (c < P s n → u.flag (.TM_STAT n) 0 = s.flag (.TM_STAT n) 0) ∧ (P s n < c → u.flag (.TM_STAT n) 2 = true))
    ∧ (mode = 1 → u.tmCount n = (if P s n < c then P s n else if c = 0 then full (newP s n) else c - 1)
        ∧ (c = 0 → u.flag (.TM_STAT n) 0 = true) ∧ (P s n < c → u.flag (.TM_STAT n) 2 = true))
    ∧ (2 ≤ mode → c ≤ P s n → (down = false ∧ c < P s n → u.tmCount n = c + 1) ∧ ((down = true ∨ c = P s n) → u.tmCount n = c - 1)
        ∧ ((down = true ∨ c = P s n) → c ≤ 1 → u.flag (.TM_STAT n) 0 = true ∧ u.flag (.TM_STAT n) 8 = false))
    ∧ u.flag (.TM_STAT n) 1 = (s.flag (.TM_STAT n) 1 || decide (u.tmCount n = (u.timer n).mtch))
    ∧ (pre s n = false → (u.timer n).period = newP s n ∧ (u.timer n).armP = false ∧ (u.timer n).armM = false)
    ∧ ((∀ k < 16, s.canOn k = false) → u.mem = s.mem)
  (∀ (s : State) (n : Nat), counts s n → s.field (.TM_CTL n) 21 2 ≠ 3 → s.tmrStopped = false →
    ((s.rd (.TM_PRESC n)).toNat ≤ (s.timer n).acc + 0x10000 → ∃ u, exec (.timerTick n 1) s = .next u ∧ ticked s u n)
    ∧ ((s.timer n).acc + 0x10000 < (s.rd (.TM_PRESC n)).toNat → ∃ u, exec (.timerTick n 1) s = .next u ∧ u.tmCount n = s.tmCount n
        ∧ (u.timer n).acc = (s.timer n).acc + 0x10000 ∧ s.regsKept u noticeReg)
    ∧ (∀ k, ∃ v u, exec (.timerTick n 1) s = .next v ∧ exec (.timerTick n k) v = .next u ∧ exec (.timerTick n (k + 1)) s = .next u))
  ∧ (∀ (s : State) (n k : Nat), n < 64 →
    ((s.tmCounting n = false ∨ s.field (.TM_CTL n) 21 2 = 3 ∨ s.tmrStopped = true) → exec (.timerTick n k) s = .next s)
    ∧ ((s.tmCounting n = false ∨ s.field (.TM_CTL n) 21 2 = 3 ∨ s.tmrStopped = false ∨ s.blk = 6 ∨ s.blk = 0) →
        exec (.timerLfclkStep n) s = .next s))
  ∧ (∀ (s : State) (n : Nat), counts s n → s.field (.TM_CTL n) 21 2 ≠ 3 → s.tmrStopped = true → s.blk ≠ 6 → s.blk ≠ 0 →
    let src := s.field (.TM_CTL n) 26 2
    let k := if src = 0 then 200 else if src = 1 then 800 else if src = 2 then 1 else 0
    let sum := (s.timer n).acc + 0x10000 * k
    let presc := (s.rd (.TM_PRESC n)).toNat
    (sum < presc → ∃ u, exec (.timerLfclkStep n) s = .next u ∧ u.tmCount n = s.tmCount n ∧ (u.timer n).acc = sum ∧ s.regsKept u noticeReg)
    ∧ (0 < k → presc ≤ sum → sum < 2 * presc → ∃ u, exec (.timerLfclkStep n) s = .next u ∧ ticked s u n ∧ (u.timer n).acc = sum - presc))
  ∧ (∀ (s : State) (n : Nat), n < 64 →
    (s.flag (.TM_CTL n) 31 = true → (s.timer n).linkPend = true → s.field (.TM_CTL n) 21 2 = 2 → (s.timer n).period < 2 ^ 48 →
      ∃ u, exec (.timerLinkEvent n) s = .next u ∧ u.flag (.TM_STAT n) 0 = true
        ∧ (s.field (.TM_CTL n) 28 2 ≠ 1 → u.tmCount n = 0 ∧ u.flag (.TM_STAT n) 8 = false)
        ∧ (s.field (.TM_CTL n) 28 2 = 1 → u.tmCount n = full (if pre s n then newP s n else (s.timer n).period))
        ∧ ((∀ k < 16, s.canOn k = false) → u.mem = s.mem))
    ∧ (counts s n → (s.timer n).linkPend = true → s.field (.TM_CTL n) 21 2 = 3 → (s.rd (.TM_PRESC n)).toNat ≤ (s.timer n).acc + 0x10000 →
      ∃ u, exec (.timerLinkEvent n) s = .next u ∧ ticked s u n)
    ∧ (((s.timer n).linkPend = false ∨ s.flag (.TM_CTL n) 31 = false) →
      ∃ u, exec (.timerLinkEvent n) s = .next u ∧ u.regs = s.regs ∧ (u.timer n).linkPend = false
        ∧ (u.timer n).gate = (let m := s.field (.TM_CTL n) 14 6; s.flag (.TM_CTL m) 31 && decide (s.tmCount m < (s.timer m).mtch))))
  ∧ (∀ (s : State) (src : Src) (n : Nat) (v : Word), s.admits src (.TM_CTL n) (setBit v 31 true) = true →
    let w := Spec.written (.TM_CTL n) (s.rd (.TM_CTL n)) (setBit v 31 true)
    let on := s.flag (.TM_CTL n) 31
    (on = false → fld w 28 2 ≠ 3 →
      ∃ u, exec (.timerEnable src n v) s = .next u ∧ s.accepted u src (fun q => q == .TM_CTL n || q == .TM_STAT n || noticeReg q)
        ∧ u.rd (.TM_CTL n) = w ∧ (u.timer n).acc = 0 ∧ u.flag (.TM_STAT n) 8 = false
        ∧ (u.timer n).period = s.field (.TM_PMHI n) 16 16 * 2 ^ 32 + (s.rd (.TM_PERIOD n)).toNat
        ∧ (u.timer n).mtch = s.field (.TM_PMHI n) 0 16 * 2 ^ 32 + (s.rd (.TM_MATCH n)).toNat)
    ∧ (on = true → fld w 28 2 ≠ 3 → fld (s.rd (.TM_CTL n)) 0 30 = fld w 0 30 →
      ∃ u, exec (.timerEnable src n v) s = .next u ∧ s.accepted u src (fun q => q == .TM_CTL n || noticeReg q) ∧ u.rd (.TM_CTL n) = w
        ∧ u.timers = s.timers)
    ∧ ((fld w 28 2 = 3 ∨ (on = true ∧ fld (s.rd (.TM_CTL n)) 0 30 ≠ fld w 0 30)) →
      ∃ u, exec (.timerEnable src n v) s = .next u ∧ s.turnedAway u src .state ∧ u.rd (.TM_CTL n) = s.rd (.TM_CTL n) ∧ u.timers = s.timers))
  ∧ (∀ (s : State) (n : Nat), n < 64 →
    ∃ u, exec (.timerStartStop n) s = .next u ∧ (u.timer n).startReq = false ∧ (u.timer n).stopReq = false ∧ s.regsKept u (· == .TM_CTL n)
      ∧ u.rd (.TM_CTL n) = (if (s.timer n).stopReq then setBit (s.rd (.TM_CTL n)) 30 false
          else if (s.timer n).startReq then setBit (s.rd (.TM_CTL n)) 30 true else s.rd (.TM_CTL n)))
  ∧ (∀ (s : State) (src : Src) (i : Nat) (v : Word),
    let ctls := fun (q : Reg) => match q with | .TM_CTL _ => true | _ => false
    (s.admits src (.TM_GSTART i) v = true → ∃ u, exec (.tmGstart src i v) s = .next u ∧ s.accepted u src ctls
      ∧ ∀ j < 32, u.rd (.TM_CTL (32 * i + j)) = if bit v j then setBit (s.rd (.TM_CTL (32 * i + j))) 30 true else s.rd (.TM_CTL (32 * i + j)))
    ∧ (s.admits src (.TM_GSTOP i) v = true → ∃ u, exec (.tmGstop src i v) s = .next u ∧ s.accepted u src ctls
      ∧ (∀ j < 32, bit v j = true → (u.timer (32 * i + j)).startReq = false)
      ∧ ∀ j < 32, u.rd (.TM_CTL (32 * i + j)) = if bit v j then setBit (s.rd (.TM_CTL (32 * i + j))) 30 false else s.rd (.TM_CTL (32 * i + j))))
  ∧ (∀ (s : State) (src : Src) (n : Nat) (m : Bool) (v : Word),
    let r := if m then Reg.TM_MATCH n else .TM_PERIOD n
    s.admits src r v = true →
    ∃ u, exec (.timerShadowWrite src n m v) s = .next u ∧ s.accepted u src (· == r) ∧ u.rd r = Spec.written r (s.rd r) v
      ∧ (u.timer n).period = (s.timer n).period ∧ (u.timer n).mtch = (s.timer n).mtch
      ∧ (if m then (u.timer n).armM else (u.timer n).armP) = true)
  ∧ (∀ (s : State) (n : Nat), n < 64 →
    (s.flag (.TM_CTL n) 25 = true → exec (.timerShadowTransfer n) s = .next s)
    ∧ (s.flag (.TM_CTL n) 25 = false → ∃ u, exec (.timerShadowTransfer n) s = .next u ∧ s.regsKept u noticeReg ∧ (u.timer n).armP = false
        ∧ (u.timer n).armM = false ∧ (u.timer n).period = (if (s.timer n).armP then s.shadowPeriod n else (s.timer n).period)
        ∧ (u.timer n).mtch = (if (s.timer n).armM then s.shadowMatch n else (s.timer n).mtch)))
  ∧ (∀ (s : State) (n : Nat), n < 64 →
    let x := s.timer n
    let stat := fun (full : Bool) => if full then setBit (s.rd (.TM_STAT n)) 6 true else s.rd (.TM_STAT n)
    (s.flag (.TM_CTL n) 24 = true → ∃ u, exec (.timerCapture n true) s = .next u ∧ (u.timer n).sinceRise = some 0
      ∧ (u.timer n).rise = (if x.rise.length < 2 then x.rise else x.rise.take 1) ++ [s.rd (.TM_CNT_LO n)]
      ∧ u.rd (.TM_STAT n) = stat (!x.rise.isEmpty) ∧ s.regsKept u (· == .TM_STAT n))
    ∧ (s.flag (.TM_CTL n) 24 = true → s.flag (.TM_CTL n) 23 = false → ∃ u, exec (.timerCapture n false) s = .next u
      ∧ (u.timer n).fall = (if x.fall.length < 2 then x.fall else x.fall.take 1)
          ++ [(s.rd (.TM_CNT_LO n), BitVec.ofNat 32 (x.sinceRise.getD 0xFFFFFFFF))]
      ∧ u.rd (.TM_STAT n) = stat (!x.fall.isEmpty) ∧ s.regsKept u (· == .TM_STAT n))
    ∧ (s.flag (.TM_CTL n) 23 = true → exec (.timerCapture n false) s = .next s)
    ∧ (s.flag (.TM_CTL n) 24 = false → exec (.timerCapture n true) s = .next s ∧ exec (.timerCapture n false) s = .next s))
  ∧ (∀ (s : State) (p n : Nat) (sec : Bool), p < 2 → n < 64 → s.portsServe = true →
    (s.decodeFor (.port p sec) (0x6024 + 0x40 * n) = .reg (.TM_CAPRISE n) → s.readCheck (.port p sec) (0x6024 + 0x40 * n) = .ok →
      ∃ u d, exec (.tmCaprisePop p sec n) s = .next u ∧ mget u.resp ⟨.decerr, none⟩ p = ⟨.okay, some d⟩
        ∧ fld d 32 32 = ((s.timer n).rise.headD 0).toNat ∧ (u.timer n).rise = (s.timer n).rise.tail ∧ u.regs = s.regs ∧ u.mem = s.mem)
    ∧ (s.decodeFor (.port p sec) (0x6028 + 0x40 * n) = .reg (.TM_CAPFALL n) → s.readCheck (.port p sec) (0x6028 + 0x40 * n) = .ok →
      ∃ u d, exec (.tmCapfallPop p sec n) s = .next u ∧ mget u.resp ⟨.decerr, none⟩ p = ⟨.okay, some d⟩
        ∧ fld d 0 32 = ((s.timer n).fall.head?.elim 0 (·.1)).toNat ∧ (u.timer n).fall = (s.timer n).fall.tail ∧ u.mem = s.mem
        ∧ s.regsBecome u (match (s.timer n).fall with | [] => [] | x :: _ => [(.TM_PWIDTH n, x.2)])))
  ∧ (∀ (s : State) (src : Src) (n : Nat) (hi : Bool) (v : Word),
    let r := if hi then Reg.TM_CNT_HI n else .TM_CNT_LO n
    s.admits src r v = true →
    (s.tmCounting n = false →
      ∃ u, exec (.tmCounterWrite src n hi v) s = .next u ∧ s.accepted u src (fun q => q == r || noticeReg q) ∧ u.rd r = Spec.written r (s.rd r) v)
    ∧ (s.tmCounting n = true →
      ∃ u, exec (.tmCounterWrite src n hi v) s = .next u ∧ s.turnedAway u src .state ∧ u.tmCount n = s.tmCount n))
  ∧ (∀ (s : State) (k : Nat), k < 16 → exec (.convStartPulseEnd k) s = .next { s with conv := setBit s.conv k false })

/-! ### CAN controllers -/

/-- CN_DOMCTL asks for 3 grains, gives the domain up again, and is refused while a controller is in use (R372, R38). Leaving INIT
waits for the bus, which CAN_BUS_JOIN joins (R373); bit times keep their limits (R374). A key maps to a valid receive object of
its controller, and unmaps (R377, R378). A received frame updates the object of its key, NEW, LOST and SEQ with it, and its
record goes to the message rings where it asks for it, else CN_RXMISS counts (R379, R382); a request sets TXPEND (R383), an abort
withdraws it (R385), an attempt sends the pending object or the reference message that wins arbitration, and success clears
TXPEND with TXOK and SEQ (R385). New counters give the error state, bus-off raises CANERR (R389), and the recovery sequence ends
bus-off. A reference message is due at each cycle of the master, and after 1.5 cycles without one (R387). A host writes transmit
objects while they are not pending, and words 0 and 1 while not mapped (R376). A controller takes part only while it runs, is
joined and is not bus-off (R373, R389, R447, R476); what a rule refuses is turned away with STATE.
Choices of the model that it rests on: log entries 28, 30, 31 and 33. -/
def Obligations.CanControllers : Prop :=
  (∀ (s : State) (src : Src) (v : Word), s.admits src .CN_DOMCTL v = true →
    let w := Spec.written .CN_DOMCTL (s.rd .CN_DOMCTL) v
    let on := s.flag .CN_DOMCTL 0
    let used := s.msgRings = true ∨ ∃ c < 16, s.canOn c = true ∧ s.flag (.CN_CTL c) 0 = false
    (on = false → bit w 0 = true → s.apHolds .can = false →
      ∃ u, exec (.cnDomctlWrite src v) s = .next u ∧ s.accepted u src (· == .CN_DOMCTL) ∧ u.rd .CN_DOMCTL = w
        ∧ u.apWait = s.apWait ++ if s.apWaits .can then [] else [⟨.can, 3⟩])
    ∧ (on = true → bit w 0 = false → ¬ used → s.apHolds .can = false →
      ∃ u, exec (.cnDomctlWrite src v) s = .next u ∧ s.accepted u src (· == .CN_DOMCTL) ∧ u.rd .CN_DOMCTL = w ∧ u.apWaits .can = false)
    ∧ (on = true → bit w 0 = false → ¬ used → s.apHolds .can = true → (s.pd 2).phase = .on →
      ∃ u, exec (.cnDomctlWrite src v) s = .next u ∧ u.okayed src ∧ u.rd .CN_DOMCTL = w ∧ (u.pd 2).phase = .draining
        ∧ ∀ c < 16, u.ready 2 (16 + c) = false)
    ∧ (bit w 0 = on → ∃ u, exec (.cnDomctlWrite src v) s = .next u ∧ s.accepted u src (· == .CN_DOMCTL) ∧ u.rd .CN_DOMCTL = w
        ∧ u.apWait = s.apWait ∧ u.pds = s.pds)
    ∧ (on = true → bit w 0 = false → used →
      ∃ u, exec (.cnDomctlWrite src v) s = .next u ∧ s.turnedAway u src .state ∧ u.rd .CN_DOMCTL = s.rd .CN_DOMCTL))
  ∧ (∀ (s : State) (src : Src) (c : Nat) (v : Word), s.admits src (.CN_CTL c) (setBit v 0 false) = true →
    let w := Spec.written (.CN_CTL c) (s.rd (.CN_CTL c)) (setBit v 0 false)
    (s.flag (.CN_CTL c) 0 = true →
      ∃ u, exec (.canInitLeave src c v) s = .next u ∧ s.accepted u src (fun q => q == .CN_CTL c || q == .CN_STAT c)
        ∧ u.rd (.CN_CTL c) = w ∧ (u.can c).joined = false ∧ (u.can c).recover = decide (s.field (.CN_ERR c) 30 2 = 2)
        ∧ (u.can c).refAt = s.now ∧ (u.can c).table = (s.can c).table ∧ u.mem = s.mem)
    ∧ (s.flag (.CN_CTL c) 0 = false →
      ∃ u, exec (.canInitLeave src c v) s = .next u ∧ s.accepted u src (· == .CN_CTL c) ∧ u.rd (.CN_CTL c) = w ∧ u.cans = s.cans))
  ∧ (∀ (s : State) (c : Nat), s.hasCan c = true →
    let joins := s.canRuns c = true ∧ s.flag (.CN_CTL c) 0 = false ∧ s.field (.CN_ERR c) 30 2 ≠ 2
    (joins → exec (.canBusJoin c) s = .next (s.setCan c { s.can c with joined := true })) ∧ (¬ joins → exec (.canBusJoin c) s = .next s))
  ∧ (∀ (s : State) (src : Src) (c : Nat) (v : Word) (data : Bool),
    let r := if data then Reg.CN_DBT c else .CN_NBT c
    let w := Spec.written r (s.rd r) v
    let n := (fld w 14 5 + 1) * (3 + fld w 23 5 + fld w 19 4)
    let ok := s.flag (.CN_CTL c) 0 = true
      ∧ if data then 10 ≤ n ∧ fld w 28 4 ≤ fld w 19 4
        else 80 ≤ (fld w 0 8 + 1) * (3 + fld w 17 8 + fld w 10 7) ∧ 1 ≤ fld w 17 8 ∧ fld w 25 7 ≤ fld w 10 7
    s.admits src r v = true →
    (ok → ∃ u, exec (.canBitTimingWrite src c data v) s = .next u ∧ s.accepted u src (· == r) ∧ u.rd r = w)
    ∧ (¬ ok → ∃ u, exec (.canBitTimingWrite src c data v) s = .next u ∧ s.turnedAway u src .state ∧ u.rd r = s.rd r))
  ∧ (∀ (s : State) (src : Src) (c : Nat) (v : Word),
    let k := (s.rd (.CN_MAPID c)).toNat % 2 ^ 30
    let n := fld v 0 14
    let w := s.objWord n 1
    let t := (s.can c).table
    let ok := bit w 31 = true ∧ bit w 30 = false ∧ fld w 26 4 = c ∧ s.objMapped n = false ∧ (∀ e ∈ t, e.1 ≠ k)
      ∧ (t.filter (fun e => canSet e.1 == canSet k)).length < 2
    (s.admits src (.CN_MAPCMD c) (setFld v 30 2 1) = true →
      (ok → ∃ u, exec (.canMap src c v) s = .next u ∧ s.accepted u src (fun _ => false) ∧ (u.can c).table = t ++ [(k, n)] ∧ u.mem = s.mem)
      ∧ (¬ ok → ∃ u, exec (.canMap src c v) s = .next u ∧ s.turnedAway u src .state ∧ u.flag (.CN_STAT c) 5 = true ∧ u.cans = s.cans))
    ∧ (s.admits src (.CN_MAPCMD c) (setFld v 30 2 2) = true →
      ((∃ e ∈ t, e.1 = k) → ∃ u, exec (.canUnmap src c v) s = .next u ∧ s.accepted u src (fun _ => false)
        ∧ (u.can c).table = t.filter (fun e => e.1 ≠ k))
      ∧ ((∀ e ∈ t, e.1 ≠ k) → ∃ u, exec (.canUnmap src c v) s = .next u ∧ s.turnedAway u src .state
        ∧ u.flag (.CN_STAT c) 5 = true ∧ u.cans = s.cans)))
  ∧ (∀ (s : State) (c : Nat) (f : CanFrame) (sof : Nat), s.hasCan c = true →
    let key := canKey f.extended f.ident
    let bytes := if f.remote then 0 else dlcBytes f.fd f.dlc
    let plain := s.field (.CN_TTCFG c) 30 2 = 0 ∧ (s.can c).buf = none
    (s.canBus c = false → exec (.canFrameReceived c f sof) s = .next s)
    ∧ (∀ n l, s.canBus c = true → (s.can c).table.filter (fun e => e.1 == key) = (key, n) :: l → s.inOrder = true →
        (∀ b, (s.can c).buf = some b → b.obj ≠ some n) →
        let old := s.objWord n 2
        let w1 := s.objWord n 1
        ∃ u, exec (.canFrameReceived c f sof) s = .next u
          ∧ (plain → bit w1 24 = false → bit w1 25 = false → u.regs = s.regs ∧ u.cans = s.cans)
          ∧ fld (u.objWord n 0) 0 29 = f.ident % 2 ^ 29 ∧ bit (u.objWord n 0) 29 = f.extended ∧ bit (u.objWord n 0) 30 = f.remote
          ∧ bit (u.objWord n 0) 31 = f.fd ∧ u.objWord n 1 = w1 ∧ u.objWord n 3 = BitVec.ofNat 32 (sof / 32)
          ∧ bit (u.objWord n 2) 0 = true ∧ bit (u.objWord n 2) 1 = (bit old 1 || bit old 0) ∧ fld (u.objWord n 2) 8 4 = f.dlc % 16
          ∧ fld (u.objWord n 2) 16 16 = (fld old 16 16 + 1) % 2 ^ 16
          ∧ (∀ i < bytes, memGet u.mem (canBase + 80 * n + 16 + i) = f.data.getD i 0)
          ∧ (bit w1 25 = true → (s.can c).records.length < 32 →
              ∃ bs, (u.can c).records.getLast? = some (bs, []) ∧ bs.length = 16 + (bytes + 3) / 4 * 4)
          ∧ (bit w1 25 = true → 32 ≤ (s.can c).records.length → u.flag (.CN_STAT c) 0 = true))
    ∧ (s.canBus c = true → plain → (∀ e ∈ (s.can c).table, e.1 ≠ key) → s.flag (.CN_CTL c) 2 = false →
        ∃ u, exec (.canFrameReceived c f sof) s = .next u ∧ s.sameBeyondRegs u
          ∧ s.regsBecome u [(.CN_RXMISS c, BitVec.ofNat 32 (min 0xFFFFFFFF ((s.rd (.CN_RXMISS c)).toNat + 1)))]))
  ∧ (∀ (s : State) (src : Src) (c : Nat) (v : Word), s.admits src (.CN_TXREQ c) v = true →
    let n := fld v 0 14
    let w1 := s.objWord n 1
    let ok := bit w1 31 = true ∧ bit w1 30 = true ∧ fld w1 26 4 = c ∧ ¬ (bit (s.objWord n 0) 30 = true ∧ bit (s.objWord n 0) 31 = true)
      ∧ (bit (s.objWord n 2) 12 = true → s.flag (.CN_CTL c) 3 = true) ∧ s.flag (.CN_CTL c) 0 = false ∧ s.flag (.CN_CTL c) 1 = false
      ∧ (s.can c).pend.length < 64
    (n ∈ (s.can c).pend → ∃ u, exec (.cnTxreq src c v) s = .next u ∧ s.accepted u src (fun _ => false) ∧ u.cans = s.cans ∧ u.mem = s.mem)
    ∧ (n ∉ (s.can c).pend → ok → s.inOrder = true →
      ∃ u, exec (.cnTxreq src c v) s = .next u ∧ s.accepted u src (fun _ => false) ∧ (u.can c).pend = (s.can c).pend ++ [n]
        ∧ u.objWord n 2 = setBit (s.objWord n 2) 2 true)
    ∧ (n ∉ (s.can c).pend → ¬ ok →
      ∃ u, exec (.cnTxreq src c v) s = .next u ∧ s.turnedAway u src .state ∧ u.cans = s.cans))
  ∧ (∀ (s : State) (src : Src) (c : Nat) (v : Word), s.admits src (.CN_TXABORT c) v = true →
    let n := fld v 0 14
    (n ∉ (s.can c).pend → ∃ u, exec (.cnTxabort src c v) s = .next u ∧ s.accepted u src (fun _ => false) ∧ u.cans = s.cans ∧ u.mem = s.mem)
    ∧ (n ∈ (s.can c).pend → (∀ b, (s.can c).buf = some b → b.obj ≠ some n) → s.inOrder = true →
      ∃ u, exec (.cnTxabort src c v) s = .next u ∧ s.accepted u src (fun _ => false) ∧ (u.can c).pend = (s.can c).pend.filter (· ≠ n)
        ∧ u.objWord n 2 = setBit (setBit (s.objWord n 2) 2 false) 4 true)
    ∧ (∀ b, n ∈ (s.can c).pend → (s.can c).buf = some b → b.obj = some n →
      ∃ u, exec (.cnTxabort src c v) s = .next u ∧ s.accepted u src (fun _ => false) ∧ (u.can c).abort = true ∧ u.mem = s.mem
        ∧ (u.can c).pend = (s.can c).pend))
  ∧ (∀ (s : State) (c : Nat), s.hasCan c = true →
    let x := s.can c
    let before := fun (n : Nat) => ∀ m ∈ x.pend, arbKey (s.objWord n 0) < arbKey (s.objWord m 0)
      ∨ (arbKey (s.objWord n 0) = arbKey (s.objWord m 0) ∧ n ≤ m)
    ((s.canBus c = false ∨ s.flag (.CN_CTL c) 1 = true) → exec (.canTransmitAttempt c) s = .next s)
    ∧ (s.canBus c = true → s.flag (.CN_CTL c) 1 = false →
      (∀ b, x.buf = some b → x.abort = false →
        ∃ u, exec (.canTransmitAttempt c) s = .next u ∧ exec (.canTransmitAttempt c) (s.setCan c { x with buf := none, abort := false }) = .next u)
      ∧ (∀ b n, x.buf = some b → b.obj = some n → x.abort = true → n ∈ x.pend → s.inOrder = true →
        ∃ u, exec (.canTransmitAttempt c) s = .next u ∧ n ∉ (u.can c).pend ∧ bit (u.objWord n 2) 4 = true)
      ∧ (x.buf = none →
        (x.pend = [] → x.refReq = false → exec (.canTransmitAttempt c) s = .next s)
        ∧ (∀ n ∈ x.pend, before n → (x.refReq = true → arbKey (s.objWord n 0) < arbKey (s.refWord c)) →
          ∃ u b, exec (.canTransmitAttempt c) s = .next u ∧ (u.can c).buf = some b ∧ b.obj = some n ∧ b.w0 = s.objWord n 0 ∧ b.w2 = s.objWord n 2
            ∧ b.sof = s.now ∧ b.data.length = (if bit b.w0 30 then 0 else dlcBytes (bit b.w0 31) (fld b.w2 8 4))
            ∧ (∀ i < b.data.length, b.data.getD i 0 = memGet s.mem (canBase + 80 * n + 16 + i))
            ∧ u.mem = s.mem ∧ u.regs = s.regs ∧ (u.can c).pend = x.pend)
        ∧ (x.refReq = true → (∀ n ∈ x.pend, arbKey (s.refWord c) ≤ arbKey (s.objWord n 0)) →
          ∃ u b, exec (.canTransmitAttempt c) s = .next u ∧ (u.can c).buf = some b ∧ b.obj = none ∧ b.w0 = s.refWord c ∧ b.sof = s.now
            ∧ b.data.length = 8 ∧ b.data.getD 1 0 = 0 ∧ b.data.drop 2 = leBytes 6 (s.now / 2 ^ s.field (.CN_TTCFG c) 16 5 % 2 ^ 48)
            ∧ u.mem = s.mem ∧ u.regs = s.regs ∧ (u.can c).pend = x.pend))))
  ∧ (∀ (s : State) (c : Nat), s.hasCan c = true →
    ((s.canBus c = false ∨ (s.can c).buf = none) → exec (.canFrameTransmitted c) s = .next s)
    ∧ (∀ b, s.canBus c = true → (s.can c).buf = some b →
      (∀ n, b.obj = some n → s.inOrder = true →
        ∃ u, exec (.canFrameTransmitted c) s = .next u ∧ (u.can c).buf = none ∧ (u.can c).pend = (s.can c).pend.filter (· ≠ n)
          ∧ u.objWord n 3 = BitVec.ofNat 32 (b.sof / 32) ∧ bit (u.objWord n 2) 3 = true ∧ bit (u.objWord n 2) 2 = false
          ∧ fld (u.objWord n 2) 16 16 = (fld (s.objWord n 2) 16 16 + 1) % 2 ^ 16 ∧ u.regs = s.regs)
      ∧ (b.obj = none →
        ∃ u, exec (.canFrameTransmitted c) s = .next u ∧ (u.can c).buf = none ∧ (u.can c).refReq = false ∧ (u.can c).refAt = s.now
          ∧ (u.can c).pend = (s.can c).pend ∧ u.mem = s.mem ∧ s.regsKept u (· == .CN_TTSTAT c)
          ∧ (s.field (.CN_TTCFG c) 30 2 = 2 → u.field (.CN_TTSTAT c) 0 2 = 2 ∧ u.flag (.CN_TTSTAT c) 2 = true))))
  ∧ (∀ (s : State) (c tec rec lec : Nat), s.hasCan c = true → c < 16 →
    let st := if 256 ≤ tec then 2 else if 128 ≤ tec ∨ 128 ≤ rec then 1 else 0
    ((s.canBus c = false ∨ s.flag (.CN_CTL c) 1 = true) → exec (.canErrorStateChange c tec rec lec) s = .next s)
    ∧ (s.canBus c = true → s.flag (.CN_CTL c) 1 = false →
      ∃ u, exec (.canErrorStateChange c tec rec lec) s = .next u
        ∧ u.field (.CN_ERR c) 30 2 = st ∧ u.field (.CN_ERR c) 27 3 = lec % 8 ∧ u.field (.CN_ERR c) 16 8 = min 255 tec
        ∧ u.field (.CN_ERR c) 8 7 = min 127 rec
        ∧ (st = 2 → (u.can c).joined = false)
        ∧ ((st = 2 ∨ (st = 1 ∧ s.field (.CN_ERR c) 30 2 = 0 ∧ s.flag (.CN_CTL c) 7 = true)) → s.flag (.FC_SCFG (72 + c)) 8 = false →
            u.latched (72 + c) = true)
        ∧ s.regsKept u (fun q => q == .CN_ERR c || q == .FC_SSTAT (72 + c) || noticeReg q) ∧ ((s.can c).abort = false → u.mem = s.mem)))
  ∧ (∀ (s : State) (c : Nat), s.hasCan c = true →
    let ends := s.canRuns c = true ∧ s.flag (.CN_CTL c) 0 = false ∧ s.field (.CN_ERR c) 30 2 = 2
      ∧ (s.flag (.CN_CTL c) 5 = true ∨ (s.can c).recover = true)
    (ends → ∃ u, exec (.canBusOffRecovery c) s = .next u ∧ u.field (.CN_ERR c) 30 2 = 0 ∧ u.field (.CN_ERR c) 16 8 = 0
        ∧ u.field (.CN_ERR c) 8 7 = 0 ∧ (u.can c).joined = true ∧ s.regsKept u (· == .CN_ERR c) ∧ u.mem = s.mem)
    ∧ (¬ ends → exec (.canBusOffRecovery c) s = .next s))
  ∧ (∀ (s : State) (c : Nat), s.hasCan c = true →
    let cyc := s.field (.CN_TTCFG c) 0 16 * 2 ^ s.field (.CN_TTCFG c) 16 5
    let due := if s.field (.CN_TTSTAT c) 0 2 = 2 then (s.now + cyc - 1) / cyc * cyc else (s.can c).refAt + cyc * 3 / 2
    let unit := if s.tmrStopped then 1600 else 8
    let asks := s.canRuns c = true ∧ s.field (.CN_TTCFG c) 30 2 = 2 ∧ 0 < cyc
    (asks → ∃ u, exec (.canReferenceDue c) s = .next u ∧ u.mem = s.mem
      ∧ u.now = (if s.now < due then s.now + (due - s.now + unit - 1) / unit * unit else s.now) % 2 ^ 64
      ∧ s.regsKept u (fun q => q == .TB_LO || q == .TB_HI || q == .CN_STAT c)
      ∧ (if s.flag (.CN_CTL c) 0 = true ∨ s.flag (.CN_CTL c) 1 = true then u.cans = s.cans ∧ u.flag (.CN_STAT c) 6 = true
         else (u.can c).refReq = true ∧ u.rd (.CN_STAT c) = s.rd (.CN_STAT c)))
    ∧ (¬ asks → exec (.canReferenceDue c) s = .next s))
  ∧ (∀ (s : State) (src : Src) (n j : Nat) (d : DWord), n < 16384 → j < 10 → s.portsServe = true → srcHost src = true → s.srcOk src 0 = true →
    let a := canBase + 80 * n + 8 * j
    let tx := bit (s.objWord n 1) 30
    let pend := bit (s.objWord n 2) 2
    let w2 := s.objWord n 2
    s.decodeFor src a = .mem a → s.writeCheck src a 0 = .ok →
    (pend = false → tx = true → (j = 0 → s.objMapped n = false) → j ≠ 1 → s.inOrder = true →
      ∃ u, exec (.canObjectWrite src a d 0xFF) s = .next u ∧ u.okayed src ∧ u.regs = s.regs ∧ s.memBecomes u a (leBytes 8 d.toNat))
    ∧ (j = 1 → pend = false → s.inOrder = true →
      ∃ u, exec (.canObjectWrite src a d 0xFF) s = .next u ∧ u.okayed src ∧ u.regs = s.regs ∧ u.objWord n 3 = s.objWord n 3
        ∧ u.objWord n 2 = ((if tx then (w2 &&& 0xFFFFE0FF) ||| (d.setWidth 32 &&& 0x1F00) else w2) &&& ~~~ (d.setWidth 32 &&& 0x1B)))
    ∧ (2 ≤ j → tx = false → s.inOrder = true → ∃ u, exec (.canObjectWrite src a d 0xFF) s = .next u ∧ u.okayed src ∧ u.regs = s.regs
        ∧ ∀ b, memGet u.mem b = memGet s.mem b)
    ∧ (((2 ≤ j ∧ tx = true ∧ pend = true) ∨ (j = 0 ∧ (pend = true ∨ s.objMapped n = true))) →
      ∃ u, exec (.canObjectWrite src a d 0xFF) s = .next u ∧ u.refusedFor src .state ∧ u.mem = s.mem))

/-! ### Federation links -/

namespace Sys2Proof.Spec

/-- What a link that leaves UP may change: link states and the ready bits, the round and the master of the federation, holdover,
and the fault of it with its notices (R395, R397, R398, R403). -/
def linkReg : Reg → Bool
  | .FD_LSTAT _ | .FD_STAT | .FD_RANGE | .FD_TSTAT | .BLK_READY 3 => true
  | q => q == .FC_SSTAT 125 || noticeReg q

/-- The link is in no bond. -/
def lone (s : State) (n : Nat) : Prop := n < 4 ∧ s.flag (.FD_LCTL n) 2 = false

/-- The link trains: in TRAIN with FDn_PHYRDY high, else it waits for it; it is not UP and not ready. -/
def trains (s u : State) (n : Nat) : Prop :=
  u.linkState n = (if (s.link n).phy then 2 else 1) ∧ (u.link n).aligned = false ∧ (s.linkIsUp n = true → u.ready 3 n = false)

/-- One register field counts one more, up to 65,535. -/
def counted (s u : State) (r : Reg) (lo : Nat) : Prop := u.field r lo 16 = min 0xFFFF (s.field r lo 16 + 1)

/-- The timebase has reached `due`, where it had not, at the next edge of the clock that it counts from (R349). -/
def nowAt (s u : State) (due : Nat) : Prop :=
  u.now = if due ≤ s.now then s.now else (s.now + ceilDiv (due - s.now) s.tbUnit * s.tbUnit) % 2 ^ 64

/-- The cells that wait for the partner of an edge, or that it has not acknowledged (R394). -/
def outCells (u : State) (e : Nat) : List OutCell := (u.link (u.bondHead e)).queue ++ (u.link (u.bondHead e)).sent.map (·.2)

/-- A good sequenced cell comes in its order on a link that is UP, and asks for no resend (R394). -/
def inTurn (s : State) (n : Nat) (c : Cell) : Prop :=
  c.good = true ∧ seqType c.ty = true ∧ c.nak = false ∧ c.seqv = true ∧ c.byte 1 = (s.link (s.bondHead n)).rxSeq

end Sys2Proof.Spec

/-- DOMEN asks for the FED domain, or gives it up, and is refused while a link is enabled (R390, R402). An enabled link asks for one
grain; a disabled one is OFF and gives it back; bond fields hold while enabled (R390). PHYRDY lets the link train or stops it;
a TRAIN cell with RXOK brings it UP; training ends after 100 µs in FAILED and starts again 1 ms later (R395). A bad cell
counts CRCCNT and asks for a resend; ACK drops the acknowledged cells; NAK or the timeout counts a resend of those that are kept;
a sequenced cell is taken in its order only, joins its message, or goes on towards its destination (R394, R396, R399). Too many
failures or a slip retrain (R394, R396). BONDSYNC names the members that are UP, and the stripe restarts once both ends have named
the same (R393, R397). In HALT links send and take nothing (R476).
Choices of the model that it rests on: log entries 34 and 106. -/
def Obligations.FederationLinks : Prop :=
  let off := fun (f : Reg → Bool) (s u : State) => s.regsKept u f ∧ u.mem = s.mem
  let timed := fun (n : Nat) (q : Reg) => q == .FD_LSTAT n || q == .TB_LO || q == .TB_HI
  (∀ (s : State) (src : Src) (v : Word), s.admits src .FD_CTL v = true → bit v 4 = false →
    bit v 8 = s.flag .FD_CTL 8 → (s.flag .FD_CTL 8 = true → s.flag .FD_TSTAT 29 = false ∧ s.flag .FD_TSTAT 28 = false) →
    (s.flag .FD_CTL 31 = false → bit v 31 = true →
      ∃ u, exec (.fdCtlDomenWrite src v) s = .next u ∧ s.accepted u src (· == .FD_CTL) ∧ u.rd .FD_CTL = v &&& 0x80000101
        ∧ u.pd 3 = (if (s.pd 3).phase = .off then { s.pd 3 with req := true, phase := .rampUp, want := true }
                    else { s.pd 3 with want := true }))
    ∧ (s.flag .FD_CTL 31 = true → bit v 31 = false → (∀ n < 4, s.flag (.FD_LCTL n) 31 = false) →
      ∃ u, exec (.fdCtlDomenWrite src v) s = .next u ∧ s.accepted u src (fun q => q == .FD_CTL || q == .BLK_READY 3)
        ∧ u.rd .FD_CTL = v &&& 0x80000101 ∧ (u.pd 3).want = false
        ∧ ((s.pd 3).phase = .on → (u.pd 3).phase = .draining ∧ ∀ n < 4, u.ready 3 n = false)
        ∧ ((s.pd 3).phase ≠ .on → (u.pd 3).phase = (s.pd 3).phase))
    ∧ (bit v 31 = s.flag .FD_CTL 31 →
      ∃ u, exec (.fdCtlDomenWrite src v) s = .next u ∧ s.accepted u src (· == .FD_CTL) ∧ u.rd .FD_CTL = v &&& 0x80000101 ∧ u.pds = s.pds)
    ∧ (s.flag .FD_CTL 31 = true → bit v 31 = false → (∃ n < 4, s.flag (.FD_LCTL n) 31 = true) →
      ∃ u, exec (.fdCtlDomenWrite src v) s = .next u ∧ s.turnedAway u src .state ∧ u.rd .FD_CTL = s.rd .FD_CTL ∧ u.pds = s.pds))
  ∧ (∀ (s : State) (src : Src) (n : Nat) (v : Word),
    (s.admits src (.FD_LCTL n) (setBit v 31 true) = true →
      (s.flag (.FD_LCTL n) 31 = false →
        ∃ u, exec (.fdLinkEnable src n v) s = .next u ∧ s.accepted u src (· == .FD_LCTL n) ∧ u.flag (.FD_LCTL n) 31 = true
          ∧ u.field (.FD_LCTL n) 0 3 = fld v 0 3
          ∧ u.apWait = (if s.apHolds (.link n) || s.apWaits (.link n) then s.apWait else s.apWait ++ [⟨.link n, 1⟩]))
      ∧ (s.flag (.FD_LCTL n) 31 = true → s.field (.FD_LCTL n) 0 3 = fld v 0 3 →
        ∃ u, exec (.fdLinkEnable src n v) s = .next u ∧ s.accepted u src (· == .FD_LCTL n) ∧ u.flag (.FD_LCTL n) 31 = true
          ∧ u.field (.FD_LCTL n) 0 3 = fld v 0 3 ∧ u.links = s.links ∧ u.apWait = s.apWait)
      ∧ (s.flag (.FD_LCTL n) 31 = true → s.field (.FD_LCTL n) 0 3 ≠ fld v 0 3 →
        ∃ u, exec (.fdLinkEnable src n v) s = .next u ∧ s.turnedAway u src .state ∧ u.rd (.FD_LCTL n) = s.rd (.FD_LCTL n) ∧ u.links = s.links))
    ∧ (s.admits src (.FD_LCTL n) (setBit v 31 false) = true →
      (s.flag (.FD_LCTL n) 31 = true → s.field (.FD_LCTL n) 0 3 = fld v 0 3 →
        ∃ u, exec (.fdLinkDisable src n v) s = .next u ∧ s.accepted u src (fun q => q == .FD_LCTL n || Spec.linkReg q)
          ∧ u.flag (.FD_LCTL n) 31 = false ∧ u.linkState n = 0 ∧ u.apHolds (.link n) = false ∧ u.apWaits (.link n) = false
          ∧ (s.linkIsUp n = true → u.ready 3 n = false))
      ∧ (s.flag (.FD_LCTL n) 31 = true → s.field (.FD_LCTL n) 0 3 ≠ fld v 0 3 →
        ∃ u, exec (.fdLinkDisable src n v) s = .next u ∧ s.turnedAway u src .state ∧ u.rd (.FD_LCTL n) = s.rd (.FD_LCTL n) ∧ u.links = s.links)
      ∧ (s.flag (.FD_LCTL n) 31 = false →
        ∃ u, exec (.fdLinkDisable src n v) s = .next u ∧ s.accepted u src (· == .FD_LCTL n) ∧ u.field (.FD_LCTL n) 0 3 = fld v 0 3
          ∧ u.flag (.FD_LCTL n) 31 = false ∧ u.links = s.links)))
  ∧ (∀ (s : State) (n : Nat) (up : Bool), n < 4 →
    (up = true → s.linkState n = 1 → ∃ u, exec (.phyrdyChange n up) s = .next u ∧ (u.link n).phy = true ∧ u.linkState n = 2
      ∧ (u.link n).trainedAt = s.now ∧ off (· == .FD_LSTAT n) s u)
    ∧ (up = false → (s.linkState n = 2 ∨ s.linkState n = 3) → ∃ u, exec (.phyrdyChange n up) s = .next u ∧ (u.link n).phy = false
      ∧ u.linkState n = 1 ∧ (s.linkState n = 3 → u.ready 3 n = false) ∧ s.regsKept u Spec.linkReg)
    ∧ ((if up then s.linkState n ≠ 1 else s.linkState n ≠ 2 ∧ s.linkState n ≠ 3) →
      exec (.phyrdyChange n up) s = .next (s.setLink n { s.link n with phy := up })))
  ∧ (∀ (s : State) (n : Nat) (c : Cell), n < 4 →
    let p := fun (i : Nat) => (c.payload.getD i 0).toNat
    ((s.linksRun = false ∨ c.good = false ∨ c.ty ≠ 1 ∨ (s.linkState n ≠ 2 ∧ s.linkState n ≠ 3)) → exec (.trainCell n c) s = .next s)
    ∧ (s.linksRun = true → c.good = true → c.ty = 1 → (s.linkState n = 2 ∨ s.linkState n = 3) →
      ∃ u, exec (.trainCell n c) s = .next u ∧ u.linkState n = (if p 0 % 2 = 1 then 3 else s.linkState n)
        ∧ (s.linkState n = 2 → p 0 % 2 = 1 → u.ready 3 n = true)
        ∧ (u.link n).aligned = true ∧ (u.link n).partner = p 1 ∧ (p 0 / 2 % 2 = 1 → u.linkPeer n = (p 2 + 256 * p 3) % 2 ^ 14)
        ∧ off (fun q => (match q with | .FD_LSTAT _ => true | _ => false) || q == .BLK_READY 3) s u))
  ∧ (∀ (s : State) (n : Nat), n < 4 → s.linksRun = true →
    (s.linkState n ≠ 2 → exec (.trainingTimeout n) s = .next s)
    ∧ (s.linkState n = 2 → ∃ u, exec (.trainingTimeout n) s = .next u ∧ u.linkState n = 4 ∧ u.flag (.FD_LSTAT n) 28 = true
        ∧ Spec.nowAt s u ((s.link n).trainedAt + 160000) ∧ (u.link n).trainedAt = u.now ∧ off (timed n) s u)
    ∧ ((s.linkState n ≠ 4 ∨ s.flag (.FD_LCTL n) 31 = false) → exec (.failedTrainingRestart n) s = .next s)
    ∧ (s.linkState n = 4 → s.flag (.FD_LCTL n) 31 = true →
      ∃ u, exec (.failedTrainingRestart n) s = .next u ∧ Spec.trains s u n ∧ Spec.nowAt s u ((s.link n).trainedAt + 1600000)
        ∧ off (timed n) s u)
    ∧ (s.linkIsUp n = true → (8 ≤ (s.link (s.bondHead n)).resends ∨ 16 ≤ (s.link n).crcRun) →
      ∃ u, exec (.linkRetrain n) s = .next u ∧ Spec.trains s u n ∧ s.regsKept u Spec.linkReg)
    ∧ ((s.linkIsUp n = false ∨ ((s.link (s.bondHead n)).resends < 8 ∧ (s.link n).crcRun < 16)) → exec (.linkRetrain n) s = .next s)
    ∧ (s.linkIsUp n = true → ∃ u, exec (.elasticBufferSlip n) s = .next u ∧ Spec.trains s u n ∧ u.flag (.FD_LSTAT n) 27 = true
      ∧ s.regsKept u Spec.linkReg)
    ∧ (s.linkIsUp n = false → exec (.elasticBufferSlip n) s = .next s ∧ exec (.resendTimeout n) s = .next s)
    ∧ (s.linkIsUp n = true → (s.link (s.bondHead n)).sent = [] → exec (.resendTimeout n) s = .next s)
    ∧ (s.linkIsUp n = true → (s.link (s.bondHead n)).sent ≠ [] →
      ∃ u, exec (.resendTimeout n) s = .next u ∧ Spec.counted s u (.FD_LERR n) 0
        ∧ (u.link (s.bondHead n)).resends = (s.link (s.bondHead n)).resends + 1
        ∧ (u.link (s.bondHead n)).sent = (s.link (s.bondHead n)).sent ∧ off (· == .FD_LERR n) s u))
  ∧ (∀ (s : State) (n : Nat) (c : Cell), n < 4 → s.linksRun = true →
    (s.linkIsUp n = false → exec (.idleCell n c) s = .next s ∧ exec (.sequencedCellReceived n c) s = .next s)
    ∧ (s.linkIsUp n = true → c.good = true → (c.ty ≠ 0 → exec (.idleCell n c) s = .next s)
      ∧ (seqType c.ty = false → exec (.sequencedCellReceived n c) s = .next s)))
  ∧ (∀ (s : State) (n : Nat) (c : Cell), n < 4 → s.linksRun = true → s.linkIsUp n = true →
    let h := s.bondHead n
    let x := s.link h
    (c.good = false → ∃ u, (exec (.idleCell n c) s = .next u ∧ exec (.sequencedCellReceived n c) s = .next u)
      ∧ Spec.counted s u (.FD_LERR n) 16 ∧ (u.link n).nak = true ∧ (u.link n).crcRun = (s.link n).crcRun + 1
      ∧ (u.link h).rxSeq = x.rxSeq ∧ (u.link h).sent = x.sent ∧ off (· == .FD_LERR n) s u)
    ∧ (∀ k d l, c.good = true → c.ty = 0 → c.nak = false → x.sent = d :: l → (d.1 + k) % 256 = c.byte 2 →
      x.sent.length ≤ 64 → d.1 < 256 → k < 256 →
      ∃ u, exec (.idleCell n c) s = .next u ∧ (u.link n).crcRun = 0 ∧ u.regs = s.regs ∧ u.mem = s.mem
        ∧ (k ≤ x.sent.length → x.sent.drop k <+: (u.link h).sent ∧ (x.queue = [] → (u.link h).sent = x.sent.drop k)
            ∧ (0 < k → (u.link h).resends = 0))
        ∧ (x.sent.length < k → (u.link h).sent = x.sent ∧ (u.link h).resends = x.resends))
    ∧ (c.good = true → c.ty = 0 → c.nak = true → (∃ d l, x.sent = d :: l ∧ c.byte 2 = d.1 ∧ d.1 < 256) →
      ∃ u, exec (.idleCell n c) s = .next u ∧ Spec.counted s u (.FD_LERR n) 0 ∧ (u.link h).sent = x.sent
        ∧ (u.link h).resends = x.resends + 1 ∧ off (· == .FD_LERR n) s u)
    ∧ (c.good = true → seqType c.ty = true → c.nak = false → (c.seqv = false ∨ c.byte 1 ≠ x.rxSeq) →
      ∃ u, exec (.sequencedCellReceived n c) s = .next u ∧ (u.link n).nak = true ∧ (u.link h).rxSeq = x.rxSeq
        ∧ (u.link h).parts = x.parts ∧ u.regs = s.regs ∧ u.mem = s.mem)
    ∧ (Spec.inTurn s n c →
      (c.eom = false → c.ty ≠ 7 → (localType c.ty = true ∨ s.route c.dest = .own) →
        ∃ u, exec (.sequencedCellReceived n c) s = .next u ∧ (u.link h).rxSeq = (x.rxSeq + 1) % 256 ∧ (u.link n).nak = false
          ∧ (u.link h).parts = x.parts.filter (fun p => !(p.1 == c.ty && p.2.1 == c.srcWord))
              ++ [(c.ty, c.srcWord, (if c.som then [] else
                    (x.parts.filter (fun p => p.1 == c.ty && p.2.1 == c.srcWord)).flatMap (·.2.2)) ++ c.payload)]
          ∧ u.regs = s.regs ∧ u.mem = s.mem)
      ∧ (localType c.ty = false → s.route c.dest = .nowhere →
        ∃ u, exec (.sequencedCellReceived n c) s = .next u ∧ (u.link h).rxSeq = (x.rxSeq + 1) % 256
          ∧ Spec.counted s u (.FD_LERR n) 16 ∧ (u.link h).parts = x.parts ∧ off (· == .FD_LERR n) s u)
      ∧ (∀ e, localType c.ty = false → s.route c.dest = .edge e →
        ∃ u, exec (.sequencedCellReceived n c) s = .next u ∧ (u.link h).rxSeq = (x.rxSeq + 1) % 256 ∧ u.regs = s.regs ∧ u.mem = s.mem
          ∧ ⟨c.ty, c.som, c.eom, false, c.dest, c.srcWord, false, c.payload⟩ ∈ Spec.outCells u e)
      ∧ (c.ty = 2 → c.som = true → c.eom = true → (c.payload.getD 0 0).toNat = 1 →
        let o := ((c.payload.getD 1 0).toNat % 16, (c.payload.getD 2 0).toNat)
        ∃ u, exec (.sequencedCellReceived n c) s = .next u ∧ (u.link h).bondIn = some o
          ∧ (u.link h).stripe = (match x.bondOut with | some p => if p.1 = o.1 then p else x.stripe | none => x.stripe)
          ∧ u.regs = s.regs ∧ u.mem = s.mem)))
  ∧ (∀ (s : State) (n : Nat), n < 4 → s.linksRun = true →
    (s.flag (.FD_LCTL n) 2 = false → exec (.linkctlBondsync n) s = .next s)
    ∧ (s.flag (.FD_LCTL n) 2 = true → s.upMembers n ≠ [] →
      let mask := ((s.upMembers n).map (2 ^ ·)).sum
      let x := s.link (s.bondHead n)
      let first := (x.sent.head?.map (·.1)).getD x.txSeq
      ∃ u, exec (.linkctlBondsync n) s = .next u ∧ (u.link (s.bondHead n)).bondOut = some (mask, first) ∧ (u.link (s.bondHead n)).resends = 0
        ∧ (∃ c ∈ Spec.outCells u n,
            c.ty = 2 ∧ c.loc = true ∧ c.payload = leBytes 1 1 ++ leBytes 1 mask ++ leBytes 1 first ++ List.replicate 5 0)
        ∧ (∀ m ∈ s.bondGroup n, s.linkIsUp m = true → m ∉ s.upMembers n → u.flag (.FD_LSTAT m) 26 = true)
        ∧ off (fun q => match q with | .FD_LSTAT _ => true | _ => false) s u))
  ∧ (∀ (s : State) (n : Nat) (c : Cell), n < 4 → s.linksRun = false →
    ∀ i ∈ [Instr.trainingTimeout n, .trainCell n c, .linkRetrain n, .failedTrainingRestart n, .idleCell n c, .sequencedCellReceived n c,
      .resendTimeout n, .elasticBufferSlip n, .linkctlBondsync n], exec i s = .next s)

/-! ### Enumeration and time of the federation -/

namespace Sys2Proof.Spec

/-- A cell for this block that comes in its turn ends message `m` of a type (R391 to R394, R399). -/
def message (s : State) (n : Nat) (c : Cell) (ty : Nat) (m : List Byte) : Prop :=
  n < 4 ∧ s.linksRun = true ∧ s.linkIsUp n = true ∧ inTurn s n c ∧ c.ty = ty ∧ c.eom = true
    ∧ (localType ty = true ∨ s.route c.dest = .own)
    ∧ m = (if c.som then [] else
        ((s.link (s.bondHead n)).parts.filter (fun x => x.1 == ty && x.2.1 == c.srcWord)).flatMap (·.2.2)) ++ c.payload

/-- The cell ends no message of the type. -/
def noMessage (c : Cell) (ty : Nat) : Prop := c.good = false ∨ c.ty ≠ ty ∨ c.eom = false

/-- Byte `i` of a message. -/
def msgByte (m : List Byte) (i : Nat) : Nat := (m.getD i 0).toNat

/-- A link-local ENUM message of 8 bytes waits on edge `e`, or is sent (R393). -/
def enumSent (u : State) (e : Nat) (m : List Nat) : Prop :=
  ∃ c ∈ outCells u e, c.ty = 4 ∧ c.loc = true
    ∧ c.payload = leBytes 1 (m.getD 0 0) ++ leBytes 1 (m.getD 1 0) ++ leBytes 2 (m.getD 2 0) ++ leBytes 2 (m.getD 3 0)
        ++ leBytes 1 (m.getD 4 0) ++ leBytes 1 (m.getD 5 0)

/-- The next free ID is offered on edge `e`, and the edges of `l` wait for their turn (R398). -/
def offers (u : State) (e : Nat) (l : List Nat) (id : Nat) : Prop :=
  u.fed.offered = some e ∧ u.fed.todo = l ∧ u.fed.nextId = id ∧ enumSent u e [1, u.round, id, 0, 0, 0]

/-- Every edge has been offered: the node answers its parent, or the root names the best node time master (R398, R400). -/
def answers (s u : State) : Prop :=
  u.rd .FD_RANGE = BitVec.ofNat 32 (u.fed.nextId - 1) ∧ (u.fed.err = true → u.flag .FD_STAT 30 = true)
    ∧ (u.flag .FD_STAT 21 = true → enumSent u (u.field .FD_STAT 16 2)
        [2, u.round, u.fed.nextId - 1, u.fed.best.2, u.fed.best.1, u.fed.err.toNat + 2 * u.fed.children.isEmpty.toNat])
    ∧ (u.flag .FD_STAT 21 = false → u.flag .FD_STAT 31 = true ∧ u.field .FD_TSTAT 0 14 = u.fed.best.2 % 2 ^ 14
        ∧ u.flag .FD_TSTAT 30 = decide (s.nodeId = u.fed.best.2)
        ∧ ∀ x ∈ u.fed.children, enumSent u x.1 [4, u.round, u.fed.best.2, 0, 0, 0])

/-- The registers of enumeration. -/
def enumReg : Reg → Bool
  | .FD_STAT | .FD_RANGE | .FD_TSTAT => true
  | .FD_LSTAT _ => true
  | _ => false

end Sys2Proof.Spec

/-- Enumeration (R398, R400). ENUM at the root starts a round with ID 0. An offer of a new round gives the node its ID and its
parent edge, and it offers the next ID on its other edges in link order; a second offer of the round is rejected, and the edge is
NONTREE. ENUM_DONE makes its edge a child edge with its subtree's range; ENUM_REJ makes it NONTREE; then the next edge is offered.
After the last edge FD_RANGE holds the last ID of the subtree, and the node answers its parent, or the root names the best node
time master. An offer beyond ID 16,383 is not made, and ENUMERR sets. ENUM_MASTER gives FD_TSTAT its master, is passed on to the
children and sets ENUMDONE. A message of another round or edge, and a cell that ends no ENUM message, change nothing.
Choices of the model that it rests on: log entries 24 and 35. -/
def Obligations.FederationEnumeration : Prop :=
  (∀ (s : State) (src : Src) (v : Word), s.admits src .FD_CTL (setBit v 4 true) = true → bit v 8 = s.flag .FD_CTL 8 →
    (s.flag .FD_CTL 8 = true → s.flag .FD_TSTAT 29 = false ∧ s.flag .FD_TSTAT 28 = false) → bit v 31 = s.flag .FD_CTL 31 →
    (bit v 0 = false → ∃ u, exec (.fdCtlEnum src v) s = .next u ∧ s.accepted u src (· == .FD_CTL) ∧ u.fed = s.fed ∧ u.links = s.links)
    ∧ (bit v 0 = true →
      ∃ u, exec (.fdCtlEnum src v) s = .next u ∧ s.accepted u src (fun q => q == .FD_CTL || Spec.enumReg q) ∧ u.mem = s.mem
        ∧ u.round = (s.round + 1) % 256 ∧ u.field .FD_STAT 0 14 = 0 ∧ u.flag .FD_STAT 21 = false ∧ u.fed.holds = true ∧ u.fed.nextId = 1
        ∧ u.fed.best = (s.field .FD_TCFG 24 8, 0) ∧ u.fed.children = []
        ∧ (s.upEdges = [] → u.rd .FD_RANGE = 0 ∧ u.flag .FD_STAT 31 = true ∧ u.field .FD_TSTAT 0 14 = 0 ∧ u.flag .FD_TSTAT 30 = true)
        ∧ (∀ e l, s.upEdges = e :: l → u.flag .FD_STAT 31 = false ∧ Spec.offers u e l 1)))
  ∧ (∀ (s : State) (n : Nat) (c : Cell) (m : List Byte), Spec.message s n c 4 m → Spec.msgByte m 0 = 1 →
    let e := s.edgeOf n
    let r := Spec.msgByte m 1
    let id := (Spec.msgByte m 2 + 256 * Spec.msgByte m 3) % 2 ^ 14
    let prio := s.field .FD_TCFG 24 8
    (s.fed.holds = true → r = s.round →
      ∃ u, exec (.enumOffer n c) s = .next u ∧ u.field (.FD_LSTAT e) 24 2 = 3 ∧ Spec.enumSent u e [3, r, 0, 0, 0, 0] ∧ u.fed = s.fed
        ∧ s.regsKept u (fun q => match q with | .FD_LSTAT _ => true | _ => false) ∧ u.mem = s.mem)
    ∧ ((s.fed.holds = false ∨ r ≠ s.round) →
      ∃ u, exec (.enumOffer n c) s = .next u ∧ u.round = r ∧ u.field .FD_STAT 0 14 = id ∧ u.flag .FD_STAT 21 = true ∧ u.field .FD_STAT 16 2 = e
        ∧ u.field (.FD_LSTAT e) 24 2 = 1 ∧ u.fed.holds = true ∧ u.flag .FD_STAT 31 = false ∧ u.fed.nextId = id + 1 ∧ u.fed.children = []
        ∧ u.fed.best = (prio, id) ∧ s.regsKept u Spec.enumReg ∧ u.mem = s.mem
        ∧ (s.upEdges.filter (· ≠ e) = [] → u.rd .FD_RANGE = BitVec.ofNat 32 id ∧ Spec.enumSent u e [2, r, id, id, prio, 2])
        ∧ (∀ e' l, s.upEdges.filter (· ≠ e) = e' :: l →
            (id + 1 < 2 ^ 14 → Spec.offers u e' l (id + 1))
            ∧ (2 ^ 14 ≤ id + 1 → u.rd .FD_RANGE = BitVec.ofNat 32 id ∧ u.flag .FD_STAT 30 = true
                ∧ Spec.enumSent u e [2, r, id, id, prio, 3]))))
  ∧ (∀ (s : State) (n : Nat) (c : Cell) (m : List Byte), Spec.message s n c 4 m → Spec.msgByte m 0 = 2 →
    let e := s.edgeOf n
    let r := Spec.msgByte m 1
    let id := (Spec.msgByte m 2 + 256 * Spec.msgByte m 3) % 2 ^ 14
    let mine := s.fed.best
    let theirs := (Spec.msgByte m 6, (Spec.msgByte m 4 + 256 * Spec.msgByte m 5) % 2 ^ 14)
    (s.fed.offered = some e → r = s.round →
      ∃ u, exec (.enumDone n c) s = .next u ∧ u.field (.FD_LSTAT e) 24 2 = 2 ∧ u.fed.children = s.fed.children ++ [(e, s.fed.nextId, id)]
        ∧ u.fed.nextId = id + 1 ∧ u.fed.best = (if theirs.1 < mine.1 ∨ (theirs.1 = mine.1 ∧ theirs.2 < mine.2) then theirs else mine)
        ∧ s.regsKept u Spec.enumReg ∧ u.mem = s.mem
        ∧ (s.fed.todo = [] → u.fed.err = (s.fed.err || decide (Spec.msgByte m 7 % 2 = 1)) ∧ Spec.answers s u)
        ∧ (∀ e' l, s.fed.todo = e' :: l → s.linkIsUp e' = true →
            (id + 1 < 2 ^ 14 → Spec.offers u e' l (id + 1)) ∧ (2 ^ 14 ≤ id + 1 → u.flag .FD_STAT 30 = true ∧ Spec.answers s u)))
    ∧ ((s.fed.offered ≠ some e ∨ r ≠ s.round) → ∃ u, exec (.enumDone n c) s = .next u ∧ u.fed = s.fed ∧ u.regs = s.regs ∧ u.mem = s.mem))
  ∧ (∀ (s : State) (n : Nat) (c : Cell) (m : List Byte), Spec.message s n c 4 m → Spec.msgByte m 0 = 3 →
    let e := s.edgeOf n
    (s.fed.offered = some e → Spec.msgByte m 1 = s.round →
      ∃ u, exec (.enumRej n c) s = .next u ∧ u.field (.FD_LSTAT e) 24 2 = 3 ∧ u.fed.children = s.fed.children ∧ u.fed.nextId = s.fed.nextId
        ∧ u.fed.best = s.fed.best ∧ s.regsKept u Spec.enumReg ∧ u.mem = s.mem
        ∧ (s.fed.todo = [] → Spec.answers s u)
        ∧ (∀ e' l, s.fed.todo = e' :: l → s.linkIsUp e' = true → s.fed.nextId < 2 ^ 14 → Spec.offers u e' l s.fed.nextId))
    ∧ ((s.fed.offered ≠ some e ∨ Spec.msgByte m 1 ≠ s.round) →
      ∃ u, exec (.enumRej n c) s = .next u ∧ u.fed = s.fed ∧ u.regs = s.regs ∧ u.mem = s.mem))
  ∧ (∀ (s : State) (n : Nat) (c : Cell) (m : List Byte), Spec.message s n c 4 m → Spec.msgByte m 0 = 4 →
    let e := s.edgeOf n
    let id := (Spec.msgByte m 2 + 256 * Spec.msgByte m 3) % 2 ^ 14
    (Spec.msgByte m 1 = s.round → s.flag .FD_STAT 21 = true → s.field .FD_STAT 16 2 = e →
      ∃ u, exec (.enumMaster n c) s = .next u ∧ u.field .FD_TSTAT 0 14 = id ∧ u.flag .FD_TSTAT 30 = decide (s.nodeId = id)
        ∧ u.flag .FD_STAT 31 = true ∧ (∀ e < 4, s.route id = .edge e → u.field .FD_TSTAT 16 2 = e)
        ∧ (s.route id = .own → u.field .FD_TSTAT 20 4 = 0)
        ∧ (∀ x ∈ s.fed.children, Spec.enumSent u x.1 [4, s.round, id, 0, 0, 0])
        ∧ s.regsKept u Spec.enumReg ∧ u.mem = s.mem)
    ∧ ((Spec.msgByte m 1 ≠ s.round ∨ s.flag .FD_STAT 21 = false ∨ s.field .FD_STAT 16 2 ≠ e) →
      ∃ u, exec (.enumMaster n c) s = .next u ∧ u.fed = s.fed ∧ u.regs = s.regs ∧ u.mem = s.mem))
  ∧ (∀ (s : State) (n : Nat) (c : Cell), n < 4 → (s.linksRun = false ∨ Spec.noMessage c 4) →
    ∀ i ∈ [Instr.enumOffer n c, .enumDone n c, .enumRej n c, .enumMaster n c], exec i s = .next s)

/-- Time exchanges (R401): DREQ carries t1; the parent answers with t2 and t3 and follows with SYNC; the child computes twice the
delay and the offset, and the means of the last 16 exchanges give FD_HOPDLY and FD_TOFS, with DEPTH one more than the parent's
(R400, R404). The sixteenth of a JOIN aligns the timebase by a multiple of 40 units, and FED and SYNC set (R402). An offset
beyond TLIM of a joined node is a fault (R403). JOIN is refused while a group is not IDLE, a ready CAN controller is out of
initialisation or an adjustment is pending; the master joins at once, another node after 16 exchanges; leaving clears FED and SYNC
(R402, R403). When the time-parent link leaves UP the node holds over and raises its fault (R403). A publication goes to the F view
of the subscription that names it, waits for the freeze that it would not be written before, or sets SIZEERR; one that no
subscription names is discarded (R406). A MGMT message goes to the mailbox, or is held until there is space (R393).
Choices of the model that it rests on: log entries 22, 23 and 25. -/
def Obligations.FederationTimeAndMessages : Prop :=
  let timeCell := fun (s : State) (n : Nat) (c : Cell) (kind : Nat) =>
    s.linksRun = true ∧ s.linkIsUp n = true ∧ c.good = true ∧ c.ty = 3 ∧ Spec.num (c.payload.take 1) = kind
  let toParent := fun (s : State) (n : Nat) => s.flag .FD_STAT 31 = true ∧ s.flag .FD_TSTAT 30 = false ∧ s.field .FD_TSTAT 16 2 = n
  let time := fun (k x d p m a b : Nat) =>
    leBytes 1 k ++ leBytes 1 x ++ leBytes 1 d ++ leBytes 1 p ++ leBytes 2 m ++ leBytes 2 0 ++ leBytes 8 a ++ leBytes 8 b
  let at8 := fun (c : Cell) (o : Nat) => Spec.num ((c.payload.drop o).take 8)
  let at1 := fun (c : Cell) (o : Nat) => Spec.num ((c.payload.drop o).take 1)
  let depth := fun (u : State) (d : Nat) => u.field .FD_TSTAT 20 4 = min 15 (d + 1) ∧ u.flag .FD_TSTAT 27 = decide (9 < d + 1)
  (∀ (s : State) (n : Nat), n < 4 →
    (s.linksRun = true → s.linkIsUp n = true → toParent s n →
      let x := (s.fed.xnum + 1) % 256
      ∃ u, exec (.timeExchangeDue n) s = .next u ∧ u.fed.xnum = x ∧ u.fed.t1 = s.now ∧ (u.link n).timeOut = [time 1 x 0 0 0 s.now 0]
        ∧ u.regs = s.regs ∧ u.mem = s.mem)
    ∧ ((s.linksRun = false ∨ s.linkIsUp n = false ∨ ¬ toParent s n) → exec (.timeExchangeDue n) s = .next s))
  ∧ (∀ (s : State) (n : Nat) (c : Cell) (phase launch : Nat), n < 4 →
    let prio := if s.flag .FD_TSTAT 30 then s.field .FD_TCFG 24 8 else s.fed.mprio
    let d := s.field .FD_TSTAT 20 4
    let m := s.field .FD_TSTAT 0 14
    let x := at1 c 1
    (timeCell s n c 1 → ∃ u, exec (.timeDreq n c phase launch) s = .next u ∧ u.regs = s.regs ∧ u.fed = s.fed ∧ u.mem = s.mem
      ∧ (u.link n).timeOut = [time 2 x d prio m (s.now + phase) launch, time 3 x d prio m (launch + 128) 0])
    ∧ (¬ timeCell s n c 1 → exec (.timeDreq n c phase launch) s = .next s))
  ∧ (∀ (s : State) (n : Nat) (c : Cell) (phase : Nat), n < 4 →
    (timeCell s n c 2 → toParent s n → at1 c 1 = s.fed.xnum →
      ∃ u, exec (.timeDresp n c phase) s = .next u ∧ u.fed.mprio = at1 c 3
        ∧ u.fed.cur = some (((s.now + phase : Nat) : Int) - s.fed.t1 - ((at8 c 16 : Int) - at8 c 8))
        ∧ depth u (at1 c 2) ∧ s.regsKept u (· == .FD_TSTAT) ∧ u.mem = s.mem)
    ∧ ((¬ timeCell s n c 2 ∨ ¬ toParent s n ∨ at1 c 1 ≠ s.fed.xnum) → exec (.timeDresp n c phase) s = .next s))
  ∧ (∀ (s : State) (n : Nat) (c : Cell) (phase : Nat), n < 4 →
    (¬ timeCell s n c 3 ∨ ¬ toParent s n ∨ s.fed.cur = none ∨ at1 c 1 ≠ s.fed.xnum) → exec (.timeSync n c phase) s = .next s)
  ∧ (∀ (s : State) (n : Nat) (c : Cell) (phase : Nat) (d : Int), n < 4 → timeCell s n c 3 → toParent s n → s.fed.cur = some d →
    at1 c 1 = s.fed.xnum →
    let all := s.fed.hops ++ [(d, (at8 c 8 : Int) - ((s.now + phase : Nat) : Int))]
    let kept := all.drop (all.length - 16)
    let ds := (kept.map (·.1)).sum
    let e := (2 * (kept.map (·.2)).sum + ds) / (2 * (kept.length : Int))
    let beyond := s.flag .TB_STAT 2 = true ∧ s.field .FD_TCFG 16 8 < e.natAbs
    ∃ u, exec (.timeSync n c phase) s = .next u ∧ u.fed.cur = none ∧ depth u (at1 c 2) ∧ u.fed.mprio = at1 c 3
      ∧ u.rd (.FD_HOPDLY n) = BitVec.ofInt 32 (ds / (2 * (kept.length : Int))) ∧ u.rd .FD_TOFS = BitVec.ofInt 32 e
      ∧ ((if s.fed.joining then kept.length ≠ 16 else ¬ beyond) →
          u.fed.hops = kept ∧ s.regsKept u (fun q => q == .FD_TSTAT || q == .FD_TOFS || q == .FD_HOPDLY n) ∧ u.mem = s.mem)
      ∧ (s.fed.joining = true → kept.length = 16 → u.flag .TB_STAT 2 = true ∧ u.flag .FD_TSTAT 31 = true ∧ u.flag .FD_TSTAT 29 = false
          ∧ u.fed.joining = false ∧ (u.now : Int) = ((s.now : Int) + -((-e) / 40) * 40) % 2 ^ 64)
      ∧ (s.fed.joining = false → beyond → u.flag .FD_TSTAT 28 = true
          ∧ (s.clk.held = false → s.flag (.FC_SCFG 125) 8 = false → u.latched 125 = true)))
  ∧ (∀ (s : State) (src : Src) (v : Word), bit v 4 = false → bit v 31 = s.flag .FD_CTL 31 →
    let bars := s.allIdle = false ∨ s.tbAdj ≠ none ∨ ∃ c < s.build.can, s.ready 2 (16 + c) = true ∧ s.flag (.CN_CTL c) 0 = false
    let anew := s.flag .FD_CTL 8 = false ∨ s.flag .FD_TSTAT 29 = true ∨ s.flag .FD_TSTAT 28 = true
    (s.admits src .FD_CTL (setBit v 8 true) = true →
      (anew → ¬ bars → s.flag .FD_TSTAT 30 = true →
        ∃ u, exec (.fedJoin src v) s = .next u ∧ s.accepted u src (fun q => q == .FD_CTL || q == .TB_STAT || q == .FD_TSTAT)
          ∧ u.flag .TB_STAT 2 = true ∧ u.flag .FD_TSTAT 31 = true ∧ u.flag .FD_CTL 8 = true)
      ∧ (anew → ¬ bars → s.flag .FD_TSTAT 30 = false →
        ∃ u, exec (.fedJoin src v) s = .next u ∧ s.accepted u src (· == .FD_CTL) ∧ u.fed.joining = true ∧ u.fed.hops = []
          ∧ u.flag .FD_CTL 8 = true)
      ∧ (¬ anew → ∃ u, exec (.fedJoin src v) s = .next u ∧ s.accepted u src (· == .FD_CTL) ∧ u.fed = s.fed ∧ u.flag .FD_CTL 8 = true)
      ∧ (anew → bars →
        ∃ u, exec (.fedJoin src v) s = .next u ∧ s.turnedAway u src .state ∧ u.rd .FD_CTL = s.rd .FD_CTL ∧ u.fed = s.fed))
    ∧ (s.admits src .FD_CTL (setBit v 8 false) = true →
      (s.flag .FD_CTL 8 = true →
        ∃ u, exec (.fedLeave src v) s = .next u ∧ s.accepted u src (fun q => q == .FD_CTL || q == .TB_STAT || q == .FD_TSTAT)
          ∧ u.flag .TB_STAT 2 = false ∧ u.flag .FD_TSTAT 31 = false ∧ u.fed.joining = false ∧ u.flag .FD_CTL 8 = false)
      ∧ (s.flag .FD_CTL 8 = false →
        ∃ u, exec (.fedLeave src v) s = .next u ∧ s.accepted u src (· == .FD_CTL) ∧ u.flag .FD_CTL 8 = false ∧ u.fed = s.fed)))
  ∧ (∀ s : State,
    let n := s.field .FD_TSTAT 16 2
    ((s.flag .TB_STAT 2 = false ∨ s.flag .FD_TSTAT 30 = true) → exec .fedHoldover s = .next s)
    ∧ (s.flag .TB_STAT 2 = true → s.flag .FD_TSTAT 30 = false →
      ∃ u, exec .fedHoldover s = .next u ∧ u.now = s.now ∧ s.regsKept u Spec.linkReg ∧ (s.linkIsUp n = true → Spec.trains s u n)
        ∧ ((s.linkIsUp n = true → s.fed.offered ≠ some (s.edgeOf n)) → u.flag .FD_TSTAT 29 = true
            ∧ (s.flag .FD_TSTAT 29 = false → s.clk.held = false → s.flag (.FC_SCFG 125) 8 = false → u.latched 125 = true))))
  ∧ (∀ (s : State) (n : Nat) (c : Cell) (m : List Byte), Spec.message s n c 5 m →
    let ck := Spec.num ((m.drop 8).take 8)
    let data := (m.drop 24).take (4 * Spec.num ((m.drop 18).take 2))
    let names := fun (i : Nat) => s.flag (.FD_SUB i 0) 31 = true ∧ s.field (.FD_SUB i 1) 16 14 = c.srcWord
      ∧ s.field (.FD_SUB i 1) 0 4 = Spec.num ((m.drop 16).take 1)
    ((∀ i < 16, ¬ names i) → ∃ u, exec (.pubReceived n c) s = .next u ∧ u.regs = s.regs ∧ u.mem = s.mem ∧ u.fed = s.fed)
    ∧ ∀ j < 16, names j → (∀ i < 16, i ≠ j → ¬ names i) →
      let w := s.field (.FD_SUB j 0) 0 18
      (s.viewSize .F < 4 * w + data.length →
        ∃ u, exec (.pubReceived n c) s = .next u ∧ u.flag .FD_SUBSTAT j = true ∧ s.regsKept u (· == .FD_SUBSTAT) ∧ u.mem = s.mem)
      ∧ (0 < data.length → 4 * w + data.length ≤ s.viewSize .F → Spec.memoryPlain s →
        s.dmaWriteRefusal (smBase + s.viewBase .F + 4 * w) data.length = none →
        ∃ u, exec (.pubReceived n c) s = .next u ∧ s.memBecomes u (smBase + s.viewBase .I + 4 * w) data ∧ u.regs = s.regs)
      ∧ (∀ g < 8, 4 * w + data.length ≤ s.viewSize .F → s.gState g ≠ 0 → s.inISlice g (w / 16) = true →
          (∀ i < g, s.gState i = 0 ∨ s.inISlice i (w / 16) = false) → s.now < s.freezeAt g (s.freezeFrom g ck) →
          s.freezeAt g (s.freezeFrom g ck) < s.now + 2 * (ceilDiv data.length 16 + 16) →
        ∃ u, exec (.pubReceived n c) s = .next u ∧ u.fed.late = s.fed.late ++ [(g, j, w, data)] ∧ u.regs = s.regs ∧ u.mem = s.mem))
  ∧ (∀ (s : State) (n : Nat) (c : Cell) (m : List Byte), Spec.message s n c 8 m →
    let h := s.bondHead n
    let bs := (m.drop 8).take (Spec.num (m.take 4))
    let base := smBase + s.field .UP_MBOX 10 13 * 1024
    (∀ f l, (s.link h).held ++ [bs] = f :: l → s.mboxFree < f.length →
      ∃ u, exec (.mgmtMessageReceived n c) s = .next u ∧ (u.link h).held = (s.link h).held ++ [bs] ∧ u.regs = s.regs ∧ u.mem = s.mem)
    ∧ ((s.link h).held = [] → bs.length ≤ s.mboxFree → s.inOrder = true → s.rd .SC_IMGSIZE = 0 → s.ecc = [] → s.writeBacks = [] →
      (∀ o n, o + n ≤ s.mboxSize → s.dmaWriteRefusal (base + o) n = none) → 0 < s.mboxSize →
      ∃ u, exec (.mgmtMessageReceived n c) s = .next u ∧ (u.link h).held = [] ∧ u.rd .UP_MBOXWR = s.rd .UP_MBOXWR + BitVec.ofNat 32 bs.length
        ∧ s.regsKept u (· == .UP_MBOXWR) ∧ ∀ k < bs.length,
          memGet u.mem (base + ((s.rd .UP_MBOXWR).toNat + k) % s.mboxSize) = bs.getD k 0))
  ∧ (∀ (s : State) (n : Nat) (c : Cell), n < 4 →
    ((s.linksRun = false ∨ Spec.noMessage c 5) → exec (.pubReceived n c) s = .next s)
    ∧ ((s.linksRun = false ∨ Spec.noMessage c 8) → exec (.mgmtMessageReceived n c) s = .next s))

/-! ### Mirror pairing -/

namespace Sys2Proof.Spec

/-- Message `m` to the peer of a pair, of one cell, waits on the edge to it, or is sent (R408). -/
def peerSent (u : State) (m : List Byte) : Prop :=
  ∃ e, u.peerEdge = some e ∧ ∃ c ∈ outCells u e, c.ty = 6 ∧ c.loc = false ∧ c.dest = u.field .MI_PEER 16 14 ∧ c.payload = m

/-- The header of R408. -/
def miHead (kind g b count scan : Nat) : List Byte := leBytes 1 kind ++ leBytes 1 g ++ leBytes 2 b ++ leBytes 4 count ++ leBytes 8 scan

/-- RSREQ with the ACTIVE value of each group (R417). -/
def rsreq (s : State) : List Byte := miHead 4 0 0 0 0 ++ (List.range 8).flatMap (fun g => leBytes 2 (s.field (.SC_EDITID g) 0 16))

/-- A cell from the peer, for this block, ends message `m` of type MIRROR and of a KIND (R391, R394, R408). -/
def peerMessage (s : State) (n : Nat) (c : Cell) (m : List Byte) (kind : Nat) : Prop :=
  message s n c 6 m ∧ c.srcWord = s.field .MI_PEER 16 14 ∧ s.flag .MI_CTL 31 = true ∧ num (m.take 1) = kind

/-- The pairing state has changed from that of `s`: EVIN[23] of every thread is set (R407). -/
def told (s u : State) : Prop :=
  u.field .MI_STAT 29 3 ≠ s.field .MI_STAT 29 3 → ∀ t n, s.hasThread t n = true → u.flag (.TH_EVPEND t n) 23 = true

/-- What a resync leaves: the mirrored groups suppressed, nothing compared or awaited, RSREQ out (R417). -/
def resyncing (s u : State) : Prop :=
  u.field .MI_STAT 29 3 = 2 ∧ u.mirror.asked = true ∧ u.mirror.rsdone = false ∧ u.mirror.suppressed = (List.range 8).filter u.mirrored
    ∧ u.mirror.own = [] ∧ u.mirror.theirs = [] ∧ told s u ∧ (s.peerEdge.isSome = true → peerSent u (rsreq s))

/-- The registers of a change of the pairing state: MI_STAT and the events of it (R407). -/
def pairReg : Reg → Bool
  | .MI_STAT | .TH_EVPEND _ _ => true
  | _ => false

/-- Line entry `i` of a message whose entries stand from byte `o` on: its view, its line and its data (R408). -/
def entry (m : List Byte) (o i : Nat) : Nat × Nat × List Byte :=
  (num ((m.drop (o + 68 * i)).take 4) / 2 ^ 30, num ((m.drop (o + 68 * i)).take 4) % 2 ^ 14, (m.drop (o + 68 * i + 4)).take 64)

/-- The banks, as shared-memory offsets, that a line of a resync goes to: both banks of an I or P line, its view of an M or H line
(R417). -/
def resyncBanks (s : State) (v : Nat) : List Nat :=
  match v with
  | 0 => [s.viewBase .I, s.viewBase .F]
  | 1 => [s.viewBase .Q, s.viewBase .P]
  | 2 => [s.viewBase .M]
  | _ => [s.viewBase .H]

/-- The view of a line entry (R408). -/
def viewOfEntry (v : Nat) : View := match v with | 0 => .I | 1 => .P | 2 => .M | _ => .H

/-- The bytes of one resync line stand in its banks, and every other byte of memory is unchanged. -/
def lineLands (s u : State) (x : Nat × Nat × List Byte) : Prop :=
  (∀ b ∈ resyncBanks s x.1, ∀ k < 64, memGet u.mem (smBase + b + 64 * x.2.1 + k) = x.2.2.getD k 0)
    ∧ ∀ a, (∀ b ∈ resyncBanks s x.1, a < smBase + b + 64 * x.2.1 ∨ smBase + b + 64 * x.2.1 + 64 ≤ a) → memGet u.mem a = memGet s.mem a

/-- A divergence with a cause is marked and raised, and a standby resynchronises (R412). -/
def diverged (s u : State) (cause : Nat) : Prop :=
  u.flag .MI_STAT 28 = true ∧ u.field .MI_STAT 20 3 = cause
    ∧ (s.clk.held = false → s.flag (.FC_SCFG 126) 8 = false → u.latched 126 = true) ∧ (s.standby = true → resyncing s u)

end Sys2Proof.Spec

/-- EN starts pairing: a primary in PRIMARY, a standby in RESYNC with RSREQ out; HELLO goes to the peer, and with no tree edge to it
ROLEERR sets and nothing is mirrored; a written EN = 0 ends pairing; other fields are written only while EN is 0 (R407, R417,
R418). RESYNC starts a resync in a standby. A HELLO of equal roles is ROLEERR, unless a primary meets one that took over, which
demotes it, or has taken over itself; one from a primary brings a standby in ORPHAN or RESYNC into RESYNC (R407, R418). Each change
of the state sets EVIN[23] (R407).
Choices of the model that it rests on: log entry 40. -/
def Obligations.MirrorRoles : Prop :=
  let hello := fun (s : State) (sb : Nat) => Spec.miHead 5 0 (sb + 2 * (s.flag .MI_STAT 24).toNat) 0 0
  (∀ (s : State) (src : Src) (v : Word), s.admits src .MI_CTL (setBit v 31 true) = true →
    let role := fld v 29 2
    (s.flag .MI_CTL 31 = false →
      (role = 1 → s.peerEdge.isSome = true →
        ∃ u, exec (.miEnable src v) s = .next u ∧ s.accepted u src (fun q => q == .MI_CTL || Spec.pairReg q) ∧ u.flag .MI_CTL 31 = true
          ∧ u.field .MI_CTL 0 8 = fld v 0 8 ∧ u.field .MI_STAT 29 3 = 1 ∧ Spec.told s u ∧ Spec.peerSent u (hello s 0) ∧ u.mem = s.mem)
      ∧ (role = 2 → s.peerEdge.isSome = true →
        ∃ u, exec (.miEnable src v) s = .next u ∧ s.accepted u src (fun q => q == .MI_CTL || Spec.pairReg q) ∧ u.flag .MI_CTL 31 = true
          ∧ u.field .MI_CTL 0 8 = fld v 0 8 ∧ Spec.resyncing s u ∧ Spec.peerSent u (hello s 1) ∧ u.mem = s.mem)
      ∧ ((role = 1 ∨ role = 2) → s.peerEdge = none →
        ∃ u, exec (.miEnable src v) s = .next u ∧ s.accepted u src (fun q => q == .MI_CTL || Spec.pairReg q) ∧ u.flag .MI_STAT 26 = true
          ∧ u.field .MI_STAT 29 3 = role ∧ Spec.told s u ∧ (∀ g, u.mirrored g = false) ∧ u.mem = s.mem)
      ∧ (role ≠ 1 → role ≠ 2 →
        ∃ u, exec (.miEnable src v) s = .next u ∧ s.turnedAway u src .state ∧ u.rd .MI_CTL = s.rd .MI_CTL ∧ u.mirror = s.mirror))
    ∧ (s.flag .MI_CTL 31 = true →
      ((s.field .MI_CTL 29 2 ≠ role ∨ s.field .MI_CTL 0 8 ≠ fld v 0 8) →
        ∃ u, exec (.miEnable src v) s = .next u ∧ s.turnedAway u src .state ∧ u.rd .MI_CTL = s.rd .MI_CTL ∧ u.mirror = s.mirror)
      ∧ (s.field .MI_CTL 29 2 = role → s.field .MI_CTL 0 8 = fld v 0 8 → bit v 28 = false →
        ∃ u, exec (.miEnable src v) s = .next u ∧ s.accepted u src (fun _ => false) ∧ u.mirror = s.mirror)))
  ∧ (∀ (s : State) (src : Src) (v : Word), s.admits src .MI_CTL (setBit v 31 false) = true →
    (s.flag .MI_CTL 31 = true →
      ∃ u, exec (.miDisable src v) s = .next u ∧ s.accepted u src (fun q => q == .MI_CTL || Spec.pairReg q) ∧ u.flag .MI_CTL 31 = false
        ∧ u.field .MI_STAT 29 3 = 0 ∧ Spec.told s u ∧ u.flag .MI_STAT 24 = false ∧ u.mirror.suppressed = s.mirror.suppressed
        ∧ u.mirror.own = [] ∧ u.mirror.theirs = [] ∧ u.mirror.takeover = [] ∧ u.mem = s.mem)
    ∧ (s.flag .MI_CTL 31 = false → (fld v 29 2 = 1 ∨ fld v 29 2 = 2) →
      ∃ u, exec (.miDisable src v) s = .next u ∧ s.accepted u src (· == .MI_CTL) ∧ u.flag .MI_CTL 31 = false
        ∧ u.field .MI_CTL 29 2 = fld v 29 2 ∧ u.field .MI_CTL 0 8 = fld v 0 8 ∧ u.mirror = s.mirror)
    ∧ (s.flag .MI_CTL 31 = false → fld v 29 2 ≠ 1 → fld v 29 2 ≠ 2 →
      ∃ u, exec (.miDisable src v) s = .next u ∧ s.turnedAway u src .state ∧ u.rd .MI_CTL = s.rd .MI_CTL ∧ u.mirror = s.mirror))
  ∧ (∀ (s : State) (src : Src) (v : Word), s.admits src .MI_CTL (setBit v 28 true) = true → s.flag .MI_CTL 31 = true → bit v 31 = true →
    let same := s.field .MI_CTL 29 2 = fld v 29 2 ∧ s.field .MI_CTL 0 8 = fld v 0 8
    let standby := s.field .MI_STAT 29 3 = 2 ∨ s.field .MI_STAT 29 3 = 3
    (same → standby → ∃ u, exec (.miResync src v) s = .next u ∧ s.accepted u src Spec.pairReg ∧ Spec.resyncing s u ∧ u.mem = s.mem)
    ∧ (same → ¬ standby → ∃ u, exec (.miResync src v) s = .next u ∧ s.accepted u src (fun _ => false) ∧ u.mirror = s.mirror)
    ∧ (¬ same → ∃ u, exec (.miResync src v) s = .next u ∧ s.turnedAway u src .state ∧ u.rd .MI_CTL = s.rd .MI_CTL ∧ u.mirror = s.mirror))
  ∧ (∀ (s : State) (n : Nat) (c : Cell) (m : List Byte), Spec.peerMessage s n c m 5 →
    let f := Spec.num ((m.drop 2).take 1)
    let took := decide (f / 2 % 2 = 1)
    let st := s.field .MI_STAT 29 3
    (st = 2 ∨ st = 4 → f % 2 = 0 →
      ∃ u, exec (.mirrorHello n c) s = .next u ∧ u.mirror.peer = some (false, took) ∧ Spec.resyncing s u ∧ s.regsKept u Spec.pairReg
        ∧ u.mem = s.mem)
    ∧ (st = 3 → f % 2 = 0 → ∃ u, exec (.mirrorHello n c) s = .next u ∧ u.mirror.peer = some (false, took) ∧ u.regs = s.regs ∧ u.mem = s.mem)
    ∧ ((st = 2 ∨ st = 3 ∨ st = 4) → f % 2 = 1 →
      ∃ u, exec (.mirrorHello n c) s = .next u ∧ u.flag .MI_STAT 26 = true ∧ (∀ g, u.mirrored g = false) ∧ s.regsKept u (· == .MI_STAT)
        ∧ u.field .MI_STAT 29 3 = st ∧ u.mem = s.mem)
    ∧ (st = 1 → f % 2 = 0 → took = true →
      ∃ u, exec (.mirrorHello n c) s = .next u ∧ u.flag .MI_STAT 23 = true ∧ u.flag .MI_STAT 24 = false ∧ Spec.resyncing s u
        ∧ (s.peerEdge.isSome = true → Spec.peerSent u (Spec.miHead 5 0 1 0 0)) ∧ s.regsKept u Spec.pairReg ∧ u.mem = s.mem)
    ∧ (st = 1 → f % 2 = 0 → took = false → s.flag .MI_STAT 24 = false →
      ∃ u, exec (.mirrorHello n c) s = .next u ∧ u.flag .MI_STAT 26 = true ∧ (∀ g, u.mirrored g = false) ∧ s.regsKept u (· == .MI_STAT)
        ∧ u.field .MI_STAT 29 3 = 1 ∧ u.mem = s.mem)
    ∧ (st = 1 → (f % 2 = 1 ∨ (took = false ∧ s.flag .MI_STAT 24 = true)) →
      ∃ u, exec (.mirrorHello n c) s = .next u ∧ u.mirror.peer = some (decide (f % 2 = 1), took) ∧ u.mirror.void = false ∧ u.regs = s.regs
        ∧ u.mem = s.mem))
  ∧ (∀ (s : State) (n : Nat) (c : Cell), n < 4 → (s.linksRun = false ∨ Spec.noMessage c 6) →
    exec (.mirrorHello n c) s = .next s)

/-- A line of FRZ goes to the mirror bank of a standby in SYNCED, the header's 16 bytes excepted, and to both banks in RESYNC (R409,
R410, R417); an ACTIVE that differs after the freeze is a divergence (R239, R412). The digest of the published output slice goes
out in CMT, with RSDONE while a bulk pass runs (R411, R417). A CMT of the peer is kept for the comparison; the oldest common pair
is compared and shown, a difference of digests raises DIVERGE with cause 1 and one of FLAGS with cause 2, and a standby then
resyncs (R411, R412). Two missed CMTs set PEERLOST: SYNCED takes over, RESYNC becomes ORPHAN, a primary raises its fault (R413,
R418). RSREQ starts the bulk pass over every line of each mirrored slice, or shows RSERR where ACTIVE differs; a BULK line goes
to its banks (R417). Messages of another node change nothing.
Choices of the model that it rests on: log entries 38 and 39. -/
def Obligations.MirrorTraffic : Prop :=
  (∀ (s : State) (n : Nat) (c : Cell) (m : List Byte), Spec.peerMessage s n c m 1 →
    let g := Spec.num ((m.drop 1).take 1) % 8
    let k := Spec.num ((m.drop 8).take 8)
    let act := Spec.num ((m.drop 2).take 2)
    let count := Spec.num ((m.drop 4).take 4)
    let x := Spec.entry m 16 0
    let fits := x.1 = 0 ∧ 64 * x.2.1 + 64 ≤ s.viewSize .I ∧ x.2.2.length = 64
    let skip := if x.2.1 = s.field (.SC_ISLICE g) 0 14 then 16 else 0
    (s.mirrored g = true → s.field .MI_STAT 29 3 = 3 →
      ∃ u, exec (.mirrorFrzReceived n c) s = .next u
        ∧ ((k ≠ (s.group g).latest ∨ act = s.field (.SC_EDITID g) 0 16) → u.regs = s.regs ∧ mget u.mirror.frz 0 g = k + 1
            ∧ mget u.mirror.active 0 g = act)
        ∧ (k = (s.group g).latest → act ≠ s.field (.SC_EDITID g) 0 16 → Spec.diverged s u 3)
        ∧ (count = 0 → u.mem = s.mem)
        ∧ (s.inOrder = true → count = 1 → fits → s.memBecomes u (smBase + s.resolve .I (64 * x.2.1) + skip) (x.2.2.drop skip)))
    ∧ (s.mirrored g = true → s.field .MI_STAT 29 3 = 2 →
      ∃ u, exec (.mirrorFrzReceived n c) s = .next u ∧ s.regsKept u guaranteeReg ∧ (s.gState g ≠ 0 → u.flag (.SC_DETLOST g) 9 = true)
        ∧ (count = 0 → u.mem = s.mem) ∧ (s.inOrder = true → count = 1 → fits → Spec.lineLands s u x))
    ∧ ((s.mirrored g = false ∨ (s.field .MI_STAT 29 3 ≠ 2 ∧ s.field .MI_STAT 29 3 ≠ 3)) →
      ∃ u, exec (.mirrorFrzReceived n c) s = .next u ∧ u.regs = s.regs ∧ u.mem = s.mem ∧ u.mirror = s.mirror))
  ∧ (∀ (s : State) (g : Nat), g < 8 →
    ((∀ x ∈ s.mirror.digesting, x.1 ≠ g) → exec (.digestEngineEnd g) s = .next s)
    ∧ (∀ k f lines, s.mirror.digesting.find? (fun x => x.1 == g) = some (g, k, f, lines) → s.ecc = [] →
      let q := s.rd (.SC_QSLICE g)
      let d := crc64 (leBytes 8 ((s.group g).pubScan.getD 0)
        ++ ((List.range (fld q 16 15)).flatMap (fun i => memBytes s.mem (smBase + s.resolve .P (64 * (fld q 0 14 + i))) 64)))
      let plain := s.mirror.bulk = false ∨ (s.mirror.marks = [] ∧ lines = [])
      ∃ u, exec (.digestEngineEnd g) s = .next u ∧ u.mirror.digesting = s.mirror.digesting.erase (g, k, f, lines)
        ∧ u.mirror.own = s.mirror.own ++ [⟨g, k, d.toNat, f⟩] ∧ u.mirror.bulk = false ∧ u.mirror.marks = []
        ∧ (s.peerEdge.isSome = true → plain →
            Spec.peerSent u (Spec.miHead 2 g (f + if s.mirror.bulk then 8 else 0) 0 k ++ leBytes 8 d.toNat))
        ∧ u.regs = s.regs ∧ u.mem = s.mem)
    ∧ (∀ a b : Cmt,
      s.mirror.own.find? (fun x => x.group == g && s.mirror.theirs.any (fun y => y.group == g && y.scan == x.scan)) = some a →
      s.mirror.theirs.find? (fun y => y.group == g && y.scan == a.scan) = some b →
      ∃ u, exec (.mirrorCmt g) s = .next u
        ∧ u.rd (.MI_DIGEST 0) = BitVec.ofNat 32 a.digest ∧ u.rd (.MI_DIGEST 1) = BitVec.ofNat 32 (a.digest / 2 ^ 32)
        ∧ u.rd (.MI_PDIGEST 0) = BitVec.ofNat 32 b.digest ∧ u.rd (.MI_PDIGEST 1) = BitVec.ofNat 32 (b.digest / 2 ^ 32)
        ∧ u.rd .MI_DSCAN = BitVec.ofNat 32 a.scan ∧ u.mem = s.mem
        ∧ (∀ x ∈ u.mirror.own ++ u.mirror.theirs, x.group = g → a.scan < x.scan)
        ∧ s.regsKept u (fun q => Spec.pairReg q || q == .FC_SSTAT 126 || noticeReg q
            || match q with | .MI_DIGEST _ | .MI_PDIGEST _ | .MI_DSCAN => true | _ => false)
        ∧ (a.digest = b.digest → a.flags = b.flags → u.rd .MI_STAT = s.rd .MI_STAT)
        ∧ (a.digest ≠ b.digest → Spec.diverged s u 1) ∧ (a.digest = b.digest → a.flags ≠ b.flags → Spec.diverged s u 2))
    ∧ ((∀ a ∈ s.mirror.own, ∀ b ∈ s.mirror.theirs, ¬ (a.group = g ∧ b.group = g ∧ a.scan = b.scan)) → exec (.mirrorCmt g) s = .next s)
    ∧ (∀ k, s.mirror.awaiting.find? (fun x => x.1 == g && s.mirror.awaiting.contains (g, x.2 + 1)) = some (g, k) →
      ∃ u, exec (.mirrorHeartbeatMiss g) s = .next u ∧ u.mirror.awaiting = s.mirror.awaiting.filter (fun y => !(y.1 == g && decide (y.2 ≤ k + 1)))
        ∧ u.flag .MI_STAT 27 = true ∧ u.mem = s.mem ∧ Spec.nowAt s u (s.commitAt g (k + 1) + s.field .MI_PEER 0 6 * 1600)
        ∧ (s.field .MI_STAT 29 3 = 3 → u.mirror.takeover = (List.range 8).filter s.mirrored ∧ u.field .MI_STAT 29 3 = 3)
        ∧ (s.field .MI_STAT 29 3 = 2 → u.field .MI_STAT 29 3 = 4 ∧ Spec.told s u)
        ∧ (s.field .MI_STAT 29 3 = 1 → s.clk.held = false → s.flag (.FC_SCFG 127) 8 = false → u.latched 127 = true))
    ∧ ((∀ k, (g, k) ∈ s.mirror.awaiting → (g, k + 1) ∉ s.mirror.awaiting) → exec (.mirrorHeartbeatMiss g) s = .next s))
  ∧ (∀ (s : State) (n : Nat) (c : Cell) (m : List Byte), Spec.peerMessage s n c m 2 →
    let g := Spec.num ((m.drop 1).take 1) % 8
    let k := Spec.num ((m.drop 8).take 8)
    let f := Spec.num ((m.drop 2).take 1)
    let cmt : Cmt := ⟨g, k, Spec.num ((m.drop 16).take 8), f % 8⟩
    let st := s.field .MI_STAT 29 3
    s.mirrored g = true →
    (st = 1 ∨ (st = 3 ∧ (g, k + 1) ∉ s.mirror.heldScan) →
      ∃ u, exec (.sequencedCellReceived n c) s = .next u ∧ u.mirror.theirs = s.mirror.theirs ++ [cmt]
        ∧ u.mirror.awaiting = s.mirror.awaiting.filter (fun a => a ≠ (g, k)) ∧ u.regs = s.regs ∧ u.mem = s.mem)
    ∧ (st = 3 → (g, k + 1) ∈ s.mirror.heldScan →
      ∃ u, exec (.sequencedCellReceived n c) s = .next u ∧ u.field .MI_STAT 20 3 = 4 ∧ Spec.resyncing s u ∧ s.regsKept u Spec.pairReg
        ∧ u.mem = s.mem)
    ∧ (st = 2 → f / 8 % 2 = 1 → Spec.num ((m.drop 4).take 4) = 0 →
      ∃ u, exec (.sequencedCellReceived n c) s = .next u ∧ u.mirror.rsdone = s.mirror.asked ∧ u.regs = s.regs ∧ u.mem = s.mem))
  ∧ (∀ (s : State) (n : Nat) (c : Cell) (m : List Byte), Spec.peerMessage s n c m 4 →
    let differ := ∃ g < 8, s.mirrored g = true ∧ Spec.num ((m.drop (16 + 2 * g)).take 2) ≠ s.field (.SC_EDITID g) 0 16
    (s.field .MI_STAT 29 3 ≠ 1 → ∃ u, exec (.mirrorRsreq n c) s = .next u ∧ u.regs = s.regs ∧ u.mem = s.mem ∧ u.mirror = s.mirror)
    ∧ (s.field .MI_STAT 29 3 = 1 → differ →
      ∃ u, exec (.mirrorRsreq n c) s = .next u ∧ u.flag .MI_STAT 25 = true ∧ u.mirror.bulk = false ∧ s.regsKept u (· == .MI_STAT) ∧ u.mem = s.mem)
    ∧ (s.field .MI_STAT 29 3 = 1 → ¬ differ → s.ecc = [] →
      ∃ u, exec (.mirrorRsreq n c) s = .next u ∧ u.mirror.bulk = true ∧ u.mirror.marks = [] ∧ u.regs = s.regs ∧ u.mem = s.mem
        ∧ ∀ e g l v r, s.peerEdge = some e → g < 8 → s.mirrored g = true →
            (v, r) ∈ [(0, (s.field (.SC_ISLICE g) 0 14, s.field (.SC_ISLICE g) 16 15)),
              (1, (s.field (.SC_QSLICE g) 0 14, s.field (.SC_QSLICE g) 16 15)),
              (2, (s.field (.SC_MSLICE g) 0 13, s.field (.SC_MSLICE g) 16 14))] → r.1 ≤ l → l < r.1 + r.2 →
          ∃ x ∈ Spec.outCells u e, x.ty = 6 ∧ x.bulk = true ∧ x.som = true ∧ x.dest = s.field .MI_PEER 16 14
            ∧ x.payload = (Spec.miHead 3 g 0 1 0 ++ leBytes 4 (v * 2 ^ 30 + l)
                ++ memBytes s.mem (smBase + s.resolve (Spec.viewOfEntry v) (64 * l)) 64).take 52))
  ∧ (∀ (s : State) (n : Nat) (c : Cell) (m : List Byte), Spec.peerMessage s n c m 3 →
    let x := Spec.entry m 16 0
    (s.field .MI_STAT 29 3 ≠ 2 → ∃ u, exec (.mirrorBulk n c) s = .next u ∧ u.regs = s.regs ∧ u.mem = s.mem)
    ∧ (s.field .MI_STAT 29 3 = 2 → s.inOrder = true → Spec.num ((m.drop 4).take 4) = 1 →
      64 * x.2.1 + 64 ≤ s.viewSize (Spec.viewOfEntry x.1) → x.2.2.length = 64 →
      ∃ u, exec (.mirrorBulk n c) s = .next u ∧ s.regsKept u guaranteeReg ∧ Spec.lineLands s u x
        ∧ ∀ g < 8, s.gState g ≠ 0 → (x.1 = 3 ∨ s.mirrored g = true) → u.flag (.SC_DETLOST g) 9 = true))
  ∧ (∀ (s : State) (n : Nat) (c : Cell) (m : List Byte), Spec.message s n c 6 m →
    (c.srcWord ≠ s.field .MI_PEER 16 14 ∨ s.flag .MI_CTL 31 = false) →
    ∃ u, exec (.sequencedCellReceived n c) s = .next u ∧ u.regs = s.regs ∧ u.mem = s.mem ∧ u.mirror = s.mirror
      ∧ ∀ x ∈ [(Instr.mirrorHello n c, 5), (.mirrorFrzReceived n c, 1), (.mirrorRsreq n c, 4), (.mirrorBulk n c, 3)],
          exec x.1 s = .next (if Spec.num (m.take 1) = x.2 then u else s))
  ∧ (∀ (s : State) (n : Nat) (c : Cell), n < 4 → (s.linksRun = false ∨ Spec.noMessage c 6) →
    ∀ i ∈ [Instr.mirrorFrzReceived n c, .mirrorRsreq n c, .mirrorBulk n c], exec i s = .next s)

/-! ### The fault collector -/

namespace Sys2Proof.Spec

/-- Fault source `n` has latched a new record: its severity, count 1, its window from now on, and FC_FIRST with its time, or OVF
(R422 to R425). -/
def latches (s u : State) (n : Nat) (forced : Bool) : Prop :=
  u.latched n = true ∧ u.cur n = s.field (.FC_SCFG n) 0 2 ∧ u.acked n = false ∧ u.field (.FC_SSTAT n) 0 16 = 1
    ∧ u.flag (.FC_SSTAT n) 26 = forced
    ∧ (s.flag .FC_FIRST 31 = false → u.flag .FC_FIRST 31 = true ∧ u.field .FC_FIRST 0 7 = n ∧ u.flag .FC_FIRST 29 = forced
        ∧ (u.rd (.FC_FIRSTT 0)).toNat + 2 ^ 32 * (u.rd (.FC_FIRSTT 1)).toNat = s.now)
    ∧ (s.flag .FC_FIRST 31 = true → u.flag .FC_FIRST 30 = true)
    ∧ (s.field (.FC_SCFG n) 0 2 ≠ 0 → s.blk ≠ 7 → (n, s.now) ∈ u.windows)

/-- The latched record of source `n` counts one more occurrence; a repeat of an unacknowledged tile source raises it by one
severity, up to CRITICAL, with a new window (R422, R423). -/
def repeats (s u : State) (n : Nat) : Prop :=
  let up := n < 64 ∧ s.acked n = false ∧ s.cur n < 3
  u.latched n = true ∧ u.acked n = s.acked n ∧ u.field (.FC_SSTAT n) 0 16 = min 0xFFFF (s.field (.FC_SSTAT n) 0 16 + 1)
    ∧ u.cur n = (if up then s.cur n + 1 else s.cur n) ∧ (up → s.blk ≠ 7 → (n, s.now) ∈ u.windows)

/-- An occurrence of source `n`: a first latching, or a repeat. The storm detector's own source may meet a storm of its notice
as well (R423, R437). -/
def occurred (s u : State) (n : Nat) (forced : Bool) : Prop :=
  u.latched n = true ∧ (n ≠ 124 → (s.latched n = false → latches s u n forced) ∧ (s.latched n = true → repeats s u n))

/-- Beyond the record of source `n`, only what a notice may change has changed. -/
def faultFrame (s u : State) (n : Nat) : Prop := s.regsKept u (fun q => q == .FC_SSTAT n || noticeReg q) ∧ u.mem = s.mem

/-- The record of source `n` is cleared, or has latched anew from a storm that its notice met (R431, R437). -/
def cleared (u : State) (n : Nat) : Prop :=
  (u.rd (.FC_SSTAT n) = 0 ∧ ∀ x ∈ u.windows, x.1 ≠ n) ∨ (n = 124 ∧ u.latched 124 = true ∧ u.acked 124 = false)

end Sys2Proof.Spec

/-- An occurrence latches its source's record with the configured severity, unless masked or of an absent part; a repeat counts, and
raises an unacknowledged tile source by one severity (R420 to R424). A window that expires acts by its severity and raises the
record: MAJOR puts SAFEPAT and the commit freeze in force, CRITICAL the fault condition too, RUN becomes RECOVER, and a tile source
with TRST resets its tile (R425, R426); in HALT, and of an acknowledged record, none does (R428, R430). A FIN input raises its
source when it rises (R44, R420). In ALIVE the output toggles while the condition is false (R436).
Choices of the model that it rests on: log entries 9 and 49. -/
def Obligations.FaultEvents : Prop :=
  (∀ (s : State) (n : Nat), n < 128 →
    (s.clk.held = false → s.flag (.FC_SCFG n) 8 = false → s.faultPresent n = true →
      ∃ u, exec (.faultOccurrence n) s = .next u ∧ Spec.occurred s u n false ∧ Spec.faultFrame s u n)
    ∧ ((s.clk.held = true ∨ s.flag (.FC_SCFG n) 8 = true ∨ s.faultPresent n = false) →
      ∃ u, exec (.faultOccurrence n) s = .next u ∧ s.regsKept u noticeReg ∧ u.mem = s.mem))
  ∧ (∀ (s : State) (n : Nat), n < 128 →
    ((∀ x ∈ s.windows, x.1 ≠ n) → exec (.faultWindowExpiry n) s = .next s)
    ∧ ((s.blk = 7 ∨ s.latched n = false ∨ s.acked n = true ∨ s.cur n = 0) → exec (.faultWindowExpiry n) s = .next s)
    ∧ (∀ t, s.windows.find? (fun x => x.1 = n) = some (n, t) → s.blk ≠ 7 → s.latched n = true → s.acked n = false → s.cur n ≠ 0 →
        let trst := n < 64 ∧ s.flag (.FC_SCFG n) 4 = true ∧ s.cur n = 3
        ∃ u, exec (.faultWindowExpiry n) s = .next u ∧ Spec.nowAt s u (t + 1600 * s.field (.FC_WIN (s.cur n)) 0 24)
          ∧ u.cur n = min 3 (s.cur n + 1) ∧ ((¬ trst ∨ ∀ g < 8, s.gState g ≠ 3) → u.mem = s.mem)
          ∧ u.rd .FC_RSTAT = s.rd .FC_RSTAT ||| (if s.cur n = 3 then 7 else if s.cur n = 2 then 3 else 0)
          ∧ u.blk = (if s.cur n = 3 ∧ s.blk = 2 then 4 else s.blk)
          ∧ (s.cur n < 3 → (n, u.now) ∈ u.windows) ∧ (s.cur n = 3 → ∀ x ∈ u.windows, x.1 ≠ n)
          ∧ (¬ trst → s.regsKept u
              (fun q => q == .FC_SSTAT n || q == .FC_RSTAT || q == .BLK_STATE || q == .TB_LO || q == .TB_HI || noticeReg q))
          ∧ (trst → u.flag .BLK_RSTCAUSE (8 + n / 8) = true
              ∧ ∀ m < 16, u.thState (n / 8) m = if n / 8 = 0 ∧ m = 0 then 1 else 0)))
  ∧ (∀ (s : State) (j : Nat), j < 16 →
    (bit s.faultIn j = false →
      ∃ u, exec (.faultInRise j) s = .next u ∧ u.faultIn = setBit s.faultIn j true ∧ Spec.faultFrame s u (88 + j)
        ∧ (s.clk.held = false → s.flag (.FC_SCFG (88 + j)) 8 = false → Spec.occurred s u (88 + j) false)
        ∧ ((s.clk.held = true ∨ s.flag (.FC_SCFG (88 + j)) 8 = true) → u.rd (.FC_SSTAT (88 + j)) = s.rd (.FC_SSTAT (88 + j))))
    ∧ (bit s.faultIn j = true → exec (.faultInRise j) s = .next { s with faultIn := setBit s.faultIn j true })
    ∧ exec (.faultInFall j) s = .next { s with faultIn := setBit s.faultIn j false })
  ∧ (∀ s : State,
    (s.flag .BLK_BOOTDONE 0 = true → s.flag .FC_CFG 8 = true → s.faultHeld = false → s.clk.held = false →
      exec .aliveToggle s = .next { s with faultOut := !s.faultOut })
    ∧ ((s.flag .BLK_BOOTDONE 0 = false ∨ s.flag .FC_CFG 8 = false ∨ s.faultHeld = true ∨ s.clk.held = true) →
      exec .aliveToggle s = .next s))

/-- A 1 in FC_ACK, or TL_FCACK.ACK, acknowledges a latched record and ends its window, and does nothing to another; a 1 in FC_STAT, or
CLR, clears a record unless its FIN input is high (R431, R433). FORCE makes a forced occurrence, masked or not (R432). FC_RCTL
ends SAFEPAT and the commit freeze, and each group's scan in progress is owed its commit; it is refused in RECOVER and while a MAJOR
or CRITICAL record is unacknowledged (R429). -/
def Obligations.FaultHandling : Prop :=
  let inWord := fun (i : Nat) (v : Word) (q : Reg) => match q with | .FC_SSTAT n => n / 32 == i && bit v (n % 32) | q => noticeReg q
  let groupReg := fun (q : Reg) => match q with | .SC_GSTAT _ | .SC_GCTL _ => true | _ => false
  (∀ (s : State) (src : Src) (i : Nat) (v : Word),
    (s.admits src (.FC_ACK i) v = true →
      ∃ u, exec (.fcAck src i v) s = .next u ∧ s.accepted u src (fun q => inWord i v q || noticeReg q) ∧ u.mem = s.mem
        ∧ ∀ j < 32, bit v j = true →
            (s.latched (32 * i + j) = true → u.acked (32 * i + j) = true ∧ u.latched (32 * i + j) = true
              ∧ u.cur (32 * i + j) = s.cur (32 * i + j) ∧ ∀ x ∈ u.windows, x.1 ≠ 32 * i + j)
            ∧ (s.latched (32 * i + j) = false → 32 * i + j ≠ 124 → u.rd (.FC_SSTAT (32 * i + j)) = s.rd (.FC_SSTAT (32 * i + j))))
    ∧ (s.admits src (.FC_STAT i) v = true →
      ∃ u, exec (.fcStatClear src i v) s = .next u ∧ s.accepted u src (fun q => inWord i v q || noticeReg q) ∧ u.mem = s.mem
        ∧ ∀ j < 32, bit v j = true →
            if s.finAsserted (32 * i + j) then u.rd (.FC_SSTAT (32 * i + j)) = s.rd (.FC_SSTAT (32 * i + j))
            else Spec.cleared u (32 * i + j)))
  ∧ (∀ (s : State) (src : Src) (n : Nat), s.admits src (.FC_SCFG n) (s.rd (.FC_SCFG n) ||| 0x80000000) = true →
    ∃ u, exec (.fcScfgForce src n) s = .next u ∧ Spec.occurred s u n true ∧ u.flag (.FC_SSTAT n) 26 = true ∧ u.flag (.FC_SCFG n) 31 = false
      ∧ s.accepted u src (fun q => q == .FC_SCFG n || q == .FC_SSTAT n || noticeReg q) ∧ u.mem = s.mem)
  ∧ (∀ (s : State) (src : Src), s.admits src .FC_RCTL 1 = true →
    (s.blk ≠ 4 → (∀ n, s.latched n = true → s.acked n = false → s.cur n < 2) →
      ∃ u, exec (.fcRctlRelease src) s = .next u ∧ s.accepted u src (fun q => q == .FC_RSTAT || groupReg q)
        ∧ u.rd .FC_RSTAT = s.rd .FC_RSTAT &&& 4 ∧ u.mem = s.mem
        ∧ (s.flag .FC_RSTAT 1 = true → ∀ g < 8, s.gState g ≠ 0 → (s.group g).scan ≠ none → (u.group g).owed = true)
        ∧ (s.flag .FC_RSTAT 1 = false → s.accepted u src (· == .FC_RSTAT) ∧ u.groups = s.groups))
    ∧ ((s.blk = 4 ∨ ∃ n, s.latched n = true ∧ s.acked n = false ∧ 2 ≤ s.cur n) →
      ∃ u, exec (.fcRctlRelease src) s = .next u ∧ s.turnedAway u src .state ∧ u.rd .FC_RSTAT = s.rd .FC_RSTAT))
  ∧ (∀ (s : State) (src : Src) (t n : Nat), n < 128 →
    (s.admits src (.TL_FCACK t) (BitVec.ofNat 32 (2 ^ 31 + n)) = true →
      ∃ u, exec (.tlFcackAck src t n) s = .next u ∧ s.accepted u src (fun q => q == .FC_SSTAT n || noticeReg q) ∧ u.mem = s.mem
        ∧ (s.latched n = true → u.acked n = true ∧ u.latched n = true ∧ u.cur n = s.cur n ∧ ∀ x ∈ u.windows, x.1 ≠ n)
        ∧ (s.latched n = false → n ≠ 124 → u.rd (.FC_SSTAT n) = s.rd (.FC_SSTAT n)))
    ∧ (s.admits src (.TL_FCACK t) (BitVec.ofNat 32 (2 ^ 30 + n)) = true →
      ∃ u, exec (.tlFcackClr src t n) s = .next u ∧ s.accepted u src (fun q => q == .FC_SSTAT n || noticeReg q) ∧ u.mem = s.mem
        ∧ if s.finAsserted n then u.rd (.FC_SSTAT n) = s.rd (.FC_SSTAT n) else Spec.cleared u n))

/-! ### Aperture and the power states -/

namespace Sys2Proof.Spec

/-- A wake source is enabled: one of the first `k` bits of AP_WAKEEN, or an AO comparator with WAKE (R369, R448). -/
def wakeable (s : State) (k : Nat) : Prop :=
  s.field .AP_WAKEEN 0 k ≠ 0 ∨ ∃ n < 8, s.flag (.TB_CMP n 3) 31 = true ∧ s.flag (.TB_CMP n 3) 29 = true

/-- The domains that an entry to SLEEP or OFF powers down, in the order of R449: LVU, TILE, CAN, FED, SHMEM and MAIN. -/
def ranks : List (List Nat) :=
  [[16, 17, 18, 19, 20, 21, 22, 23], [8, 9, 10, 11, 12, 13, 14, 15], [2], [3], [4, 5, 6, 7], [1]]

/-- The next domains of an entry: the first rank with a domain of the build that is not off. -/
def nextRank (s : State) : Option (List Nat) :=
  ranks.find? (fun l => l.any (fun d => s.hasDomain d && decide ((s.pd d).phase ≠ .off)))

/-- An entry goes on: the domains of its next rank that are on begin their power-down, the others of it are no longer wanted, and
every other domain stays (R38, R449). -/
def entryTurns (s u : State) : Prop :=
  ∀ l, nextRank s = some l → ∀ d, u.pd d =
    if d ∈ l then (if (s.pd d).phase = .on then { s.pd d with phase := .draining, want := false } else { s.pd d with want := false })
    else s.pd d

/-- An entry is complete: every domain but AO is off with its contents lost, nothing is held or asked of Aperture, CLK_REQ is 0, the
timebase counts from LFCLK, and of the registers those of the AO domain keep their values; OFF gives up AO too (R43, R56, R449). -/
def entered (s u : State) (target : Nat) : Prop :=
  u.blk = target ∧ u.entry = none ∧ u.clk.clkReq = false ∧ u.clk.running = false ∧ u.flag .TB_STAT 0 = true ∧ u.mem = []
    ∧ u.apHeld = [] ∧ u.apWait = [] ∧ u.wakes = s.wakes
    ∧ (∀ d, 1 ≤ d → d < 24 → (u.pd d).phase = .off ∧ (u.pd d).lost = true ∧ (u.pd d).req = false)
    ∧ (if target = 0 then (u.pd 0).req = false ∧ (u.pd 0).phase = .rampDown else (u.pd 0).phase = .on)
    ∧ ∀ q, aoReg q = true → noticeReg q = false → q ≠ .TB_STAT → u.rd q = s.rd q

end Sys2Proof.Spec

/-- A grant goes to the first request in class order that does not exceed the budget, if it fits; a passed-over request sets EXCEED
(R439, R440). What it starts: burst mode, EVIN[21], HELD of a reservation, the clear of a bank whose domain is on, the power-up of
a tile or of CAN, a link's training (R193, R253, R271, R372, R390, R443). A reservation is asked for with its grains, which hold
while it is asked or held; it is released while its group is IDLE (R443, R444). A write by which a holder gives its grains back is a
register write (R438). AP_TILEEN asks 6 grains for a tile, and gives a tile up; it is turned away for tile 0, and for a tile in use
or with its LVU asked for (R450).
Choices of the model that it rests on: log entry 46. -/
def Obligations.ApertureGrantsAndReservations : Prop :=
  (∀ (s : State) (l r : List Claim) (c : Claim), s.apOrder = l ++ c :: r → (∀ x ∈ l, s.apBudget < x.grains) → c.grains ≤ s.apBudget →
    (s.apUse + c.grains ≤ s.apBudget →
      ∃ u, exec .apertureGrant s = .next u ∧ u.apHeld = s.apHeld ++ [(c.user, c.grains)] ∧ u.apWaits c.user = false
        ∧ (∀ w, w ≠ c.user → u.apWaits w = s.apWaits w) ∧ (l ≠ [] → u.flag .AP_STAT 29 = true) ∧ u.mem = s.mem
        ∧ (∀ p, c.user = .burst p → u.flag (.HP_CTL p) 1 = true)
        ∧ (∀ t n, c.user = .thread t n → s.hasThread t n = true → u.flag (.TH_EVPEND t n) 21 = true)
        ∧ (∀ g, c.user = .rsv g → u.flag (.AP_RSV g) 30 = true)
        ∧ (∀ b, c.user = .bank b →
            if (s.pd (4 + b / 8)).phase = .on then .bank b ∈ u.clears ∧ u.ready 0 b = false else u.clears = s.clears)
        ∧ (∀ t, c.user = .tile t → (u.pd (8 + t)).want = true
            ∧ ((s.pd (8 + t)).phase = .off → (u.pd (8 + t)).phase = .rampUp ∧ (u.pd (8 + t)).req = true))
        ∧ (c.user = .can → (u.pd 2).want = true ∧ ((s.pd 2).phase = .off → (u.pd 2).phase = .rampUp ∧ (u.pd 2).req = true))
        ∧ (∀ n, c.user = .link n → n < 4 → u.linkState n = (if (s.link n).phy then 2 else 1)))
    ∧ (s.apBudget < s.apUse + c.grains →
      ∃ u, exec .apertureGrant s = .next u ∧ u.apHeld = s.apHeld ∧ u.apWait = s.apWait ∧ s.regsKept u (· == .AP_STAT) ∧ u.mem = s.mem
        ∧ (l ≠ [] → u.flag .AP_STAT 29 = true)))
  ∧ (∀ s : State, s.apOrder ≠ [] → (∀ x ∈ s.apOrder, s.apBudget < x.grains) →
    ∃ u, exec .apertureGrant s = .next u ∧ u.flag .AP_STAT 29 = true ∧ s.regsKept u (· == .AP_STAT) ∧ s.sameBeyondRegs u)
  ∧ (∀ s : State, s.apOrder = [] → exec .apertureGrant s = .next s)
  ∧ (∀ (s : State) (src : Src) (off : Nat) (v : Word), exec (.apertureRelease src off v) s = exec (.registerWrite src off v) s)
  ∧ (∀ (s : State) (src : Src) (g : Nat),
    let busy := s.flag (.AP_RSV g) 31 = true ∨ s.flag (.AP_RSV g) 30 = true
    (∀ n, n < 1024 → s.admits src (.AP_RSV g) (BitVec.ofNat 32 (2 ^ 31 + n)) = true →
      ((¬ busy ∨ s.field (.AP_RSV g) 0 10 = n) →
        ∃ u, exec (.apRsvRequest src g n) s = .next u ∧ s.accepted u src (· == .AP_RSV g) ∧ u.flag (.AP_RSV g) 31 = true
          ∧ u.field (.AP_RSV g) 0 10 = n ∧ u.flag (.AP_RSV g) 30 = s.flag (.AP_RSV g) 30 ∧ u.apHeld = s.apHeld
          ∧ u.apWait = (if s.flag (.AP_RSV g) 31 || s.apHolds (.rsv g) || s.apWaits (.rsv g) then s.apWait else s.apWait ++ [⟨.rsv g, n⟩]))
      ∧ (busy → s.field (.AP_RSV g) 0 10 ≠ n →
        ∃ u, exec (.apRsvRequest src g n) s = .next u ∧ s.turnedAway u src .state ∧ u.rd (.AP_RSV g) = s.rd (.AP_RSV g) ∧ u.apWait = s.apWait))
    ∧ (s.admits src (.AP_RSV g) (s.rd (.AP_RSV g) &&& 0x3FF) = true → s.flag (.AP_RSV g) 31 = true →
      (s.gState g = 0 → ∃ u, exec (.apRsvRelease src g) s = .next u
          ∧ s.accepted u src (· == .AP_RSV g) ∧ u.flag (.AP_RSV g) 31 = false ∧ u.flag (.AP_RSV g) 30 = false
          ∧ u.apHolds (.rsv g) = false ∧ u.apWaits (.rsv g) = false ∧ u.field (.AP_RSV g) 0 10 = s.field (.AP_RSV g) 0 10)
      ∧ (s.gState g ≠ 0 →
        ∃ u, exec (.apRsvRelease src g) s = .next u ∧ s.turnedAway u src .state ∧ u.rd (.AP_RSV g) = s.rd (.AP_RSV g) ∧ u.apHeld = s.apHeld))
    ∧ (s.admits src (.AP_RSV g) (s.rd (.AP_RSV g) &&& 0x3FF) = true → s.flag (.AP_RSV g) 31 = false →
      ∃ u, exec (.apRsvRelease src g) s = .next u ∧ s.accepted u src (· == .AP_RSV g) ∧ u.flag (.AP_RSV g) 31 = false
        ∧ u.field (.AP_RSV g) 0 10 = s.field (.AP_RSV g) 0 10 ∧ u.apHeld = s.apHeld ∧ u.apWait = s.apWait))
  ∧ (∀ (s : State) (src : Src) (v : Word), s.admits src .AP_TILEEN v = true →
    let falls := fun (t : Nat) => t < s.nTiles ∧ s.flag .AP_TILEEN t = true ∧ bit v t = false
    let bars := fun (t : Nat) => t = 0 ∨ (∃ n < 16, s.thState t n ≠ 0) ∨ s.flag (.LV_CTL t) 16 = true
    ((∀ t, falls t → ¬ bars t) →
      ∃ u, exec (.apTileenWrite src v) s = .next u
        ∧ s.accepted u src (fun q => match q with | .AP_TILEEN | .BLK_READY _ => true | _ => false)
        ∧ (∀ t < s.nTiles, u.flag .AP_TILEEN t = bit v t)
        ∧ (∀ t < s.nTiles, s.flag .AP_TILEEN t = false → bit v t = true →
            if s.apHolds (.tile t) || s.apWaits (.tile t) then u.apHolds (.tile t) = s.apHolds (.tile t) ∧ u.apWaits (.tile t) = s.apWaits (.tile t)
            else ⟨.tile t, 6⟩ ∈ u.apWait)
        ∧ (∀ t, falls t → (u.pd (8 + t)).want = false ∧ u.apHolds (.tile t) = false ∧ u.apWaits (.tile t) = false
            ∧ ((s.pd (8 + t)).phase = .on → (u.pd (8 + t)).phase = .draining ∧ u.ready 2 t = false)))
    ∧ ((∃ t, falls t ∧ bars t) →
      ∃ u, exec (.apTileenWrite src v) s = .next u ∧ s.turnedAway u src .state ∧ u.rd .AP_TILEEN = s.rd .AP_TILEEN ∧ u.pds = s.pds))

/-- DOZE is entered where its conditions hold, with memory and registers kept; the first failing condition shows in PSCAUSE (R446,
R447). SLEEP needs a wake source, OFF none; their entry powers the domains down in the order of R449, waits for outstanding
manager transactions, and leaves every domain but AO off and the memories lost; OFF gives up AO too (R43, R56, R446, R449). A
host's WAKE or an enabled wake source returns DOZE to RUN, with its number in WAKESRC (R448). A wake from SLEEP, once the entry is
complete, raises CLK_REQ; with CLK_ACK the clocks run and MAIN and TILE[0] power up, and the block leaves reset in BOOT with
SLPWAKE (R448, R449). A request outside RUN is turned away (R446).
Choices of the model that it rests on: log entries 47 and 48. -/
def Obligations.PowerStates : Prop :=
  let shutReg := fun (q : Reg) => q == .BLK_STATE || noticeReg q || match q with | .BLK_READY _ => true | _ => false
  (∀ (s : State) (src : Src), s.admits src .AP_PCTL 5 = true →
    let c2 := (∀ t < s.nTiles, ∀ e < 32, s.eOn t e = false) ∧ (∀ c < 16, s.hasCan c = true → s.canInit c = true)
      ∧ ∀ n < 4, s.flag (.FD_LCTL n) 31 = false
    let c3 := ∀ t n, s.hasThread t n = true → s.thState t n = 0 ∨ s.thState t n = 2 ∨ s.thState t n = 5
    let fails := fun (c : Nat) => ∃ u, exec (.apPctlDoze src) s = .next u ∧ s.accepted u src (· == .AP_PSTAT) ∧ u.blk = 2
      ∧ u.flag .AP_PSTAT 8 = true ∧ u.field .AP_PSTAT 0 4 = c ∧ u.pds = s.pds
    (s.blk = 2 → s.allIdle = true → c2 → c3 → Spec.wakeable s 10 →
      ∃ u, exec (.apPctlDoze src) s = .next u ∧ s.accepted u src (fun q => q == .BLK_STATE || noticeReg q)
        ∧ u.blk = 5 ∧ u.field .BLK_STATE 4 4 = 2 ∧ u.mem = s.mem ∧ u.pds = s.pds ∧ u.opened = [] ∧ u.apHeld = s.apHeld ∧ u.apWait = s.apWait)
    ∧ (s.blk = 2 → s.allIdle = false → fails 1)
    ∧ (s.blk = 2 → s.allIdle = true → ¬ c2 → fails 2)
    ∧ (s.blk = 2 → s.allIdle = true → c2 → ¬ c3 → fails 3)
    ∧ (s.blk = 2 → s.allIdle = true → c2 → c3 → ¬ Spec.wakeable s 10 → fails 4)
    ∧ (s.blk ≠ 2 → ∃ u, exec (.apPctlDoze src) s = .next u ∧ s.turnedAway u src .state ∧ u.blk = s.blk ∧ u.pds = s.pds))
  ∧ (∀ (s : State) (src : Src) (i : Instr) (target : Nat),
    (i, target) ∈ [(Instr.apPctlSleep src, 6), (.apPctlOff src, 0)] → s.admits src .AP_PCTL (BitVec.ofNat 32 target) = true →
    (s.blk = 2 → (target = 6 → Spec.wakeable s 8) → (s.pd 1).phase ≠ .off →
      ∃ u, exec i s = .next u ∧ s.accepted u src shutReg ∧ u.blk = target ∧ u.field .BLK_STATE 4 4 = 2 ∧ u.entry = some target
        ∧ u.wakes = [] ∧ Spec.entryTurns s u ∧ u.clk = s.clk ∧ u.mem = s.mem)
    ∧ (s.blk = 2 → target = 6 → ¬ Spec.wakeable s 8 →
      ∃ u, exec i s = .next u ∧ s.accepted u src (· == .AP_PSTAT) ∧ u.flag .AP_PSTAT 8 = true ∧ u.field .AP_PSTAT 0 4 = 4 ∧ u.pds = s.pds)
    ∧ (s.blk ≠ 2 → ∃ u, exec i s = .next u ∧ s.turnedAway u src .state ∧ u.blk = s.blk ∧ u.pds = s.pds))
  ∧ (∀ (s : State) (d target : Nat), 1 ≤ d → d < 24 → s.hasDomain d = true → s.entry = some target → (target = 0 ∨ target = 6) →
    let off := s.setPd d { s.pd d with phase := .off }
    ((s.pd d).phase = .draining → s.managersIdle = false → exec (.domainDrainEnd d) s = .next s)
    ∧ ((s.pd d).phase = .rampDown → (s.pd d).want = false →
      ∃ u, exec (.pdAckFall d) s = .next u
        ∧ (Spec.nextRank off ≠ none → u.entry = some target ∧ u.flag .BLK_PDSTAT d = false ∧ Spec.entryTurns off u ∧ u.mem = s.mem)
        ∧ (Spec.nextRank off = none → Spec.entered s u target))
    ∧ ((s.pd d).phase = .inReset → s.clk.held = false →
      ∃ u, exec (.domainResetRelease d) s = .next u ∧ u.entry = some target
        ∧ Spec.entryTurns (s.setPd d { s.pd d with phase := .on, lost := false }) u))
  ∧ (∀ (s : State) (src : Src), s.admits src .AP_PCTL 0x100 = true →
    (s.blk = 5 → (∀ a m x, src ≠ .thread a m x) → ∃ u, exec (.apPctlWake src) s = .next u
      ∧ s.accepted u src (fun q => q == .BLK_STATE || noticeReg q) ∧ u.blk = 2 ∧ u.field .BLK_STATE 4 4 = 5 ∧ u.opened = [] ∧ u.wakes = []
      ∧ u.mem = s.mem)
    ∧ ((s.blk ≠ 5 ∨ ∃ a m x, src = .thread a m x) →
      ∃ u, exec (.apPctlWake src) s = .next u ∧ s.accepted u src (fun _ => false) ∧ u.mem = s.mem))
  ∧ (∀ (s : State) (w : WakeSrc),
    let src := match w with | .gauze j => some j | .comparator n => some (8 + n) | .kick _ => none
    let called := fun (u : State) => u.clk.clkReq = true ∧ u.wakes = [] ∧ u.blk = 6 ∧ (∀ k < 16, src = some k → u.field .AP_PSTAT 16 4 = k)
      ∧ u.mem = s.mem
    (s.blk = 5 → w ∈ s.wakes → ∃ u, exec (.dozeWake w) s = .next u ∧ u.blk = 2 ∧ u.field .BLK_STATE 4 4 = 5 ∧ u.wakes = [] ∧ u.opened = []
      ∧ (∀ k < 16, src = some k → u.field .AP_PSTAT 16 4 = k) ∧ s.regsKept u (fun q => q == .BLK_STATE || q == .AP_PSTAT || noticeReg q)
      ∧ u.mem = s.mem)
    ∧ ((s.blk ≠ 5 ∨ w ∉ s.wakes) → exec (.dozeWake w) s = .next s)
    ∧ ((s.blk ≠ 6 ∨ s.entry ≠ none ∨ w ∉ s.wakes) → exec (.sleepWake w) s = .next s)
    ∧ (s.blk = 6 → s.entry = none → w ∈ s.wakes → s.clk.running = false → (s.clk.clkAck = false ∨ s.clk.porst = true) →
      ∃ u, exec (.sleepWake w) s = .next u ∧ called u ∧ u.clk.running = false ∧ u.pds = s.pds ∧ s.regsKept u (· == .AP_PSTAT))
    ∧ (s.blk = 6 → s.entry = none → w ∈ s.wakes → s.clk.clkAck = true → s.clk.porst = false →
      ∃ u, exec (.sleepWake w) s = .next u ∧ called u ∧ u.clk.running = true ∧ u.flag .TB_STAT 0 = false
        ∧ ∀ d ∈ [1, 8], (s.pd d).phase = .off → u.pd d = { s.pd d with req := true, phase := .rampUp, want := true }))
  ∧ (∀ s : State, s.clk.clkReq = true → s.clk.porst = false → s.clk.held = true → (s.pd 1).phase = .off →
    ∃ u, exec .clkAckRise s = .next u ∧ u.clk.clkAck = true ∧ u.clk.running = true ∧ u.flag .TB_STAT 0 = false
      ∧ ∀ d ∈ [1, 8], (s.pd d).phase = .off → u.pd d = { s.pd d with req := true, phase := .rampUp, want := true })
  ∧ (∀ s : State, s.blk = 6 → s.clk.porst = false → s.clk.sysrst = false → s.clk.running = true → s.clk.held = true →
    (s.pd 1).phase = .inReset →
    ∃ u, exec (.domainResetRelease 1) s = .next u ∧ u.clk.held = false ∧ u.blk = 1 ∧ u.flag .BLK_STATE 8 = true)

/-! ### The chain update -/

namespace Sys2Proof.Spec

/-- No group is STOPPING, so no change of a thread ends one. -/
def noneStopping (s : State) : Prop := ∀ g < 8, s.gState g ≠ 3

/-- Thread 0 of tile 0 runs from `pc` on. While the core of tile 0 is stopped it stays STOPPED, as every thread of it (R96). -/
def runsAt (s u : State) (pc : Word) : Prop :=
  if s.flag (.TL_STAT 0) 1 then u.rd (.TH_PC 0 0) = s.rd (.TH_PC 0 0) ∧ u.thState 0 0 = s.thState 0 0
  else u.rd (.TH_PC 0 0) = pc ∧ u.thState 0 0 = 1

/-- Thread 0 of tile 0 runs a ROM entry, and of the other threads of the tile those that UP_CFG.MGMT names are HELD, with the pause of
management (R460, R464). -/
def atRom (s u : State) (pc : Word) : Prop :=
  runsAt s u pc ∧ u.upd.paused = true
    ∧ (∀ n < 16, n ≠ 0 → s.flag .UP_CFG (16 + n) = true → s.flag (.TL_STAT 0) 1 = false → u.thState 0 n = 0)
    ∧ (noneStopping s → ∀ n < 16, n ≠ 0 → s.flag .UP_CFG (16 + n) = false → u.thState 0 n = s.thState 0 n)

/-- What a pause changes of the registers: UP_STAT, the threads of tile 0, and what the groups show of halted members. -/
def pauseReg : Reg → Bool
  | .UP_STAT | .TH_PC 0 0 | .TH_STAT 0 _ | .SC_GSTAT _ | .SC_GCTL _ => true
  | _ => false

/-- The fields of an image: TYPE, MODE, IFLIB, SIZE, HASH (R451). -/
def imgType (img : List Byte) : Nat := num ((img.drop 4).take 1)
def imgMode (img : List Byte) : Nat := num ((img.drop 5).take 1)
def imgSize (img : List Byte) : Nat := num ((img.drop 24).take 4)
def imgHash (img : List Byte) : List Byte := (img.drop 32).take 32

/-- HCRC of a header is right (R451). -/
def hcrcOk (img : List Byte) : Prop := num ((img.drop 252).take 4) = (crc32 (img.take 252)).toNat

/-- The image is whole: HCRC over the header, SIZE its length, HASH over the payload (R451, R460). -/
def imageWhole (img : List Byte) : Prop := hcrcOk img ∧ img.length = 256 + imgSize img ∧ sha256 (img.drop 256) = imgHash img

/-- IFLIB of an image in memory (R451). -/
def ifLib (s : State) (a : Nat) : Nat := num (memBytes s.mem (a + 22) 2)

/-- Where an image type is placed, as shared-memory offset and size (R452). -/
def place (ty : Nat) : Nat × Nat := match ty with | 1 => (0, 0xC0000) | 2 => (0xC0000, 0x30000) | 3 => (0xF0000, 0x10000) | _ => (0, 0)

/-- A payload is made of these hunks: an offset, the new and the old bytes of equal length, in whole words, within the region (R453). -/
def hunksOf (size : Nat) (hs : List (Nat × List Byte × List Byte)) (pay : List Byte) : Prop :=
  pay = (hs.map (fun h => leBytes 4 h.1 ++ leBytes 4 h.2.1.length ++ h.2.1 ++ h.2.2)).flatten
    ∧ ∀ h ∈ hs, h.2.2.length = h.2.1.length ∧ h.1 % 4 = 0 ∧ h.2.1.length % 4 = 0 ∧ h.2.1 ≠ [] ∧ h.1 + h.2.1.length ≤ size

/-- Memory after writes from `base` on, one after the other. -/
def patched (m : List Host.Cell) (base : Nat) (ws : List (Nat × List Byte)) : List Host.Cell :=
  ws.foldl (fun m w => memPut m (base + w.1) w.2) m

/-- The 1 MiB of shared memory at an offset takes writes of the DMA side, no view of the image lies in it, and no word is marked. -/
def takes (s : State) (o : Nat) : Prop :=
  s.inOrder = true ∧ s.ecc = [] ∧ s.writeBacks = [] ∧ (∀ a, o ≤ a → a < o + 0x100000 → s.viewAt a = none)
    ∧ ∀ a n, o ≤ a → a + n ≤ o + 0x100000 → s.dmaWriteRefusal (smBase + a) n = none

/-- The shared-memory offset of the staging area (R459). -/
def stageAt (s : State) : Nat := s.field .UP_STAGE 20 3 * 0x100000

/-- A host address in two registers. -/
def hostAddr (s : State) (lo hi : Reg) : Nat := (s.rd lo).toNat + 2 ^ 32 * (s.rd hi).toNat

/-- A read from the host for the update engine waits or is outstanding at the port of UP_CFG (R458, R464). -/
def imageRead (s u : State) (a : Nat) : Prop :=
  queued u (s.field .UP_CFG 0 1) (fun x => x.write = false ∧ x.use = .update ∧ x.addr = a)

/-- The code of R456 for a header of the node, checks 0x1 to 0x7 in their order; 0 where all pass. -/
def stageCause (s : State) (h : List Byte) : Nat :=
  let f := fun (o n : Nat) => num ((h.drop o).take n)
  let v := (s.rd .BLK_VERSION).toNat
  let delta := s.build.tilesLog2 ≤ 1
  let held := (List.range 4).flatMap (fun i => leBytes 4 (s.rd (.UP_TRUST i)).toNat)
  let signed := (f 6 1) % 2 = 1
  let key := (h.drop 128).take 32
  let verifies := ed25519Ok key (h.take 64) ((h.drop 64).take 64) = true
  if v < f 12 4 ∨ f 16 4 < v then 1
  else if imgMode h ≠ (if delta then 1 else 0) then 2
  else if imgType h = 1 ∧ f 20 2 ≠ s.field .UP_IF 0 16 then 3
  else if stageAt s = 0 ∨ 0x100000 < s.stageNext + 256 + imgSize h ∨ (place (imgType h)).2 < 256
      ∨ (imgMode h ≠ 1 ∧ (place (imgType h)).2 < 256 + imgSize h) then 4
  else if imgMode h = 1 ∧ f 28 4 ≠ (s.rd (.UP_VER (imgType h - 1))).toNat then 5
  else if (s.flag .UP_CFG 8 = true ∧ ¬ (signed ∧ (sha256 key).take 16 = held ∧ verifies)) ∨ (s.flag .UP_CFG 8 = false ∧ signed ∧ ¬ verifies) then 6
  else if (∃ x ∈ s.upd.staged, x.ty = imgType h) ∨ 2 < s.field .UP_STAT 0 3 then 7
  else 0

/-- An image has not been staged: STAGEERR and its code, and what was staged stays (R456). -/
def notStaged (s u : State) (code : Nat) : Prop :=
  u.flag .UP_STAT 12 = true ∧ u.field .UP_STAT 16 8 = code ∧ u.upd.place = none ∧ u.upd.staged = s.upd.staged
    ∧ u.field .UP_STAT 0 3 = (if s.field .UP_STAT 0 3 = 1 then (if s.upd.staged = [] then 0 else 2) else s.field .UP_STAT 0 3)
    ∧ u.mem = s.mem ∧ s.regsKept u (· == .UP_STAT)

/-- SEND reads the image from the host, its header first, and is turned away while one runs (R458). An image that cannot be read or whose
header fails sets HDRERR (R454, R458); else it goes out on the child edges that the range meets, and is staged where the node lies in
the range and the checks of R456 pass; the first check that fails is CAUSE. At the end of a reception the hunks and the hash decide
between STAGED and cause 5 or 8 (R456). -/
def Staging : Prop :=
  (∀ (s : State) (src : Src), s.admits src .UP_CMD 1 = true →
    (s.upd.sending = false →
      ∃ u, exec (.upCmdSend src) s = .next u ∧ s.accepted u src (fun _ => false) ∧ u.upd = { s.upd with sending := true, asked := 256 }
        ∧ u.mem = s.mem ∧ imageRead s u (hostAddr s (.UP_SRCADDR 0) (.UP_SRCADDR 1)))
    ∧ (s.upd.sending = true → ∃ u, exec (.upCmdSend src) s = .next u ∧ s.turnedAway u src .state ∧ u.upd = s.upd))
  ∧ (∀ (s : State) (data : List Byte) (err : Bool), s.upd.hashDue = false →
    let ok := err = false ∧ imageHeaderOk (data.take 256) = true
    let id := s.field .FD_STAT 0 14
    let first := s.field .UP_RANGE 0 14
    let last := s.field .UP_RANGE 16 14
    let m := leBytes 2 first ++ leBytes 2 last ++ leBytes 4 0 ++ data
    (s.upd.sending = false → exec (.updateStageEnd data err) s = .next s)
    ∧ (s.upd.sending = true → ¬ ok →
      ∃ u, exec (.updateStageEnd data err) s = .next u ∧ u.flag .UP_STAT 13 = true ∧ u.upd = { s.upd with sending := false, asked := 0 }
        ∧ u.mem = s.mem ∧ s.regsKept u (· == .UP_STAT))
    ∧ (s.upd.sending = true → ok → s.upd.asked = 256 →
      ∃ u, exec (.updateStageEnd data err) s = .next u ∧ u.regs = s.regs ∧ u.mem = s.mem
        ∧ u.upd = { s.upd with asked := 256 + imgSize data }
        ∧ imageRead s u (hostAddr s (.UP_SRCADDR 0) (.UP_SRCADDR 1) + 256))
    ∧ (s.upd.sending = true → ok → s.upd.asked ≠ 256 →
      ∃ u, exec (.updateStageEnd data err) s = .next u ∧ u.upd.sending = false ∧ u.upd.asked = 0
        ∧ (∀ x ∈ s.fed.children, x.2.1 ≤ last → first ≤ x.2.2 →
            ∃ c ∈ outCells u x.1, c.ty = 7 ∧ c.som = true ∧ c.loc = false ∧ c.dest = x.2.1 ∧ c.payload = m.take 52)
        ∧ ((id < first ∨ last < id) → u.regs = s.regs ∧ u.mem = s.mem ∧ u.upd = { s.upd with sending := false, asked := 0 })
        ∧ (first ≤ id → id ≤ last → stageCause s data ≠ 0 → notStaged s u (stageCause s data))
        ∧ (first ≤ id → id ≤ last → stageCause s data = 0 → imageWhole data → takes s (stageAt s) →
            (imgMode data = 1 → ∃ hs, hunksOf (place (imgType data)).2 hs (data.drop 256)
              ∧ ∀ h ∈ hs, h.2.2 = memBytes s.mem (smBase + (place (imgType data)).1 + h.1) h.2.1.length) →
            u.upd.staged = s.upd.staged ++ [⟨imgType data, s.stageNext, data.length, false⟩] ∧ u.field .UP_STAT 0 3 = 2
              ∧ s.memBecomes u (smBase + stageAt s + s.stageNext) data)))
  ∧ (∀ (s : State) (data : List Byte) (err : Bool) (o : Nat), s.upd.hashDue = true → s.upd.place = some o →
    let img := s.upd.rx.drop 8
    let n := imgSize img
    let pay := (img.drop 256).take n
    let fits := imgMode img = 1 → ∃ hs, hunksOf (place (imgType img)).2 hs pay
    let whole := img.length = 256 + n ∧ sha256 pay = imgHash img
    (fits → whole →
      ∃ u, exec (.updateStageEnd data err) s = .next u ∧ u.upd.place = none ∧ u.upd.hashDue = false ∧ u.mem = s.mem
        ∧ u.upd.staged = s.upd.staged ++ [⟨imgType img, o, 256 + n, false⟩] ∧ s.regsKept u (· == .UP_STAT)
        ∧ u.field .UP_STAT 0 3 = if s.field .UP_STAT 0 3 ≤ 2 then 2 else s.field .UP_STAT 0 3)
    ∧ (fits → ¬ whole → ∃ u, exec (.updateStageEnd data err) s = .next u ∧ notStaged s u 8)
    ∧ (¬ fits → ∃ u, exec (.updateStageEnd data err) s = .next u ∧ notStaged s u 5))

end Sys2Proof.Spec

/-- SEND reads the image from the host, its header first, and is turned away while one runs; the image goes out on the child edges that
the range meets, and is staged where the node lies in the range and every check of R456 passes; else HDRERR or STAGEERR with the code
of the first check that fails (R454 to R458). ACTIVATE takes a time, not before now, and sets ACTLATE for one that is past; it is turned
away with nothing staged, and in a FULL build without a store slot (R459, R464). At the time the images go to the loader, with management paused, or an image whose IFLIB
differs is held (R460, R465). A good placement, FULL or DELTA, enters the firmware in CONFIRMING, a bad one falls back (R460, R461).
CONFIRM records the versions; FALLBACK and the expired window fall back with their cause; the restored image runs, or the update has
FAILED (R463, R464). DISCARD clears what is staged (R465). At the end of a boot UP_VER and UP_IF show the images of the code store,
and a library that differs from the firmware in IFLIB is held unless UP_SKEWOVR overrides it (R465). Threads of tile 0 stay STOPPED
while its core is stopped (R96).
Choices of the model that it rests on: log entries 36 and 37. -/
def Obligations.ChainUpdate : Prop :=
  Spec.Staging ∧
  (∀ (s : State) (src : Src), s.admits src .UP_CMD 2 = true →
    let t := Spec.hostAddr s (.UP_ACTT 0) (.UP_ACTT 1)
    let slot := s.build.tilesLog2 ≤ 1 ∨ s.rd (.UP_SLOT 0) ≠ 0 ∨ s.rd (.UP_SLOT 1) ≠ 0
    ((∃ x ∈ s.upd.staged, x.hold = false) → slot →
      ∃ u, exec (.upCmdActivate src) s = .next u ∧ s.accepted u src (· == .UP_STAT) ∧ u.upd = { s.upd with act := some (max t s.now) }
        ∧ u.rd .UP_STAT = setBit (s.rd .UP_STAT) 9 (s.flag .UP_STAT 9 || decide (0 < t ∧ t < s.now)) ∧ u.mem = s.mem)
    ∧ (((∀ x ∈ s.upd.staged, x.hold = true) ∨ ¬ slot) →
      ∃ u, exec (.upCmdActivate src) s = .next u ∧ s.turnedAway u src .state ∧ u.upd = s.upd))
  ∧ (∀ s : State, s.upd.act = none → exec .activationInstant s = .next s)
  ∧ (∀ (s : State) (t : Nat) (hs : List Staged) (x : Staged), s.upd.act = some t → (∀ y ∈ hs, y.hold = true) → x.hold = false →
    let base := smBase + Spec.stageAt s
    let lib := s.rd (.UP_VER 1) ≠ 0
    let runs := Spec.ifLib s (smBase + 0xC0000)
    let goes := fun (xs keep : List Staged) => ∃ u, exec .activationInstant s = .next u ∧ Spec.nowAt s u t ∧ u.upd.placed = xs
      ∧ u.upd.placing = true ∧ u.upd.staged = keep ∧ u.upd.act = none ∧ Spec.atRom s u 0x0F80C000
      ∧ (Spec.noneStopping s → u.mem = s.mem ∧ s.regsKept u (fun q => Spec.pauseReg q || q == .TB_LO || q == .TB_HI))
      ∧ (keep = hs → u.rd .UP_STAT = s.rd .UP_STAT) ∧ (keep ≠ hs → u.flag .UP_STAT 8 = true ∧ u.field .UP_STAT 0 3 = 5)
    (s.upd.staged = hs ++ [x] →
      let skew := (x.ty = 1 ∧ lib ∧ runs ≠ Spec.ifLib s (base + x.off)) ∨ (x.ty = 2 ∧ Spec.ifLib s (base + x.off) ≠ s.field .UP_IF 16 16)
      (¬ skew → goes [x] hs)
      ∧ (skew → ∃ u, exec .activationInstant s = .next u ∧ Spec.nowAt s u t ∧ u.upd.staged = hs ++ [{ x with hold := true }]
          ∧ u.upd.act = none ∧ u.upd.placing = false ∧ u.flag .UP_STAT 8 = true ∧ u.field .UP_STAT 0 3 = 5 ∧ u.mem = s.mem
          ∧ s.regsKept u (fun q => q == .UP_STAT || q == .TB_LO || q == .TB_HI)))
    ∧ (∀ l : Staged, s.upd.staged = hs ++ [x, l] → l.hold = false → x.ty = 1 → l.ty = 2 →
      let f := Spec.ifLib s (base + x.off)
      (f = Spec.ifLib s (base + l.off) → goes [x, l] hs)
      ∧ (f ≠ Spec.ifLib s (base + l.off) → (lib → runs = f) → goes [x] (hs ++ [{ l with hold := true }]))))
  ∧ (∀ s : State, s.upd.placing = false → exec .loaderPlacementEnd s = .next s)
  ∧ (∀ (s : State) (x : Staged), s.upd.placing = true → s.upd.placed = [x] → s.upd.changed = [] → 1 ≤ x.ty → x.ty ≤ 3 → s.ecc = [] →
    let base := smBase + (Spec.place x.ty).1
    let img := memBytes s.mem (smBase + Spec.stageAt s + x.off) x.size
    let runs := fun (u : State) => u.field .UP_STAT 0 3 = 3 ∧ u.upd.placing = false ∧ u.upd.paused = false ∧ u.upd.entered = s.now
      ∧ u.upd.placed = [x] ∧ Spec.runsAt s u 0x01000100
    let falls := ∃ u, exec .loaderPlacementEnd s = .next u ∧ u.field .UP_STAT 0 3 = 4 ∧ u.field .UP_STAT 24 4 = 3 ∧ u.upd.placing = false
      ∧ Spec.atRom s u 0x0F80C400
      ∧ (2 ≤ s.build.tilesLog2 → u.upd.asked = 256 ∧ Spec.imageRead s u (Spec.hostAddr s (.UP_SLOT 0) (.UP_SLOT 1)))
    (2 ≤ s.build.tilesLog2 → 256 ≤ x.size →
      (Spec.takes s 0 → Spec.imageWhole img → x.size ≤ (Spec.place x.ty).2 →
        ∃ u, exec .loaderPlacementEnd s = .next u ∧ runs u ∧ s.memBecomes u base img
          ∧ (x.ty = 1 → u.field .UP_IF 16 16 = Spec.num ((img.drop 22).take 2)))
      ∧ (Spec.takes s 0 → x.size ≤ (Spec.place x.ty).2 → x.size = 256 + Spec.imgSize img → ¬ Spec.imageWhole img → falls)
      ∧ (s.dmaWriteRefusal base x.size ≠ none → falls))
    ∧ (∀ hs, s.build.tilesLog2 ≤ 1 → Spec.takes s 0 → Spec.hunksOf (Spec.place x.ty).2 hs (img.drop 256) → 256 ≤ x.size →
      let m := Spec.patched s.mem base (hs.map (fun h => (h.1, h.2.1)))
      let n := Spec.imgSize (memBytes m base 256)
      256 + n ≤ (Spec.place x.ty).2 →
      (Spec.imageWhole (memBytes m base (256 + n)) →
        ∃ u, exec .loaderPlacementEnd s = .next u ∧ runs u ∧ ∀ a, memGet u.mem a = memGet m a)
      ∧ (¬ Spec.imageWhole (memBytes m base (256 + n)) → falls)))
  ∧ (∀ (s : State) (src : Src),
    (s.admits src .UP_CMD 3 = true →
      (s.field .UP_STAT 0 3 = 3 → (∀ x ∈ s.upd.placed, 1 ≤ x.ty ∧ x.ty ≤ 3) →
        ∃ u, exec (.upCmdConfirm src) s = .next u ∧ s.accepted u src (fun q => match q with | .UP_STAT | .UP_VER _ => true | _ => false)
          ∧ u.field .UP_STAT 0 3 = 0 ∧ u.upd = { s.upd with placed := [] } ∧ u.mem = s.mem
          ∧ ∀ i < 3, (u.rd (.UP_VER i)).toNat =
            if ∃ x ∈ s.upd.placed, x.ty = i + 1 then Spec.num (memBytes s.mem (smBase + (Spec.place (i + 1)).1 + 8) 4)
            else (s.rd (.UP_VER i)).toNat)
      ∧ (s.field .UP_STAT 0 3 ≠ 3 →
        ∃ u, exec (.upCmdConfirm src) s = .next u ∧ s.turnedAway u src .state ∧ u.upd = s.upd ∧ u.rd .UP_STAT = s.rd .UP_STAT))
    ∧ (∀ v, s.admits src .UP_CMD (setFld v 0 4 4) = true →
      (s.field .UP_STAT 0 3 = 3 →
        ∃ u, exec (.upCmdFallback src v) s = .next u ∧ u.okayed src ∧ u.field .UP_STAT 0 3 = 4 ∧ u.field .UP_STAT 24 4 = fld v 4 4
          ∧ Spec.atRom s u 0x0F80C400 ∧ (Spec.noneStopping s → u.mem = s.mem ∧ s.accepted u src Spec.pauseReg)
          ∧ (2 ≤ s.build.tilesLog2 → u.upd.asked = 256 ∧ Spec.imageRead s u (Spec.hostAddr s (.UP_SLOT 0) (.UP_SLOT 1))))
      ∧ (s.field .UP_STAT 0 3 ≠ 3 →
        ∃ u, exec (.upCmdFallback src v) s = .next u ∧ s.turnedAway u src .state ∧ u.upd = s.upd ∧ u.rd .UP_STAT = s.rd .UP_STAT))
    ∧ (s.admits src .UP_CMD 5 = true →
      ∃ u, exec (.upCmdDiscard src) s = .next u ∧ s.accepted u src (· == .UP_STAT) ∧ u.mem = s.mem
        ∧ u.upd = { s.upd with staged := [], act := none, place := none, hashDue := false }
        ∧ u.field .UP_STAT 0 3 = if s.field .UP_STAT 0 3 ∈ [1, 2, 5] then 0 else s.field .UP_STAT 0 3))
  ∧ (∀ s : State,
    (s.field .UP_STAT 0 3 ≠ 3 → exec .confirmWindowExpiry s = .next s)
    ∧ (s.field .UP_STAT 0 3 = 3 →
      ∃ u, exec .confirmWindowExpiry s = .next u ∧ u.field .UP_STAT 0 3 = 4 ∧ u.flag .UP_STAT 10 = true ∧ u.field .UP_STAT 24 4 = 1
        ∧ Spec.nowAt s u (s.upd.entered + 1600000 * s.field .UP_CONFIRMWIN 0 16) ∧ Spec.atRom s u 0x0F80C400
        ∧ (Spec.noneStopping s → u.mem = s.mem ∧ s.regsKept u (fun q => Spec.pauseReg q || q == .TB_LO || q == .TB_HI))
        ∧ (2 ≤ s.build.tilesLog2 → u.upd.asked = 256 ∧ Spec.imageRead s u (Spec.hostAddr s (.UP_SLOT 0) (.UP_SLOT 1)))))
  ∧ (∀ (s : State) (img : List Byte) (err : Bool),
    let back := fun (u : State) => u.field .UP_STAT 0 3 = 0 ∧ u.field .UP_STAT 24 4 = s.field .UP_STAT 24 4 ∧ u.upd.placed = []
      ∧ u.upd.paused = false ∧ Spec.runsAt s u 0x01000100
    let ok := err = false ∧ imageHeaderOk (img.take 256) = true
    (s.field .UP_STAT 0 3 ≠ 4 → exec (.fallbackRestoreEnd img err) s = .next s)
    ∧ (s.field .UP_STAT 0 3 = 4 → 2 ≤ s.build.tilesLog2 →
      (ok → s.upd.asked = 256 →
        ∃ u, exec (.fallbackRestoreEnd img err) s = .next u ∧ u.regs = s.regs ∧ u.mem = s.mem
          ∧ u.upd = { s.upd with asked := 256 + Spec.imgSize img } ∧ Spec.imageRead s u (Spec.hostAddr s (.UP_SLOT 0) (.UP_SLOT 1) + 256))
      ∧ ((¬ ok ∨ (s.upd.asked ≠ 256 ∧ (¬ Spec.imageWhole img ∨ Spec.imgType img = 3))) →
        ∃ u, exec (.fallbackRestoreEnd img err) s = .next u ∧ u.field .UP_STAT 0 3 = 6 ∧ u.flag .UP_STAT 11 = true
          ∧ u.upd.paused = s.upd.paused ∧ u.mem = s.mem ∧ s.regsKept u (· == .UP_STAT))
      ∧ (ok → s.upd.asked ≠ 256 → Spec.imageWhole img → (Spec.imgType img = 1 ∨ Spec.imgType img = 2) →
        img.length ≤ (Spec.place (Spec.imgType img)).2 → Spec.takes s 0 →
        ∃ u, exec (.fallbackRestoreEnd img err) s = .next u ∧ back u ∧ s.memBecomes u (smBase + (Spec.place (Spec.imgType img)).1) img))
    ∧ (∀ (x : Staged) (hs : List (Nat × List Byte × List Byte)), s.field .UP_STAT 0 3 = 4 → s.build.tilesLog2 ≤ 1 → s.upd.placed = [x] →
      let d := memBytes s.mem (smBase + Spec.stageAt s + x.off) x.size
      (x.ty = 3 → ∃ u, exec (.fallbackRestoreEnd img err) s = .next u ∧ back u ∧ u.mem = s.mem)
      ∧ ((x.ty = 1 ∨ x.ty = 2) → Spec.takes s 0 → Spec.hunksOf (Spec.place x.ty).2 hs (d.drop 256) → 256 ≤ x.size →
        ∃ u, exec (.fallbackRestoreEnd img err) s = .next u ∧ back u
          ∧ ∀ a, memGet u.mem a = memGet (Spec.patched s.mem (smBase + (Spec.place x.ty).1) (hs.reverse.map (fun h => (h.1, h.2.2)))) a)))
  ∧ (∀ (s : State) (src : Src) (v : Word), s.admits src .BLK_BOOTDONE v = true → (∃ tile, src = .thread 0 0 tile) → fld v 16 16 = 0x5EA1 →
    s.lockOpen = true →
    let h := fun (ty : Nat) => memBytes s.mem (smBase + (Spec.place ty).1) 256
    let has := fun (ty : Nat) => imageHeaderOk (h ty) = true ∧ Spec.imgType (h ty) = ty
    let level := fun (ty : Nat) => Spec.num (((h ty).drop 22).take 2)
    let skew := has 1 ∧ has 2 ∧ level 1 ≠ level 2 ∧ s.flag .UP_SKEWOVR 0 = false
    ∃ u, exec (.blkBootdoneWrite src v) s = .next u
      ∧ (∀ i < 3, (u.rd (.UP_VER i)).toNat = if has (i + 1) ∧ ¬ (i = 1 ∧ skew) then Spec.num (((h (i + 1)).drop 8).take 4) else 0)
      ∧ u.field .UP_IF 16 16 = (if has 1 then level 1 else 0)
      ∧ (skew → u.flag .UP_STAT 8 = true ∧ u.field .UP_STAT 0 3 = 5)
      ∧ (¬ skew → u.rd .UP_STAT = s.rd .UP_STAT))
end

