-- ==== Sys2Proof/Laws/State.lean ====
section
/-! SUPPORT. What each update of the state leaves and sets, field by field: one lemma for each field of each update, true by
rfl; and what a register or a part reads after an update. -/

namespace Sys2Proof.Machine

/-! ### Maps -/

theorem mget_mset_same {κ α : Type} [DecidableEq κ] (m : Map κ α) (d v : α) (k : κ) : mget (mset m k v) d k = v := by
  induction m with
  | nil => simp [mset, mget]
  | cons x m ih =>
    obtain ⟨k', v'⟩ := x
    by_cases h : k' = k
    · simp [mset, mget, h]
    · simp [mset, mget, h, ih]

theorem mget_mset_other {κ α : Type} [DecidableEq κ] (m : Map κ α) (d v : α) (k j : κ) (h : j ≠ k) :
    mget (mset m k v) d j = mget m d j := by
  induction m with
  | nil => simp [mset, mget, Ne.symm h]
  | cons x m ih =>
    obtain ⟨k', v'⟩ := x
    by_cases hk : k' = k
    · subst hk; simp [mset, mget, Ne.symm h]
    · by_cases hj : k' = j
      · subst hj; simp [mset, mget, h]
      · simp [mset, mget, hk, hj, ih]

theorem mget_mset {κ α : Type} [DecidableEq κ] (m : Map κ α) (d v : α) (k j : κ) :
    mget (mset m k v) d j = if j = k then v else mget m d j := by
  by_cases h : j = k
  · subst h; simp [mget_mset_same]
  · simp [h, mget_mset_other _ _ _ _ _ h]

variable (s : State)

/-! ### wr -/

@[simp] theorem State.wr_build (r : Reg) (v : Word) : (s.wr r v).build = s.build := rfl
@[simp] theorem State.wr_regs (r : Reg) (v : Word) : (s.wr r v).regs = mset s.regs r v := rfl
@[simp] theorem State.wr_mem (r : Reg) (v : Word) : (s.wr r v).mem = s.mem := rfl
@[simp] theorem State.wr_ecc (r : Reg) (v : Word) : (s.wr r v).ecc = s.ecc := rfl
@[simp] theorem State.wr_writeBacks (r : Reg) (v : Word) : (s.wr r v).writeBacks = s.writeBacks := rfl
@[simp] theorem State.wr_dmaLast (r : Reg) (v : Word) : (s.wr r v).dmaLast = s.dmaLast := rfl
@[simp] theorem State.wr_clk (r : Reg) (v : Word) : (s.wr r v).clk = s.clk := rfl
@[simp] theorem State.wr_pds (r : Reg) (v : Word) : (s.wr r v).pds = s.pds := rfl
@[simp] theorem State.wr_entry (r : Reg) (v : Word) : (s.wr r v).entry = s.entry := rfl
@[simp] theorem State.wr_clears (r : Reg) (v : Word) : (s.wr r v).clears = s.clears := rfl
@[simp] theorem State.wr_opened (r : Reg) (v : Word) : (s.wr r v).opened = s.opened := rfl
@[simp] theorem State.wr_budget (r : Reg) (v : Word) : (s.wr r v).budget = s.budget := rfl
@[simp] theorem State.wr_apWait (r : Reg) (v : Word) : (s.wr r v).apWait = s.apWait := rfl
@[simp] theorem State.wr_apHeld (r : Reg) (v : Word) : (s.wr r v).apHeld = s.apHeld := rfl
@[simp] theorem State.wr_apDrawn (r : Reg) (v : Word) : (s.wr r v).apDrawn = s.apDrawn := rfl
@[simp] theorem State.wr_resp (r : Reg) (v : Word) : (s.wr r v).resp = s.resp := rfl
@[simp] theorem State.wr_ports (r : Reg) (v : Word) : (s.wr r v).ports = s.ports := rfl
@[simp] theorem State.wr_tiles (r : Reg) (v : Word) : (s.wr r v).tiles = s.tiles := rfl
@[simp] theorem State.wr_threads (r : Reg) (v : Word) : (s.wr r v).threads = s.threads := rfl
@[simp] theorem State.wr_chans (r : Reg) (v : Word) : (s.wr r v).chans = s.chans := rfl
@[simp] theorem State.wr_chanSpaces (r : Reg) (v : Word) : (s.wr r v).chanSpaces = s.chanSpaces := rfl
@[simp] theorem State.wr_ctxs (r : Reg) (v : Word) : (s.wr r v).ctxs = s.ctxs := rfl
@[simp] theorem State.wr_gz (r : Reg) (v : Word) : (s.wr r v).gz = s.gz := rfl
@[simp] theorem State.wr_timers (r : Reg) (v : Word) : (s.wr r v).timers = s.timers := rfl
@[simp] theorem State.wr_tbAdj (r : Reg) (v : Word) : (s.wr r v).tbAdj = s.tbAdj := rfl
@[simp] theorem State.wr_conv (r : Reg) (v : Word) : (s.wr r v).conv = s.conv := rfl
@[simp] theorem State.wr_engines (r : Reg) (v : Word) : (s.wr r v).engines = s.engines := rfl
@[simp] theorem State.wr_rings (r : Reg) (v : Word) : (s.wr r v).rings = s.rings := rfl
@[simp] theorem State.wr_cqs (r : Reg) (v : Word) : (s.wr r v).cqs = s.cqs := rfl
@[simp] theorem State.wr_polls (r : Reg) (v : Word) : (s.wr r v).polls = s.polls := rfl
@[simp] theorem State.wr_groups (r : Reg) (v : Word) : (s.wr r v).groups = s.groups := rfl
@[simp] theorem State.wr_own (r : Reg) (v : Word) : (s.wr r v).own = s.own := rfl
@[simp] theorem State.wr_fill (r : Reg) (v : Word) : (s.wr r v).fill = s.fill := rfl
@[simp] theorem State.wr_fDirty (r : Reg) (v : Word) : (s.wr r v).fDirty = s.fDirty := rfl
@[simp] theorem State.wr_qDirty (r : Reg) (v : Word) : (s.wr r v).qDirty = s.qDirty := rfl
@[simp] theorem State.wr_copies (r : Reg) (v : Word) : (s.wr r v).copies = s.copies := rfl
@[simp] theorem State.wr_copyFree (r : Reg) (v : Word) : (s.wr r v).copyFree = s.copyFree := rfl
@[simp] theorem State.wr_edits (r : Reg) (v : Word) : (s.wr r v).edits = s.edits := rfl
@[simp] theorem State.wr_cans (r : Reg) (v : Word) : (s.wr r v).cans = s.cans := rfl
@[simp] theorem State.wr_links (r : Reg) (v : Word) : (s.wr r v).links = s.links := rfl
@[simp] theorem State.wr_fed (r : Reg) (v : Word) : (s.wr r v).fed = s.fed := rfl
@[simp] theorem State.wr_mirror (r : Reg) (v : Word) : (s.wr r v).mirror = s.mirror := rfl
@[simp] theorem State.wr_upd (r : Reg) (v : Word) : (s.wr r v).upd = s.upd := rfl
@[simp] theorem State.wr_tap (r : Reg) (v : Word) : (s.wr r v).tap = s.tap := rfl
@[simp] theorem State.wr_windows (r : Reg) (v : Word) : (s.wr r v).windows = s.windows := rfl
@[simp] theorem State.wr_pausedWin (r : Reg) (v : Word) : (s.wr r v).pausedWin = s.pausedWin := rfl
@[simp] theorem State.wr_fioIn (r : Reg) (v : Word) : (s.wr r v).fioIn = s.fioIn := rfl
@[simp] theorem State.wr_finPin (r : Reg) (v : Word) : (s.wr r v).finPin = s.finPin := rfl
@[simp] theorem State.wr_faultIn (r : Reg) (v : Word) : (s.wr r v).faultIn = s.faultIn := rfl
@[simp] theorem State.wr_faultSeq (r : Reg) (v : Word) : (s.wr r v).faultSeq = s.faultSeq := rfl
@[simp] theorem State.wr_faultOut (r : Reg) (v : Word) : (s.wr r v).faultOut = s.faultOut := rfl
@[simp] theorem State.wr_faultHeld (r : Reg) (v : Word) : (s.wr r v).faultHeld = s.faultHeld := rfl
@[simp] theorem State.wr_wakes (r : Reg) (v : Word) : (s.wr r v).wakes = s.wakes := rfl
@[simp] theorem State.wr_pending (r : Reg) (v : Word) : (s.wr r v).pending = s.pending := rfl
@[simp] theorem State.wr_freeCtr (r : Reg) (v : Word) : (s.wr r v).freeCtr = s.freeCtr := rfl

/-! ### resetRegs -/

@[simp] theorem State.resetRegs_build (p : Reg → Bool) : (s.resetRegs p).build = s.build := rfl
@[simp] theorem State.resetRegs_regs (p : Reg → Bool) : (s.resetRegs p).regs = s.regs.filter (fun x => !p x.1) := rfl
@[simp] theorem State.resetRegs_mem (p : Reg → Bool) : (s.resetRegs p).mem = s.mem := rfl
@[simp] theorem State.resetRegs_ecc (p : Reg → Bool) : (s.resetRegs p).ecc = s.ecc := rfl
@[simp] theorem State.resetRegs_writeBacks (p : Reg → Bool) : (s.resetRegs p).writeBacks = s.writeBacks := rfl
@[simp] theorem State.resetRegs_dmaLast (p : Reg → Bool) : (s.resetRegs p).dmaLast = s.dmaLast := rfl
@[simp] theorem State.resetRegs_clk (p : Reg → Bool) : (s.resetRegs p).clk = s.clk := rfl
@[simp] theorem State.resetRegs_pds (p : Reg → Bool) : (s.resetRegs p).pds = s.pds := rfl
@[simp] theorem State.resetRegs_entry (p : Reg → Bool) : (s.resetRegs p).entry = s.entry := rfl
@[simp] theorem State.resetRegs_clears (p : Reg → Bool) : (s.resetRegs p).clears = s.clears := rfl
@[simp] theorem State.resetRegs_opened (p : Reg → Bool) : (s.resetRegs p).opened = s.opened := rfl
@[simp] theorem State.resetRegs_budget (p : Reg → Bool) : (s.resetRegs p).budget = s.budget := rfl
@[simp] theorem State.resetRegs_apWait (p : Reg → Bool) : (s.resetRegs p).apWait = s.apWait := rfl
@[simp] theorem State.resetRegs_apHeld (p : Reg → Bool) : (s.resetRegs p).apHeld = s.apHeld := rfl
@[simp] theorem State.resetRegs_apDrawn (p : Reg → Bool) : (s.resetRegs p).apDrawn = s.apDrawn := rfl
@[simp] theorem State.resetRegs_resp (p : Reg → Bool) : (s.resetRegs p).resp = s.resp := rfl
@[simp] theorem State.resetRegs_ports (p : Reg → Bool) : (s.resetRegs p).ports = s.ports := rfl
@[simp] theorem State.resetRegs_tiles (p : Reg → Bool) : (s.resetRegs p).tiles = s.tiles := rfl
@[simp] theorem State.resetRegs_threads (p : Reg → Bool) : (s.resetRegs p).threads = s.threads := rfl
@[simp] theorem State.resetRegs_chans (p : Reg → Bool) : (s.resetRegs p).chans = s.chans := rfl
@[simp] theorem State.resetRegs_chanSpaces (p : Reg → Bool) : (s.resetRegs p).chanSpaces = s.chanSpaces := rfl
@[simp] theorem State.resetRegs_ctxs (p : Reg → Bool) : (s.resetRegs p).ctxs = s.ctxs := rfl
@[simp] theorem State.resetRegs_gz (p : Reg → Bool) : (s.resetRegs p).gz = s.gz := rfl
@[simp] theorem State.resetRegs_timers (p : Reg → Bool) : (s.resetRegs p).timers = s.timers := rfl
@[simp] theorem State.resetRegs_tbAdj (p : Reg → Bool) : (s.resetRegs p).tbAdj = s.tbAdj := rfl
@[simp] theorem State.resetRegs_conv (p : Reg → Bool) : (s.resetRegs p).conv = s.conv := rfl
@[simp] theorem State.resetRegs_engines (p : Reg → Bool) : (s.resetRegs p).engines = s.engines := rfl
@[simp] theorem State.resetRegs_rings (p : Reg → Bool) : (s.resetRegs p).rings = s.rings := rfl
@[simp] theorem State.resetRegs_cqs (p : Reg → Bool) : (s.resetRegs p).cqs = s.cqs := rfl
@[simp] theorem State.resetRegs_polls (p : Reg → Bool) : (s.resetRegs p).polls = s.polls := rfl
@[simp] theorem State.resetRegs_groups (p : Reg → Bool) : (s.resetRegs p).groups = s.groups := rfl
@[simp] theorem State.resetRegs_own (p : Reg → Bool) : (s.resetRegs p).own = s.own := rfl
@[simp] theorem State.resetRegs_fill (p : Reg → Bool) : (s.resetRegs p).fill = s.fill := rfl
@[simp] theorem State.resetRegs_fDirty (p : Reg → Bool) : (s.resetRegs p).fDirty = s.fDirty := rfl
@[simp] theorem State.resetRegs_qDirty (p : Reg → Bool) : (s.resetRegs p).qDirty = s.qDirty := rfl
@[simp] theorem State.resetRegs_copies (p : Reg → Bool) : (s.resetRegs p).copies = s.copies := rfl
@[simp] theorem State.resetRegs_copyFree (p : Reg → Bool) : (s.resetRegs p).copyFree = s.copyFree := rfl
@[simp] theorem State.resetRegs_edits (p : Reg → Bool) : (s.resetRegs p).edits = s.edits := rfl
@[simp] theorem State.resetRegs_cans (p : Reg → Bool) : (s.resetRegs p).cans = s.cans := rfl
@[simp] theorem State.resetRegs_links (p : Reg → Bool) : (s.resetRegs p).links = s.links := rfl
@[simp] theorem State.resetRegs_fed (p : Reg → Bool) : (s.resetRegs p).fed = s.fed := rfl
@[simp] theorem State.resetRegs_mirror (p : Reg → Bool) : (s.resetRegs p).mirror = s.mirror := rfl
@[simp] theorem State.resetRegs_upd (p : Reg → Bool) : (s.resetRegs p).upd = s.upd := rfl
@[simp] theorem State.resetRegs_tap (p : Reg → Bool) : (s.resetRegs p).tap = s.tap := rfl
@[simp] theorem State.resetRegs_windows (p : Reg → Bool) : (s.resetRegs p).windows = s.windows := rfl
@[simp] theorem State.resetRegs_pausedWin (p : Reg → Bool) : (s.resetRegs p).pausedWin = s.pausedWin := rfl
@[simp] theorem State.resetRegs_fioIn (p : Reg → Bool) : (s.resetRegs p).fioIn = s.fioIn := rfl
@[simp] theorem State.resetRegs_finPin (p : Reg → Bool) : (s.resetRegs p).finPin = s.finPin := rfl
@[simp] theorem State.resetRegs_faultIn (p : Reg → Bool) : (s.resetRegs p).faultIn = s.faultIn := rfl
@[simp] theorem State.resetRegs_faultSeq (p : Reg → Bool) : (s.resetRegs p).faultSeq = s.faultSeq := rfl
@[simp] theorem State.resetRegs_faultOut (p : Reg → Bool) : (s.resetRegs p).faultOut = s.faultOut := rfl
@[simp] theorem State.resetRegs_faultHeld (p : Reg → Bool) : (s.resetRegs p).faultHeld = s.faultHeld := rfl
@[simp] theorem State.resetRegs_wakes (p : Reg → Bool) : (s.resetRegs p).wakes = s.wakes := rfl
@[simp] theorem State.resetRegs_pending (p : Reg → Bool) : (s.resetRegs p).pending = s.pending := rfl
@[simp] theorem State.resetRegs_freeCtr (p : Reg → Bool) : (s.resetRegs p).freeCtr = s.freeCtr := rfl

/-! ### setCtx -/

@[simp] theorem State.setCtx_build (t c : Nat) (x : Ctx) : (s.setCtx t c x).build = s.build := rfl
@[simp] theorem State.setCtx_regs (t c : Nat) (x : Ctx) : (s.setCtx t c x).regs = s.regs := rfl
@[simp] theorem State.setCtx_mem (t c : Nat) (x : Ctx) : (s.setCtx t c x).mem = s.mem := rfl
@[simp] theorem State.setCtx_ecc (t c : Nat) (x : Ctx) : (s.setCtx t c x).ecc = s.ecc := rfl
@[simp] theorem State.setCtx_writeBacks (t c : Nat) (x : Ctx) : (s.setCtx t c x).writeBacks = s.writeBacks := rfl
@[simp] theorem State.setCtx_dmaLast (t c : Nat) (x : Ctx) : (s.setCtx t c x).dmaLast = s.dmaLast := rfl
@[simp] theorem State.setCtx_clk (t c : Nat) (x : Ctx) : (s.setCtx t c x).clk = s.clk := rfl
@[simp] theorem State.setCtx_pds (t c : Nat) (x : Ctx) : (s.setCtx t c x).pds = s.pds := rfl
@[simp] theorem State.setCtx_entry (t c : Nat) (x : Ctx) : (s.setCtx t c x).entry = s.entry := rfl
@[simp] theorem State.setCtx_clears (t c : Nat) (x : Ctx) : (s.setCtx t c x).clears = s.clears := rfl
@[simp] theorem State.setCtx_opened (t c : Nat) (x : Ctx) : (s.setCtx t c x).opened = s.opened := rfl
@[simp] theorem State.setCtx_budget (t c : Nat) (x : Ctx) : (s.setCtx t c x).budget = s.budget := rfl
@[simp] theorem State.setCtx_apWait (t c : Nat) (x : Ctx) : (s.setCtx t c x).apWait = s.apWait := rfl
@[simp] theorem State.setCtx_apHeld (t c : Nat) (x : Ctx) : (s.setCtx t c x).apHeld = s.apHeld := rfl
@[simp] theorem State.setCtx_apDrawn (t c : Nat) (x : Ctx) : (s.setCtx t c x).apDrawn = s.apDrawn := rfl
@[simp] theorem State.setCtx_resp (t c : Nat) (x : Ctx) : (s.setCtx t c x).resp = s.resp := rfl
@[simp] theorem State.setCtx_ports (t c : Nat) (x : Ctx) : (s.setCtx t c x).ports = s.ports := rfl
@[simp] theorem State.setCtx_tiles (t c : Nat) (x : Ctx) : (s.setCtx t c x).tiles = s.tiles := rfl
@[simp] theorem State.setCtx_threads (t c : Nat) (x : Ctx) : (s.setCtx t c x).threads = s.threads := rfl
@[simp] theorem State.setCtx_chans (t c : Nat) (x : Ctx) : (s.setCtx t c x).chans = s.chans := rfl
@[simp] theorem State.setCtx_chanSpaces (t c : Nat) (x : Ctx) : (s.setCtx t c x).chanSpaces = s.chanSpaces := rfl
@[simp] theorem State.setCtx_ctxs (t c : Nat) (x : Ctx) : (s.setCtx t c x).ctxs = mset s.ctxs (t, c) x := rfl
@[simp] theorem State.setCtx_gz (t c : Nat) (x : Ctx) : (s.setCtx t c x).gz = s.gz := rfl
@[simp] theorem State.setCtx_timers (t c : Nat) (x : Ctx) : (s.setCtx t c x).timers = s.timers := rfl
@[simp] theorem State.setCtx_tbAdj (t c : Nat) (x : Ctx) : (s.setCtx t c x).tbAdj = s.tbAdj := rfl
@[simp] theorem State.setCtx_conv (t c : Nat) (x : Ctx) : (s.setCtx t c x).conv = s.conv := rfl
@[simp] theorem State.setCtx_engines (t c : Nat) (x : Ctx) : (s.setCtx t c x).engines = s.engines := rfl
@[simp] theorem State.setCtx_rings (t c : Nat) (x : Ctx) : (s.setCtx t c x).rings = s.rings := rfl
@[simp] theorem State.setCtx_cqs (t c : Nat) (x : Ctx) : (s.setCtx t c x).cqs = s.cqs := rfl
@[simp] theorem State.setCtx_polls (t c : Nat) (x : Ctx) : (s.setCtx t c x).polls = s.polls := rfl
@[simp] theorem State.setCtx_groups (t c : Nat) (x : Ctx) : (s.setCtx t c x).groups = s.groups := rfl
@[simp] theorem State.setCtx_own (t c : Nat) (x : Ctx) : (s.setCtx t c x).own = s.own := rfl
@[simp] theorem State.setCtx_fill (t c : Nat) (x : Ctx) : (s.setCtx t c x).fill = s.fill := rfl
@[simp] theorem State.setCtx_fDirty (t c : Nat) (x : Ctx) : (s.setCtx t c x).fDirty = s.fDirty := rfl
@[simp] theorem State.setCtx_qDirty (t c : Nat) (x : Ctx) : (s.setCtx t c x).qDirty = s.qDirty := rfl
@[simp] theorem State.setCtx_copies (t c : Nat) (x : Ctx) : (s.setCtx t c x).copies = s.copies := rfl
@[simp] theorem State.setCtx_copyFree (t c : Nat) (x : Ctx) : (s.setCtx t c x).copyFree = s.copyFree := rfl
@[simp] theorem State.setCtx_edits (t c : Nat) (x : Ctx) : (s.setCtx t c x).edits = s.edits := rfl
@[simp] theorem State.setCtx_cans (t c : Nat) (x : Ctx) : (s.setCtx t c x).cans = s.cans := rfl
@[simp] theorem State.setCtx_links (t c : Nat) (x : Ctx) : (s.setCtx t c x).links = s.links := rfl
@[simp] theorem State.setCtx_fed (t c : Nat) (x : Ctx) : (s.setCtx t c x).fed = s.fed := rfl
@[simp] theorem State.setCtx_mirror (t c : Nat) (x : Ctx) : (s.setCtx t c x).mirror = s.mirror := rfl
@[simp] theorem State.setCtx_upd (t c : Nat) (x : Ctx) : (s.setCtx t c x).upd = s.upd := rfl
@[simp] theorem State.setCtx_tap (t c : Nat) (x : Ctx) : (s.setCtx t c x).tap = s.tap := rfl
@[simp] theorem State.setCtx_windows (t c : Nat) (x : Ctx) : (s.setCtx t c x).windows = s.windows := rfl
@[simp] theorem State.setCtx_pausedWin (t c : Nat) (x : Ctx) : (s.setCtx t c x).pausedWin = s.pausedWin := rfl
@[simp] theorem State.setCtx_fioIn (t c : Nat) (x : Ctx) : (s.setCtx t c x).fioIn = s.fioIn := rfl
@[simp] theorem State.setCtx_finPin (t c : Nat) (x : Ctx) : (s.setCtx t c x).finPin = s.finPin := rfl
@[simp] theorem State.setCtx_faultIn (t c : Nat) (x : Ctx) : (s.setCtx t c x).faultIn = s.faultIn := rfl
@[simp] theorem State.setCtx_faultSeq (t c : Nat) (x : Ctx) : (s.setCtx t c x).faultSeq = s.faultSeq := rfl
@[simp] theorem State.setCtx_faultOut (t c : Nat) (x : Ctx) : (s.setCtx t c x).faultOut = s.faultOut := rfl
@[simp] theorem State.setCtx_faultHeld (t c : Nat) (x : Ctx) : (s.setCtx t c x).faultHeld = s.faultHeld := rfl
@[simp] theorem State.setCtx_wakes (t c : Nat) (x : Ctx) : (s.setCtx t c x).wakes = s.wakes := rfl
@[simp] theorem State.setCtx_pending (t c : Nat) (x : Ctx) : (s.setCtx t c x).pending = s.pending := rfl
@[simp] theorem State.setCtx_freeCtr (t c : Nat) (x : Ctx) : (s.setCtx t c x).freeCtr = s.freeCtr := rfl

/-! ### setPd -/

@[simp] theorem State.setPd_build (d : Nat) (x : Domain) : (s.setPd d x).build = s.build := rfl
@[simp] theorem State.setPd_regs (d : Nat) (x : Domain) : (s.setPd d x).regs = s.regs := rfl
@[simp] theorem State.setPd_mem (d : Nat) (x : Domain) : (s.setPd d x).mem = s.mem := rfl
@[simp] theorem State.setPd_ecc (d : Nat) (x : Domain) : (s.setPd d x).ecc = s.ecc := rfl
@[simp] theorem State.setPd_writeBacks (d : Nat) (x : Domain) : (s.setPd d x).writeBacks = s.writeBacks := rfl
@[simp] theorem State.setPd_dmaLast (d : Nat) (x : Domain) : (s.setPd d x).dmaLast = s.dmaLast := rfl
@[simp] theorem State.setPd_clk (d : Nat) (x : Domain) : (s.setPd d x).clk = s.clk := rfl
@[simp] theorem State.setPd_pds (d : Nat) (x : Domain) : (s.setPd d x).pds = mset s.pds d x := rfl
@[simp] theorem State.setPd_entry (d : Nat) (x : Domain) : (s.setPd d x).entry = s.entry := rfl
@[simp] theorem State.setPd_clears (d : Nat) (x : Domain) : (s.setPd d x).clears = s.clears := rfl
@[simp] theorem State.setPd_opened (d : Nat) (x : Domain) : (s.setPd d x).opened = s.opened := rfl
@[simp] theorem State.setPd_budget (d : Nat) (x : Domain) : (s.setPd d x).budget = s.budget := rfl
@[simp] theorem State.setPd_apWait (d : Nat) (x : Domain) : (s.setPd d x).apWait = s.apWait := rfl
@[simp] theorem State.setPd_apHeld (d : Nat) (x : Domain) : (s.setPd d x).apHeld = s.apHeld := rfl
@[simp] theorem State.setPd_apDrawn (d : Nat) (x : Domain) : (s.setPd d x).apDrawn = s.apDrawn := rfl
@[simp] theorem State.setPd_resp (d : Nat) (x : Domain) : (s.setPd d x).resp = s.resp := rfl
@[simp] theorem State.setPd_ports (d : Nat) (x : Domain) : (s.setPd d x).ports = s.ports := rfl
@[simp] theorem State.setPd_tiles (d : Nat) (x : Domain) : (s.setPd d x).tiles = s.tiles := rfl
@[simp] theorem State.setPd_threads (d : Nat) (x : Domain) : (s.setPd d x).threads = s.threads := rfl
@[simp] theorem State.setPd_chans (d : Nat) (x : Domain) : (s.setPd d x).chans = s.chans := rfl
@[simp] theorem State.setPd_chanSpaces (d : Nat) (x : Domain) : (s.setPd d x).chanSpaces = s.chanSpaces := rfl
@[simp] theorem State.setPd_ctxs (d : Nat) (x : Domain) : (s.setPd d x).ctxs = s.ctxs := rfl
@[simp] theorem State.setPd_gz (d : Nat) (x : Domain) : (s.setPd d x).gz = s.gz := rfl
@[simp] theorem State.setPd_timers (d : Nat) (x : Domain) : (s.setPd d x).timers = s.timers := rfl
@[simp] theorem State.setPd_tbAdj (d : Nat) (x : Domain) : (s.setPd d x).tbAdj = s.tbAdj := rfl
@[simp] theorem State.setPd_conv (d : Nat) (x : Domain) : (s.setPd d x).conv = s.conv := rfl
@[simp] theorem State.setPd_engines (d : Nat) (x : Domain) : (s.setPd d x).engines = s.engines := rfl
@[simp] theorem State.setPd_rings (d : Nat) (x : Domain) : (s.setPd d x).rings = s.rings := rfl
@[simp] theorem State.setPd_cqs (d : Nat) (x : Domain) : (s.setPd d x).cqs = s.cqs := rfl
@[simp] theorem State.setPd_polls (d : Nat) (x : Domain) : (s.setPd d x).polls = s.polls := rfl
@[simp] theorem State.setPd_groups (d : Nat) (x : Domain) : (s.setPd d x).groups = s.groups := rfl
@[simp] theorem State.setPd_own (d : Nat) (x : Domain) : (s.setPd d x).own = s.own := rfl
@[simp] theorem State.setPd_fill (d : Nat) (x : Domain) : (s.setPd d x).fill = s.fill := rfl
@[simp] theorem State.setPd_fDirty (d : Nat) (x : Domain) : (s.setPd d x).fDirty = s.fDirty := rfl
@[simp] theorem State.setPd_qDirty (d : Nat) (x : Domain) : (s.setPd d x).qDirty = s.qDirty := rfl
@[simp] theorem State.setPd_copies (d : Nat) (x : Domain) : (s.setPd d x).copies = s.copies := rfl
@[simp] theorem State.setPd_copyFree (d : Nat) (x : Domain) : (s.setPd d x).copyFree = s.copyFree := rfl
@[simp] theorem State.setPd_edits (d : Nat) (x : Domain) : (s.setPd d x).edits = s.edits := rfl
@[simp] theorem State.setPd_cans (d : Nat) (x : Domain) : (s.setPd d x).cans = s.cans := rfl
@[simp] theorem State.setPd_links (d : Nat) (x : Domain) : (s.setPd d x).links = s.links := rfl
@[simp] theorem State.setPd_fed (d : Nat) (x : Domain) : (s.setPd d x).fed = s.fed := rfl
@[simp] theorem State.setPd_mirror (d : Nat) (x : Domain) : (s.setPd d x).mirror = s.mirror := rfl
@[simp] theorem State.setPd_upd (d : Nat) (x : Domain) : (s.setPd d x).upd = s.upd := rfl
@[simp] theorem State.setPd_tap (d : Nat) (x : Domain) : (s.setPd d x).tap = s.tap := rfl
@[simp] theorem State.setPd_windows (d : Nat) (x : Domain) : (s.setPd d x).windows = s.windows := rfl
@[simp] theorem State.setPd_pausedWin (d : Nat) (x : Domain) : (s.setPd d x).pausedWin = s.pausedWin := rfl
@[simp] theorem State.setPd_fioIn (d : Nat) (x : Domain) : (s.setPd d x).fioIn = s.fioIn := rfl
@[simp] theorem State.setPd_finPin (d : Nat) (x : Domain) : (s.setPd d x).finPin = s.finPin := rfl
@[simp] theorem State.setPd_faultIn (d : Nat) (x : Domain) : (s.setPd d x).faultIn = s.faultIn := rfl
@[simp] theorem State.setPd_faultSeq (d : Nat) (x : Domain) : (s.setPd d x).faultSeq = s.faultSeq := rfl
@[simp] theorem State.setPd_faultOut (d : Nat) (x : Domain) : (s.setPd d x).faultOut = s.faultOut := rfl
@[simp] theorem State.setPd_faultHeld (d : Nat) (x : Domain) : (s.setPd d x).faultHeld = s.faultHeld := rfl
@[simp] theorem State.setPd_wakes (d : Nat) (x : Domain) : (s.setPd d x).wakes = s.wakes := rfl
@[simp] theorem State.setPd_pending (d : Nat) (x : Domain) : (s.setPd d x).pending = s.pending := rfl
@[simp] theorem State.setPd_freeCtr (d : Nat) (x : Domain) : (s.setPd d x).freeCtr = s.freeCtr := rfl

/-! ### setPort -/

@[simp] theorem State.setPort_build (p : Nat) (x : PortM) : (s.setPort p x).build = s.build := rfl
@[simp] theorem State.setPort_regs (p : Nat) (x : PortM) : (s.setPort p x).regs = s.regs := rfl
@[simp] theorem State.setPort_mem (p : Nat) (x : PortM) : (s.setPort p x).mem = s.mem := rfl
@[simp] theorem State.setPort_ecc (p : Nat) (x : PortM) : (s.setPort p x).ecc = s.ecc := rfl
@[simp] theorem State.setPort_writeBacks (p : Nat) (x : PortM) : (s.setPort p x).writeBacks = s.writeBacks := rfl
@[simp] theorem State.setPort_dmaLast (p : Nat) (x : PortM) : (s.setPort p x).dmaLast = s.dmaLast := rfl
@[simp] theorem State.setPort_clk (p : Nat) (x : PortM) : (s.setPort p x).clk = s.clk := rfl
@[simp] theorem State.setPort_pds (p : Nat) (x : PortM) : (s.setPort p x).pds = s.pds := rfl
@[simp] theorem State.setPort_entry (p : Nat) (x : PortM) : (s.setPort p x).entry = s.entry := rfl
@[simp] theorem State.setPort_clears (p : Nat) (x : PortM) : (s.setPort p x).clears = s.clears := rfl
@[simp] theorem State.setPort_opened (p : Nat) (x : PortM) : (s.setPort p x).opened = s.opened := rfl
@[simp] theorem State.setPort_budget (p : Nat) (x : PortM) : (s.setPort p x).budget = s.budget := rfl
@[simp] theorem State.setPort_apWait (p : Nat) (x : PortM) : (s.setPort p x).apWait = s.apWait := rfl
@[simp] theorem State.setPort_apHeld (p : Nat) (x : PortM) : (s.setPort p x).apHeld = s.apHeld := rfl
@[simp] theorem State.setPort_apDrawn (p : Nat) (x : PortM) : (s.setPort p x).apDrawn = s.apDrawn := rfl
@[simp] theorem State.setPort_resp (p : Nat) (x : PortM) : (s.setPort p x).resp = s.resp := rfl
@[simp] theorem State.setPort_ports (p : Nat) (x : PortM) : (s.setPort p x).ports = mset s.ports p x := rfl
@[simp] theorem State.setPort_tiles (p : Nat) (x : PortM) : (s.setPort p x).tiles = s.tiles := rfl
@[simp] theorem State.setPort_threads (p : Nat) (x : PortM) : (s.setPort p x).threads = s.threads := rfl
@[simp] theorem State.setPort_chans (p : Nat) (x : PortM) : (s.setPort p x).chans = s.chans := rfl
@[simp] theorem State.setPort_chanSpaces (p : Nat) (x : PortM) : (s.setPort p x).chanSpaces = s.chanSpaces := rfl
@[simp] theorem State.setPort_ctxs (p : Nat) (x : PortM) : (s.setPort p x).ctxs = s.ctxs := rfl
@[simp] theorem State.setPort_gz (p : Nat) (x : PortM) : (s.setPort p x).gz = s.gz := rfl
@[simp] theorem State.setPort_timers (p : Nat) (x : PortM) : (s.setPort p x).timers = s.timers := rfl
@[simp] theorem State.setPort_tbAdj (p : Nat) (x : PortM) : (s.setPort p x).tbAdj = s.tbAdj := rfl
@[simp] theorem State.setPort_conv (p : Nat) (x : PortM) : (s.setPort p x).conv = s.conv := rfl
@[simp] theorem State.setPort_engines (p : Nat) (x : PortM) : (s.setPort p x).engines = s.engines := rfl
@[simp] theorem State.setPort_rings (p : Nat) (x : PortM) : (s.setPort p x).rings = s.rings := rfl
@[simp] theorem State.setPort_cqs (p : Nat) (x : PortM) : (s.setPort p x).cqs = s.cqs := rfl
@[simp] theorem State.setPort_polls (p : Nat) (x : PortM) : (s.setPort p x).polls = s.polls := rfl
@[simp] theorem State.setPort_groups (p : Nat) (x : PortM) : (s.setPort p x).groups = s.groups := rfl
@[simp] theorem State.setPort_own (p : Nat) (x : PortM) : (s.setPort p x).own = s.own := rfl
@[simp] theorem State.setPort_fill (p : Nat) (x : PortM) : (s.setPort p x).fill = s.fill := rfl
@[simp] theorem State.setPort_fDirty (p : Nat) (x : PortM) : (s.setPort p x).fDirty = s.fDirty := rfl
@[simp] theorem State.setPort_qDirty (p : Nat) (x : PortM) : (s.setPort p x).qDirty = s.qDirty := rfl
@[simp] theorem State.setPort_copies (p : Nat) (x : PortM) : (s.setPort p x).copies = s.copies := rfl
@[simp] theorem State.setPort_copyFree (p : Nat) (x : PortM) : (s.setPort p x).copyFree = s.copyFree := rfl
@[simp] theorem State.setPort_edits (p : Nat) (x : PortM) : (s.setPort p x).edits = s.edits := rfl
@[simp] theorem State.setPort_cans (p : Nat) (x : PortM) : (s.setPort p x).cans = s.cans := rfl
@[simp] theorem State.setPort_links (p : Nat) (x : PortM) : (s.setPort p x).links = s.links := rfl
@[simp] theorem State.setPort_fed (p : Nat) (x : PortM) : (s.setPort p x).fed = s.fed := rfl
@[simp] theorem State.setPort_mirror (p : Nat) (x : PortM) : (s.setPort p x).mirror = s.mirror := rfl
@[simp] theorem State.setPort_upd (p : Nat) (x : PortM) : (s.setPort p x).upd = s.upd := rfl
@[simp] theorem State.setPort_tap (p : Nat) (x : PortM) : (s.setPort p x).tap = s.tap := rfl
@[simp] theorem State.setPort_windows (p : Nat) (x : PortM) : (s.setPort p x).windows = s.windows := rfl
@[simp] theorem State.setPort_pausedWin (p : Nat) (x : PortM) : (s.setPort p x).pausedWin = s.pausedWin := rfl
@[simp] theorem State.setPort_fioIn (p : Nat) (x : PortM) : (s.setPort p x).fioIn = s.fioIn := rfl
@[simp] theorem State.setPort_finPin (p : Nat) (x : PortM) : (s.setPort p x).finPin = s.finPin := rfl
@[simp] theorem State.setPort_faultIn (p : Nat) (x : PortM) : (s.setPort p x).faultIn = s.faultIn := rfl
@[simp] theorem State.setPort_faultSeq (p : Nat) (x : PortM) : (s.setPort p x).faultSeq = s.faultSeq := rfl
@[simp] theorem State.setPort_faultOut (p : Nat) (x : PortM) : (s.setPort p x).faultOut = s.faultOut := rfl
@[simp] theorem State.setPort_faultHeld (p : Nat) (x : PortM) : (s.setPort p x).faultHeld = s.faultHeld := rfl
@[simp] theorem State.setPort_wakes (p : Nat) (x : PortM) : (s.setPort p x).wakes = s.wakes := rfl
@[simp] theorem State.setPort_pending (p : Nat) (x : PortM) : (s.setPort p x).pending = s.pending := rfl
@[simp] theorem State.setPort_freeCtr (p : Nat) (x : PortM) : (s.setPort p x).freeCtr = s.freeCtr := rfl

/-! ### setTile -/

@[simp] theorem State.setTile_build (t : Nat) (x : Tile) : (s.setTile t x).build = s.build := rfl
@[simp] theorem State.setTile_regs (t : Nat) (x : Tile) : (s.setTile t x).regs = s.regs := rfl
@[simp] theorem State.setTile_mem (t : Nat) (x : Tile) : (s.setTile t x).mem = s.mem := rfl
@[simp] theorem State.setTile_ecc (t : Nat) (x : Tile) : (s.setTile t x).ecc = s.ecc := rfl
@[simp] theorem State.setTile_writeBacks (t : Nat) (x : Tile) : (s.setTile t x).writeBacks = s.writeBacks := rfl
@[simp] theorem State.setTile_dmaLast (t : Nat) (x : Tile) : (s.setTile t x).dmaLast = s.dmaLast := rfl
@[simp] theorem State.setTile_clk (t : Nat) (x : Tile) : (s.setTile t x).clk = s.clk := rfl
@[simp] theorem State.setTile_pds (t : Nat) (x : Tile) : (s.setTile t x).pds = s.pds := rfl
@[simp] theorem State.setTile_entry (t : Nat) (x : Tile) : (s.setTile t x).entry = s.entry := rfl
@[simp] theorem State.setTile_clears (t : Nat) (x : Tile) : (s.setTile t x).clears = s.clears := rfl
@[simp] theorem State.setTile_opened (t : Nat) (x : Tile) : (s.setTile t x).opened = s.opened := rfl
@[simp] theorem State.setTile_budget (t : Nat) (x : Tile) : (s.setTile t x).budget = s.budget := rfl
@[simp] theorem State.setTile_apWait (t : Nat) (x : Tile) : (s.setTile t x).apWait = s.apWait := rfl
@[simp] theorem State.setTile_apHeld (t : Nat) (x : Tile) : (s.setTile t x).apHeld = s.apHeld := rfl
@[simp] theorem State.setTile_apDrawn (t : Nat) (x : Tile) : (s.setTile t x).apDrawn = s.apDrawn := rfl
@[simp] theorem State.setTile_resp (t : Nat) (x : Tile) : (s.setTile t x).resp = s.resp := rfl
@[simp] theorem State.setTile_ports (t : Nat) (x : Tile) : (s.setTile t x).ports = s.ports := rfl
@[simp] theorem State.setTile_tiles (t : Nat) (x : Tile) : (s.setTile t x).tiles = mset s.tiles t x := rfl
@[simp] theorem State.setTile_threads (t : Nat) (x : Tile) : (s.setTile t x).threads = s.threads := rfl
@[simp] theorem State.setTile_chans (t : Nat) (x : Tile) : (s.setTile t x).chans = s.chans := rfl
@[simp] theorem State.setTile_chanSpaces (t : Nat) (x : Tile) : (s.setTile t x).chanSpaces = s.chanSpaces := rfl
@[simp] theorem State.setTile_ctxs (t : Nat) (x : Tile) : (s.setTile t x).ctxs = s.ctxs := rfl
@[simp] theorem State.setTile_gz (t : Nat) (x : Tile) : (s.setTile t x).gz = s.gz := rfl
@[simp] theorem State.setTile_timers (t : Nat) (x : Tile) : (s.setTile t x).timers = s.timers := rfl
@[simp] theorem State.setTile_tbAdj (t : Nat) (x : Tile) : (s.setTile t x).tbAdj = s.tbAdj := rfl
@[simp] theorem State.setTile_conv (t : Nat) (x : Tile) : (s.setTile t x).conv = s.conv := rfl
@[simp] theorem State.setTile_engines (t : Nat) (x : Tile) : (s.setTile t x).engines = s.engines := rfl
@[simp] theorem State.setTile_rings (t : Nat) (x : Tile) : (s.setTile t x).rings = s.rings := rfl
@[simp] theorem State.setTile_cqs (t : Nat) (x : Tile) : (s.setTile t x).cqs = s.cqs := rfl
@[simp] theorem State.setTile_polls (t : Nat) (x : Tile) : (s.setTile t x).polls = s.polls := rfl
@[simp] theorem State.setTile_groups (t : Nat) (x : Tile) : (s.setTile t x).groups = s.groups := rfl
@[simp] theorem State.setTile_own (t : Nat) (x : Tile) : (s.setTile t x).own = s.own := rfl
@[simp] theorem State.setTile_fill (t : Nat) (x : Tile) : (s.setTile t x).fill = s.fill := rfl
@[simp] theorem State.setTile_fDirty (t : Nat) (x : Tile) : (s.setTile t x).fDirty = s.fDirty := rfl
@[simp] theorem State.setTile_qDirty (t : Nat) (x : Tile) : (s.setTile t x).qDirty = s.qDirty := rfl
@[simp] theorem State.setTile_copies (t : Nat) (x : Tile) : (s.setTile t x).copies = s.copies := rfl
@[simp] theorem State.setTile_copyFree (t : Nat) (x : Tile) : (s.setTile t x).copyFree = s.copyFree := rfl
@[simp] theorem State.setTile_edits (t : Nat) (x : Tile) : (s.setTile t x).edits = s.edits := rfl
@[simp] theorem State.setTile_cans (t : Nat) (x : Tile) : (s.setTile t x).cans = s.cans := rfl
@[simp] theorem State.setTile_links (t : Nat) (x : Tile) : (s.setTile t x).links = s.links := rfl
@[simp] theorem State.setTile_fed (t : Nat) (x : Tile) : (s.setTile t x).fed = s.fed := rfl
@[simp] theorem State.setTile_mirror (t : Nat) (x : Tile) : (s.setTile t x).mirror = s.mirror := rfl
@[simp] theorem State.setTile_upd (t : Nat) (x : Tile) : (s.setTile t x).upd = s.upd := rfl
@[simp] theorem State.setTile_tap (t : Nat) (x : Tile) : (s.setTile t x).tap = s.tap := rfl
@[simp] theorem State.setTile_windows (t : Nat) (x : Tile) : (s.setTile t x).windows = s.windows := rfl
@[simp] theorem State.setTile_pausedWin (t : Nat) (x : Tile) : (s.setTile t x).pausedWin = s.pausedWin := rfl
@[simp] theorem State.setTile_fioIn (t : Nat) (x : Tile) : (s.setTile t x).fioIn = s.fioIn := rfl
@[simp] theorem State.setTile_finPin (t : Nat) (x : Tile) : (s.setTile t x).finPin = s.finPin := rfl
@[simp] theorem State.setTile_faultIn (t : Nat) (x : Tile) : (s.setTile t x).faultIn = s.faultIn := rfl
@[simp] theorem State.setTile_faultSeq (t : Nat) (x : Tile) : (s.setTile t x).faultSeq = s.faultSeq := rfl
@[simp] theorem State.setTile_faultOut (t : Nat) (x : Tile) : (s.setTile t x).faultOut = s.faultOut := rfl
@[simp] theorem State.setTile_faultHeld (t : Nat) (x : Tile) : (s.setTile t x).faultHeld = s.faultHeld := rfl
@[simp] theorem State.setTile_wakes (t : Nat) (x : Tile) : (s.setTile t x).wakes = s.wakes := rfl
@[simp] theorem State.setTile_pending (t : Nat) (x : Tile) : (s.setTile t x).pending = s.pending := rfl
@[simp] theorem State.setTile_freeCtr (t : Nat) (x : Tile) : (s.setTile t x).freeCtr = s.freeCtr := rfl

/-! ### setThread -/

@[simp] theorem State.setThread_build (t n : Nat) (x : Thread) : (s.setThread t n x).build = s.build := rfl
@[simp] theorem State.setThread_regs (t n : Nat) (x : Thread) : (s.setThread t n x).regs = s.regs := rfl
@[simp] theorem State.setThread_mem (t n : Nat) (x : Thread) : (s.setThread t n x).mem = s.mem := rfl
@[simp] theorem State.setThread_ecc (t n : Nat) (x : Thread) : (s.setThread t n x).ecc = s.ecc := rfl
@[simp] theorem State.setThread_writeBacks (t n : Nat) (x : Thread) : (s.setThread t n x).writeBacks = s.writeBacks := rfl
@[simp] theorem State.setThread_dmaLast (t n : Nat) (x : Thread) : (s.setThread t n x).dmaLast = s.dmaLast := rfl
@[simp] theorem State.setThread_clk (t n : Nat) (x : Thread) : (s.setThread t n x).clk = s.clk := rfl
@[simp] theorem State.setThread_pds (t n : Nat) (x : Thread) : (s.setThread t n x).pds = s.pds := rfl
@[simp] theorem State.setThread_entry (t n : Nat) (x : Thread) : (s.setThread t n x).entry = s.entry := rfl
@[simp] theorem State.setThread_clears (t n : Nat) (x : Thread) : (s.setThread t n x).clears = s.clears := rfl
@[simp] theorem State.setThread_opened (t n : Nat) (x : Thread) : (s.setThread t n x).opened = s.opened := rfl
@[simp] theorem State.setThread_budget (t n : Nat) (x : Thread) : (s.setThread t n x).budget = s.budget := rfl
@[simp] theorem State.setThread_apWait (t n : Nat) (x : Thread) : (s.setThread t n x).apWait = s.apWait := rfl
@[simp] theorem State.setThread_apHeld (t n : Nat) (x : Thread) : (s.setThread t n x).apHeld = s.apHeld := rfl
@[simp] theorem State.setThread_apDrawn (t n : Nat) (x : Thread) : (s.setThread t n x).apDrawn = s.apDrawn := rfl
@[simp] theorem State.setThread_resp (t n : Nat) (x : Thread) : (s.setThread t n x).resp = s.resp := rfl
@[simp] theorem State.setThread_ports (t n : Nat) (x : Thread) : (s.setThread t n x).ports = s.ports := rfl
@[simp] theorem State.setThread_tiles (t n : Nat) (x : Thread) : (s.setThread t n x).tiles = s.tiles := rfl
@[simp] theorem State.setThread_threads (t n : Nat) (x : Thread) : (s.setThread t n x).threads = mset s.threads (t, n) x := rfl
@[simp] theorem State.setThread_chans (t n : Nat) (x : Thread) : (s.setThread t n x).chans = s.chans := rfl
@[simp] theorem State.setThread_chanSpaces (t n : Nat) (x : Thread) : (s.setThread t n x).chanSpaces = s.chanSpaces := rfl
@[simp] theorem State.setThread_ctxs (t n : Nat) (x : Thread) : (s.setThread t n x).ctxs = s.ctxs := rfl
@[simp] theorem State.setThread_gz (t n : Nat) (x : Thread) : (s.setThread t n x).gz = s.gz := rfl
@[simp] theorem State.setThread_timers (t n : Nat) (x : Thread) : (s.setThread t n x).timers = s.timers := rfl
@[simp] theorem State.setThread_tbAdj (t n : Nat) (x : Thread) : (s.setThread t n x).tbAdj = s.tbAdj := rfl
@[simp] theorem State.setThread_conv (t n : Nat) (x : Thread) : (s.setThread t n x).conv = s.conv := rfl
@[simp] theorem State.setThread_engines (t n : Nat) (x : Thread) : (s.setThread t n x).engines = s.engines := rfl
@[simp] theorem State.setThread_rings (t n : Nat) (x : Thread) : (s.setThread t n x).rings = s.rings := rfl
@[simp] theorem State.setThread_cqs (t n : Nat) (x : Thread) : (s.setThread t n x).cqs = s.cqs := rfl
@[simp] theorem State.setThread_polls (t n : Nat) (x : Thread) : (s.setThread t n x).polls = s.polls := rfl
@[simp] theorem State.setThread_groups (t n : Nat) (x : Thread) : (s.setThread t n x).groups = s.groups := rfl
@[simp] theorem State.setThread_own (t n : Nat) (x : Thread) : (s.setThread t n x).own = s.own := rfl
@[simp] theorem State.setThread_fill (t n : Nat) (x : Thread) : (s.setThread t n x).fill = s.fill := rfl
@[simp] theorem State.setThread_fDirty (t n : Nat) (x : Thread) : (s.setThread t n x).fDirty = s.fDirty := rfl
@[simp] theorem State.setThread_qDirty (t n : Nat) (x : Thread) : (s.setThread t n x).qDirty = s.qDirty := rfl
@[simp] theorem State.setThread_copies (t n : Nat) (x : Thread) : (s.setThread t n x).copies = s.copies := rfl
@[simp] theorem State.setThread_copyFree (t n : Nat) (x : Thread) : (s.setThread t n x).copyFree = s.copyFree := rfl
@[simp] theorem State.setThread_edits (t n : Nat) (x : Thread) : (s.setThread t n x).edits = s.edits := rfl
@[simp] theorem State.setThread_cans (t n : Nat) (x : Thread) : (s.setThread t n x).cans = s.cans := rfl
@[simp] theorem State.setThread_links (t n : Nat) (x : Thread) : (s.setThread t n x).links = s.links := rfl
@[simp] theorem State.setThread_fed (t n : Nat) (x : Thread) : (s.setThread t n x).fed = s.fed := rfl
@[simp] theorem State.setThread_mirror (t n : Nat) (x : Thread) : (s.setThread t n x).mirror = s.mirror := rfl
@[simp] theorem State.setThread_upd (t n : Nat) (x : Thread) : (s.setThread t n x).upd = s.upd := rfl
@[simp] theorem State.setThread_tap (t n : Nat) (x : Thread) : (s.setThread t n x).tap = s.tap := rfl
@[simp] theorem State.setThread_windows (t n : Nat) (x : Thread) : (s.setThread t n x).windows = s.windows := rfl
@[simp] theorem State.setThread_pausedWin (t n : Nat) (x : Thread) : (s.setThread t n x).pausedWin = s.pausedWin := rfl
@[simp] theorem State.setThread_fioIn (t n : Nat) (x : Thread) : (s.setThread t n x).fioIn = s.fioIn := rfl
@[simp] theorem State.setThread_finPin (t n : Nat) (x : Thread) : (s.setThread t n x).finPin = s.finPin := rfl
@[simp] theorem State.setThread_faultIn (t n : Nat) (x : Thread) : (s.setThread t n x).faultIn = s.faultIn := rfl
@[simp] theorem State.setThread_faultSeq (t n : Nat) (x : Thread) : (s.setThread t n x).faultSeq = s.faultSeq := rfl
@[simp] theorem State.setThread_faultOut (t n : Nat) (x : Thread) : (s.setThread t n x).faultOut = s.faultOut := rfl
@[simp] theorem State.setThread_faultHeld (t n : Nat) (x : Thread) : (s.setThread t n x).faultHeld = s.faultHeld := rfl
@[simp] theorem State.setThread_wakes (t n : Nat) (x : Thread) : (s.setThread t n x).wakes = s.wakes := rfl
@[simp] theorem State.setThread_pending (t n : Nat) (x : Thread) : (s.setThread t n x).pending = s.pending := rfl
@[simp] theorem State.setThread_freeCtr (t n : Nat) (x : Thread) : (s.setThread t n x).freeCtr = s.freeCtr := rfl

/-! ### setChan -/

@[simp] theorem State.setChan_build (c : ChanId) (x : Chan) : (s.setChan c x).build = s.build := rfl
@[simp] theorem State.setChan_regs (c : ChanId) (x : Chan) : (s.setChan c x).regs = s.regs := rfl
@[simp] theorem State.setChan_mem (c : ChanId) (x : Chan) : (s.setChan c x).mem = s.mem := rfl
@[simp] theorem State.setChan_ecc (c : ChanId) (x : Chan) : (s.setChan c x).ecc = s.ecc := rfl
@[simp] theorem State.setChan_writeBacks (c : ChanId) (x : Chan) : (s.setChan c x).writeBacks = s.writeBacks := rfl
@[simp] theorem State.setChan_dmaLast (c : ChanId) (x : Chan) : (s.setChan c x).dmaLast = s.dmaLast := rfl
@[simp] theorem State.setChan_clk (c : ChanId) (x : Chan) : (s.setChan c x).clk = s.clk := rfl
@[simp] theorem State.setChan_pds (c : ChanId) (x : Chan) : (s.setChan c x).pds = s.pds := rfl
@[simp] theorem State.setChan_entry (c : ChanId) (x : Chan) : (s.setChan c x).entry = s.entry := rfl
@[simp] theorem State.setChan_clears (c : ChanId) (x : Chan) : (s.setChan c x).clears = s.clears := rfl
@[simp] theorem State.setChan_opened (c : ChanId) (x : Chan) : (s.setChan c x).opened = s.opened := rfl
@[simp] theorem State.setChan_budget (c : ChanId) (x : Chan) : (s.setChan c x).budget = s.budget := rfl
@[simp] theorem State.setChan_apWait (c : ChanId) (x : Chan) : (s.setChan c x).apWait = s.apWait := rfl
@[simp] theorem State.setChan_apHeld (c : ChanId) (x : Chan) : (s.setChan c x).apHeld = s.apHeld := rfl
@[simp] theorem State.setChan_apDrawn (c : ChanId) (x : Chan) : (s.setChan c x).apDrawn = s.apDrawn := rfl
@[simp] theorem State.setChan_resp (c : ChanId) (x : Chan) : (s.setChan c x).resp = s.resp := rfl
@[simp] theorem State.setChan_ports (c : ChanId) (x : Chan) : (s.setChan c x).ports = s.ports := rfl
@[simp] theorem State.setChan_tiles (c : ChanId) (x : Chan) : (s.setChan c x).tiles = s.tiles := rfl
@[simp] theorem State.setChan_threads (c : ChanId) (x : Chan) : (s.setChan c x).threads = s.threads := rfl
@[simp] theorem State.setChan_chans (c : ChanId) (x : Chan) : (s.setChan c x).chans = mset s.chans c x := rfl
@[simp] theorem State.setChan_chanSpaces (c : ChanId) (x : Chan) : (s.setChan c x).chanSpaces = s.chanSpaces := rfl
@[simp] theorem State.setChan_ctxs (c : ChanId) (x : Chan) : (s.setChan c x).ctxs = s.ctxs := rfl
@[simp] theorem State.setChan_gz (c : ChanId) (x : Chan) : (s.setChan c x).gz = s.gz := rfl
@[simp] theorem State.setChan_timers (c : ChanId) (x : Chan) : (s.setChan c x).timers = s.timers := rfl
@[simp] theorem State.setChan_tbAdj (c : ChanId) (x : Chan) : (s.setChan c x).tbAdj = s.tbAdj := rfl
@[simp] theorem State.setChan_conv (c : ChanId) (x : Chan) : (s.setChan c x).conv = s.conv := rfl
@[simp] theorem State.setChan_engines (c : ChanId) (x : Chan) : (s.setChan c x).engines = s.engines := rfl
@[simp] theorem State.setChan_rings (c : ChanId) (x : Chan) : (s.setChan c x).rings = s.rings := rfl
@[simp] theorem State.setChan_cqs (c : ChanId) (x : Chan) : (s.setChan c x).cqs = s.cqs := rfl
@[simp] theorem State.setChan_polls (c : ChanId) (x : Chan) : (s.setChan c x).polls = s.polls := rfl
@[simp] theorem State.setChan_groups (c : ChanId) (x : Chan) : (s.setChan c x).groups = s.groups := rfl
@[simp] theorem State.setChan_own (c : ChanId) (x : Chan) : (s.setChan c x).own = s.own := rfl
@[simp] theorem State.setChan_fill (c : ChanId) (x : Chan) : (s.setChan c x).fill = s.fill := rfl
@[simp] theorem State.setChan_fDirty (c : ChanId) (x : Chan) : (s.setChan c x).fDirty = s.fDirty := rfl
@[simp] theorem State.setChan_qDirty (c : ChanId) (x : Chan) : (s.setChan c x).qDirty = s.qDirty := rfl
@[simp] theorem State.setChan_copies (c : ChanId) (x : Chan) : (s.setChan c x).copies = s.copies := rfl
@[simp] theorem State.setChan_copyFree (c : ChanId) (x : Chan) : (s.setChan c x).copyFree = s.copyFree := rfl
@[simp] theorem State.setChan_edits (c : ChanId) (x : Chan) : (s.setChan c x).edits = s.edits := rfl
@[simp] theorem State.setChan_cans (c : ChanId) (x : Chan) : (s.setChan c x).cans = s.cans := rfl
@[simp] theorem State.setChan_links (c : ChanId) (x : Chan) : (s.setChan c x).links = s.links := rfl
@[simp] theorem State.setChan_fed (c : ChanId) (x : Chan) : (s.setChan c x).fed = s.fed := rfl
@[simp] theorem State.setChan_mirror (c : ChanId) (x : Chan) : (s.setChan c x).mirror = s.mirror := rfl
@[simp] theorem State.setChan_upd (c : ChanId) (x : Chan) : (s.setChan c x).upd = s.upd := rfl
@[simp] theorem State.setChan_tap (c : ChanId) (x : Chan) : (s.setChan c x).tap = s.tap := rfl
@[simp] theorem State.setChan_windows (c : ChanId) (x : Chan) : (s.setChan c x).windows = s.windows := rfl
@[simp] theorem State.setChan_pausedWin (c : ChanId) (x : Chan) : (s.setChan c x).pausedWin = s.pausedWin := rfl
@[simp] theorem State.setChan_fioIn (c : ChanId) (x : Chan) : (s.setChan c x).fioIn = s.fioIn := rfl
@[simp] theorem State.setChan_finPin (c : ChanId) (x : Chan) : (s.setChan c x).finPin = s.finPin := rfl
@[simp] theorem State.setChan_faultIn (c : ChanId) (x : Chan) : (s.setChan c x).faultIn = s.faultIn := rfl
@[simp] theorem State.setChan_faultSeq (c : ChanId) (x : Chan) : (s.setChan c x).faultSeq = s.faultSeq := rfl
@[simp] theorem State.setChan_faultOut (c : ChanId) (x : Chan) : (s.setChan c x).faultOut = s.faultOut := rfl
@[simp] theorem State.setChan_faultHeld (c : ChanId) (x : Chan) : (s.setChan c x).faultHeld = s.faultHeld := rfl
@[simp] theorem State.setChan_wakes (c : ChanId) (x : Chan) : (s.setChan c x).wakes = s.wakes := rfl
@[simp] theorem State.setChan_pending (c : ChanId) (x : Chan) : (s.setChan c x).pending = s.pending := rfl
@[simp] theorem State.setChan_freeCtr (c : ChanId) (x : Chan) : (s.setChan c x).freeCtr = s.freeCtr := rfl

/-! ### setTimer -/

@[simp] theorem State.setTimer_build (n : Nat) (x : Timer) : (s.setTimer n x).build = s.build := rfl
@[simp] theorem State.setTimer_regs (n : Nat) (x : Timer) : (s.setTimer n x).regs = s.regs := rfl
@[simp] theorem State.setTimer_mem (n : Nat) (x : Timer) : (s.setTimer n x).mem = s.mem := rfl
@[simp] theorem State.setTimer_ecc (n : Nat) (x : Timer) : (s.setTimer n x).ecc = s.ecc := rfl
@[simp] theorem State.setTimer_writeBacks (n : Nat) (x : Timer) : (s.setTimer n x).writeBacks = s.writeBacks := rfl
@[simp] theorem State.setTimer_dmaLast (n : Nat) (x : Timer) : (s.setTimer n x).dmaLast = s.dmaLast := rfl
@[simp] theorem State.setTimer_clk (n : Nat) (x : Timer) : (s.setTimer n x).clk = s.clk := rfl
@[simp] theorem State.setTimer_pds (n : Nat) (x : Timer) : (s.setTimer n x).pds = s.pds := rfl
@[simp] theorem State.setTimer_entry (n : Nat) (x : Timer) : (s.setTimer n x).entry = s.entry := rfl
@[simp] theorem State.setTimer_clears (n : Nat) (x : Timer) : (s.setTimer n x).clears = s.clears := rfl
@[simp] theorem State.setTimer_opened (n : Nat) (x : Timer) : (s.setTimer n x).opened = s.opened := rfl
@[simp] theorem State.setTimer_budget (n : Nat) (x : Timer) : (s.setTimer n x).budget = s.budget := rfl
@[simp] theorem State.setTimer_apWait (n : Nat) (x : Timer) : (s.setTimer n x).apWait = s.apWait := rfl
@[simp] theorem State.setTimer_apHeld (n : Nat) (x : Timer) : (s.setTimer n x).apHeld = s.apHeld := rfl
@[simp] theorem State.setTimer_apDrawn (n : Nat) (x : Timer) : (s.setTimer n x).apDrawn = s.apDrawn := rfl
@[simp] theorem State.setTimer_resp (n : Nat) (x : Timer) : (s.setTimer n x).resp = s.resp := rfl
@[simp] theorem State.setTimer_ports (n : Nat) (x : Timer) : (s.setTimer n x).ports = s.ports := rfl
@[simp] theorem State.setTimer_tiles (n : Nat) (x : Timer) : (s.setTimer n x).tiles = s.tiles := rfl
@[simp] theorem State.setTimer_threads (n : Nat) (x : Timer) : (s.setTimer n x).threads = s.threads := rfl
@[simp] theorem State.setTimer_chans (n : Nat) (x : Timer) : (s.setTimer n x).chans = s.chans := rfl
@[simp] theorem State.setTimer_chanSpaces (n : Nat) (x : Timer) : (s.setTimer n x).chanSpaces = s.chanSpaces := rfl
@[simp] theorem State.setTimer_ctxs (n : Nat) (x : Timer) : (s.setTimer n x).ctxs = s.ctxs := rfl
@[simp] theorem State.setTimer_gz (n : Nat) (x : Timer) : (s.setTimer n x).gz = s.gz := rfl
@[simp] theorem State.setTimer_timers (n : Nat) (x : Timer) : (s.setTimer n x).timers = mset s.timers n x := rfl
@[simp] theorem State.setTimer_tbAdj (n : Nat) (x : Timer) : (s.setTimer n x).tbAdj = s.tbAdj := rfl
@[simp] theorem State.setTimer_conv (n : Nat) (x : Timer) : (s.setTimer n x).conv = s.conv := rfl
@[simp] theorem State.setTimer_engines (n : Nat) (x : Timer) : (s.setTimer n x).engines = s.engines := rfl
@[simp] theorem State.setTimer_rings (n : Nat) (x : Timer) : (s.setTimer n x).rings = s.rings := rfl
@[simp] theorem State.setTimer_cqs (n : Nat) (x : Timer) : (s.setTimer n x).cqs = s.cqs := rfl
@[simp] theorem State.setTimer_polls (n : Nat) (x : Timer) : (s.setTimer n x).polls = s.polls := rfl
@[simp] theorem State.setTimer_groups (n : Nat) (x : Timer) : (s.setTimer n x).groups = s.groups := rfl
@[simp] theorem State.setTimer_own (n : Nat) (x : Timer) : (s.setTimer n x).own = s.own := rfl
@[simp] theorem State.setTimer_fill (n : Nat) (x : Timer) : (s.setTimer n x).fill = s.fill := rfl
@[simp] theorem State.setTimer_fDirty (n : Nat) (x : Timer) : (s.setTimer n x).fDirty = s.fDirty := rfl
@[simp] theorem State.setTimer_qDirty (n : Nat) (x : Timer) : (s.setTimer n x).qDirty = s.qDirty := rfl
@[simp] theorem State.setTimer_copies (n : Nat) (x : Timer) : (s.setTimer n x).copies = s.copies := rfl
@[simp] theorem State.setTimer_copyFree (n : Nat) (x : Timer) : (s.setTimer n x).copyFree = s.copyFree := rfl
@[simp] theorem State.setTimer_edits (n : Nat) (x : Timer) : (s.setTimer n x).edits = s.edits := rfl
@[simp] theorem State.setTimer_cans (n : Nat) (x : Timer) : (s.setTimer n x).cans = s.cans := rfl
@[simp] theorem State.setTimer_links (n : Nat) (x : Timer) : (s.setTimer n x).links = s.links := rfl
@[simp] theorem State.setTimer_fed (n : Nat) (x : Timer) : (s.setTimer n x).fed = s.fed := rfl
@[simp] theorem State.setTimer_mirror (n : Nat) (x : Timer) : (s.setTimer n x).mirror = s.mirror := rfl
@[simp] theorem State.setTimer_upd (n : Nat) (x : Timer) : (s.setTimer n x).upd = s.upd := rfl
@[simp] theorem State.setTimer_tap (n : Nat) (x : Timer) : (s.setTimer n x).tap = s.tap := rfl
@[simp] theorem State.setTimer_windows (n : Nat) (x : Timer) : (s.setTimer n x).windows = s.windows := rfl
@[simp] theorem State.setTimer_pausedWin (n : Nat) (x : Timer) : (s.setTimer n x).pausedWin = s.pausedWin := rfl
@[simp] theorem State.setTimer_fioIn (n : Nat) (x : Timer) : (s.setTimer n x).fioIn = s.fioIn := rfl
@[simp] theorem State.setTimer_finPin (n : Nat) (x : Timer) : (s.setTimer n x).finPin = s.finPin := rfl
@[simp] theorem State.setTimer_faultIn (n : Nat) (x : Timer) : (s.setTimer n x).faultIn = s.faultIn := rfl
@[simp] theorem State.setTimer_faultSeq (n : Nat) (x : Timer) : (s.setTimer n x).faultSeq = s.faultSeq := rfl
@[simp] theorem State.setTimer_faultOut (n : Nat) (x : Timer) : (s.setTimer n x).faultOut = s.faultOut := rfl
@[simp] theorem State.setTimer_faultHeld (n : Nat) (x : Timer) : (s.setTimer n x).faultHeld = s.faultHeld := rfl
@[simp] theorem State.setTimer_wakes (n : Nat) (x : Timer) : (s.setTimer n x).wakes = s.wakes := rfl
@[simp] theorem State.setTimer_pending (n : Nat) (x : Timer) : (s.setTimer n x).pending = s.pending := rfl
@[simp] theorem State.setTimer_freeCtr (n : Nat) (x : Timer) : (s.setTimer n x).freeCtr = s.freeCtr := rfl

/-! ### setEngine -/

@[simp] theorem State.setEngine_build (t e : Nat) (x : Engine) : (s.setEngine t e x).build = s.build := rfl
@[simp] theorem State.setEngine_regs (t e : Nat) (x : Engine) : (s.setEngine t e x).regs = s.regs := rfl
@[simp] theorem State.setEngine_mem (t e : Nat) (x : Engine) : (s.setEngine t e x).mem = s.mem := rfl
@[simp] theorem State.setEngine_ecc (t e : Nat) (x : Engine) : (s.setEngine t e x).ecc = s.ecc := rfl
@[simp] theorem State.setEngine_writeBacks (t e : Nat) (x : Engine) : (s.setEngine t e x).writeBacks = s.writeBacks := rfl
@[simp] theorem State.setEngine_dmaLast (t e : Nat) (x : Engine) : (s.setEngine t e x).dmaLast = s.dmaLast := rfl
@[simp] theorem State.setEngine_clk (t e : Nat) (x : Engine) : (s.setEngine t e x).clk = s.clk := rfl
@[simp] theorem State.setEngine_pds (t e : Nat) (x : Engine) : (s.setEngine t e x).pds = s.pds := rfl
@[simp] theorem State.setEngine_entry (t e : Nat) (x : Engine) : (s.setEngine t e x).entry = s.entry := rfl
@[simp] theorem State.setEngine_clears (t e : Nat) (x : Engine) : (s.setEngine t e x).clears = s.clears := rfl
@[simp] theorem State.setEngine_opened (t e : Nat) (x : Engine) : (s.setEngine t e x).opened = s.opened := rfl
@[simp] theorem State.setEngine_budget (t e : Nat) (x : Engine) : (s.setEngine t e x).budget = s.budget := rfl
@[simp] theorem State.setEngine_apWait (t e : Nat) (x : Engine) : (s.setEngine t e x).apWait = s.apWait := rfl
@[simp] theorem State.setEngine_apHeld (t e : Nat) (x : Engine) : (s.setEngine t e x).apHeld = s.apHeld := rfl
@[simp] theorem State.setEngine_apDrawn (t e : Nat) (x : Engine) : (s.setEngine t e x).apDrawn = s.apDrawn := rfl
@[simp] theorem State.setEngine_resp (t e : Nat) (x : Engine) : (s.setEngine t e x).resp = s.resp := rfl
@[simp] theorem State.setEngine_ports (t e : Nat) (x : Engine) : (s.setEngine t e x).ports = s.ports := rfl
@[simp] theorem State.setEngine_tiles (t e : Nat) (x : Engine) : (s.setEngine t e x).tiles = s.tiles := rfl
@[simp] theorem State.setEngine_threads (t e : Nat) (x : Engine) : (s.setEngine t e x).threads = s.threads := rfl
@[simp] theorem State.setEngine_chans (t e : Nat) (x : Engine) : (s.setEngine t e x).chans = s.chans := rfl
@[simp] theorem State.setEngine_chanSpaces (t e : Nat) (x : Engine) : (s.setEngine t e x).chanSpaces = s.chanSpaces := rfl
@[simp] theorem State.setEngine_ctxs (t e : Nat) (x : Engine) : (s.setEngine t e x).ctxs = s.ctxs := rfl
@[simp] theorem State.setEngine_gz (t e : Nat) (x : Engine) : (s.setEngine t e x).gz = s.gz := rfl
@[simp] theorem State.setEngine_timers (t e : Nat) (x : Engine) : (s.setEngine t e x).timers = s.timers := rfl
@[simp] theorem State.setEngine_tbAdj (t e : Nat) (x : Engine) : (s.setEngine t e x).tbAdj = s.tbAdj := rfl
@[simp] theorem State.setEngine_conv (t e : Nat) (x : Engine) : (s.setEngine t e x).conv = s.conv := rfl
@[simp] theorem State.setEngine_engines (t e : Nat) (x : Engine) : (s.setEngine t e x).engines = mset s.engines (t, e) x := rfl
@[simp] theorem State.setEngine_rings (t e : Nat) (x : Engine) : (s.setEngine t e x).rings = s.rings := rfl
@[simp] theorem State.setEngine_cqs (t e : Nat) (x : Engine) : (s.setEngine t e x).cqs = s.cqs := rfl
@[simp] theorem State.setEngine_polls (t e : Nat) (x : Engine) : (s.setEngine t e x).polls = s.polls := rfl
@[simp] theorem State.setEngine_groups (t e : Nat) (x : Engine) : (s.setEngine t e x).groups = s.groups := rfl
@[simp] theorem State.setEngine_own (t e : Nat) (x : Engine) : (s.setEngine t e x).own = s.own := rfl
@[simp] theorem State.setEngine_fill (t e : Nat) (x : Engine) : (s.setEngine t e x).fill = s.fill := rfl
@[simp] theorem State.setEngine_fDirty (t e : Nat) (x : Engine) : (s.setEngine t e x).fDirty = s.fDirty := rfl
@[simp] theorem State.setEngine_qDirty (t e : Nat) (x : Engine) : (s.setEngine t e x).qDirty = s.qDirty := rfl
@[simp] theorem State.setEngine_copies (t e : Nat) (x : Engine) : (s.setEngine t e x).copies = s.copies := rfl
@[simp] theorem State.setEngine_copyFree (t e : Nat) (x : Engine) : (s.setEngine t e x).copyFree = s.copyFree := rfl
@[simp] theorem State.setEngine_edits (t e : Nat) (x : Engine) : (s.setEngine t e x).edits = s.edits := rfl
@[simp] theorem State.setEngine_cans (t e : Nat) (x : Engine) : (s.setEngine t e x).cans = s.cans := rfl
@[simp] theorem State.setEngine_links (t e : Nat) (x : Engine) : (s.setEngine t e x).links = s.links := rfl
@[simp] theorem State.setEngine_fed (t e : Nat) (x : Engine) : (s.setEngine t e x).fed = s.fed := rfl
@[simp] theorem State.setEngine_mirror (t e : Nat) (x : Engine) : (s.setEngine t e x).mirror = s.mirror := rfl
@[simp] theorem State.setEngine_upd (t e : Nat) (x : Engine) : (s.setEngine t e x).upd = s.upd := rfl
@[simp] theorem State.setEngine_tap (t e : Nat) (x : Engine) : (s.setEngine t e x).tap = s.tap := rfl
@[simp] theorem State.setEngine_windows (t e : Nat) (x : Engine) : (s.setEngine t e x).windows = s.windows := rfl
@[simp] theorem State.setEngine_pausedWin (t e : Nat) (x : Engine) : (s.setEngine t e x).pausedWin = s.pausedWin := rfl
@[simp] theorem State.setEngine_fioIn (t e : Nat) (x : Engine) : (s.setEngine t e x).fioIn = s.fioIn := rfl
@[simp] theorem State.setEngine_finPin (t e : Nat) (x : Engine) : (s.setEngine t e x).finPin = s.finPin := rfl
@[simp] theorem State.setEngine_faultIn (t e : Nat) (x : Engine) : (s.setEngine t e x).faultIn = s.faultIn := rfl
@[simp] theorem State.setEngine_faultSeq (t e : Nat) (x : Engine) : (s.setEngine t e x).faultSeq = s.faultSeq := rfl
@[simp] theorem State.setEngine_faultOut (t e : Nat) (x : Engine) : (s.setEngine t e x).faultOut = s.faultOut := rfl
@[simp] theorem State.setEngine_faultHeld (t e : Nat) (x : Engine) : (s.setEngine t e x).faultHeld = s.faultHeld := rfl
@[simp] theorem State.setEngine_wakes (t e : Nat) (x : Engine) : (s.setEngine t e x).wakes = s.wakes := rfl
@[simp] theorem State.setEngine_pending (t e : Nat) (x : Engine) : (s.setEngine t e x).pending = s.pending := rfl
@[simp] theorem State.setEngine_freeCtr (t e : Nat) (x : Engine) : (s.setEngine t e x).freeCtr = s.freeCtr := rfl

/-! ### setRing -/

@[simp] theorem State.setRing_build (p r : Nat) (x : Ring) : (s.setRing p r x).build = s.build := rfl
@[simp] theorem State.setRing_regs (p r : Nat) (x : Ring) : (s.setRing p r x).regs = s.regs := rfl
@[simp] theorem State.setRing_mem (p r : Nat) (x : Ring) : (s.setRing p r x).mem = s.mem := rfl
@[simp] theorem State.setRing_ecc (p r : Nat) (x : Ring) : (s.setRing p r x).ecc = s.ecc := rfl
@[simp] theorem State.setRing_writeBacks (p r : Nat) (x : Ring) : (s.setRing p r x).writeBacks = s.writeBacks := rfl
@[simp] theorem State.setRing_dmaLast (p r : Nat) (x : Ring) : (s.setRing p r x).dmaLast = s.dmaLast := rfl
@[simp] theorem State.setRing_clk (p r : Nat) (x : Ring) : (s.setRing p r x).clk = s.clk := rfl
@[simp] theorem State.setRing_pds (p r : Nat) (x : Ring) : (s.setRing p r x).pds = s.pds := rfl
@[simp] theorem State.setRing_entry (p r : Nat) (x : Ring) : (s.setRing p r x).entry = s.entry := rfl
@[simp] theorem State.setRing_clears (p r : Nat) (x : Ring) : (s.setRing p r x).clears = s.clears := rfl
@[simp] theorem State.setRing_opened (p r : Nat) (x : Ring) : (s.setRing p r x).opened = s.opened := rfl
@[simp] theorem State.setRing_budget (p r : Nat) (x : Ring) : (s.setRing p r x).budget = s.budget := rfl
@[simp] theorem State.setRing_apWait (p r : Nat) (x : Ring) : (s.setRing p r x).apWait = s.apWait := rfl
@[simp] theorem State.setRing_apHeld (p r : Nat) (x : Ring) : (s.setRing p r x).apHeld = s.apHeld := rfl
@[simp] theorem State.setRing_apDrawn (p r : Nat) (x : Ring) : (s.setRing p r x).apDrawn = s.apDrawn := rfl
@[simp] theorem State.setRing_resp (p r : Nat) (x : Ring) : (s.setRing p r x).resp = s.resp := rfl
@[simp] theorem State.setRing_ports (p r : Nat) (x : Ring) : (s.setRing p r x).ports = s.ports := rfl
@[simp] theorem State.setRing_tiles (p r : Nat) (x : Ring) : (s.setRing p r x).tiles = s.tiles := rfl
@[simp] theorem State.setRing_threads (p r : Nat) (x : Ring) : (s.setRing p r x).threads = s.threads := rfl
@[simp] theorem State.setRing_chans (p r : Nat) (x : Ring) : (s.setRing p r x).chans = s.chans := rfl
@[simp] theorem State.setRing_chanSpaces (p r : Nat) (x : Ring) : (s.setRing p r x).chanSpaces = s.chanSpaces := rfl
@[simp] theorem State.setRing_ctxs (p r : Nat) (x : Ring) : (s.setRing p r x).ctxs = s.ctxs := rfl
@[simp] theorem State.setRing_gz (p r : Nat) (x : Ring) : (s.setRing p r x).gz = s.gz := rfl
@[simp] theorem State.setRing_timers (p r : Nat) (x : Ring) : (s.setRing p r x).timers = s.timers := rfl
@[simp] theorem State.setRing_tbAdj (p r : Nat) (x : Ring) : (s.setRing p r x).tbAdj = s.tbAdj := rfl
@[simp] theorem State.setRing_conv (p r : Nat) (x : Ring) : (s.setRing p r x).conv = s.conv := rfl
@[simp] theorem State.setRing_engines (p r : Nat) (x : Ring) : (s.setRing p r x).engines = s.engines := rfl
@[simp] theorem State.setRing_rings (p r : Nat) (x : Ring) : (s.setRing p r x).rings = mset s.rings (p, r) x := rfl
@[simp] theorem State.setRing_cqs (p r : Nat) (x : Ring) : (s.setRing p r x).cqs = s.cqs := rfl
@[simp] theorem State.setRing_polls (p r : Nat) (x : Ring) : (s.setRing p r x).polls = s.polls := rfl
@[simp] theorem State.setRing_groups (p r : Nat) (x : Ring) : (s.setRing p r x).groups = s.groups := rfl
@[simp] theorem State.setRing_own (p r : Nat) (x : Ring) : (s.setRing p r x).own = s.own := rfl
@[simp] theorem State.setRing_fill (p r : Nat) (x : Ring) : (s.setRing p r x).fill = s.fill := rfl
@[simp] theorem State.setRing_fDirty (p r : Nat) (x : Ring) : (s.setRing p r x).fDirty = s.fDirty := rfl
@[simp] theorem State.setRing_qDirty (p r : Nat) (x : Ring) : (s.setRing p r x).qDirty = s.qDirty := rfl
@[simp] theorem State.setRing_copies (p r : Nat) (x : Ring) : (s.setRing p r x).copies = s.copies := rfl
@[simp] theorem State.setRing_copyFree (p r : Nat) (x : Ring) : (s.setRing p r x).copyFree = s.copyFree := rfl
@[simp] theorem State.setRing_edits (p r : Nat) (x : Ring) : (s.setRing p r x).edits = s.edits := rfl
@[simp] theorem State.setRing_cans (p r : Nat) (x : Ring) : (s.setRing p r x).cans = s.cans := rfl
@[simp] theorem State.setRing_links (p r : Nat) (x : Ring) : (s.setRing p r x).links = s.links := rfl
@[simp] theorem State.setRing_fed (p r : Nat) (x : Ring) : (s.setRing p r x).fed = s.fed := rfl
@[simp] theorem State.setRing_mirror (p r : Nat) (x : Ring) : (s.setRing p r x).mirror = s.mirror := rfl
@[simp] theorem State.setRing_upd (p r : Nat) (x : Ring) : (s.setRing p r x).upd = s.upd := rfl
@[simp] theorem State.setRing_tap (p r : Nat) (x : Ring) : (s.setRing p r x).tap = s.tap := rfl
@[simp] theorem State.setRing_windows (p r : Nat) (x : Ring) : (s.setRing p r x).windows = s.windows := rfl
@[simp] theorem State.setRing_pausedWin (p r : Nat) (x : Ring) : (s.setRing p r x).pausedWin = s.pausedWin := rfl
@[simp] theorem State.setRing_fioIn (p r : Nat) (x : Ring) : (s.setRing p r x).fioIn = s.fioIn := rfl
@[simp] theorem State.setRing_finPin (p r : Nat) (x : Ring) : (s.setRing p r x).finPin = s.finPin := rfl
@[simp] theorem State.setRing_faultIn (p r : Nat) (x : Ring) : (s.setRing p r x).faultIn = s.faultIn := rfl
@[simp] theorem State.setRing_faultSeq (p r : Nat) (x : Ring) : (s.setRing p r x).faultSeq = s.faultSeq := rfl
@[simp] theorem State.setRing_faultOut (p r : Nat) (x : Ring) : (s.setRing p r x).faultOut = s.faultOut := rfl
@[simp] theorem State.setRing_faultHeld (p r : Nat) (x : Ring) : (s.setRing p r x).faultHeld = s.faultHeld := rfl
@[simp] theorem State.setRing_wakes (p r : Nat) (x : Ring) : (s.setRing p r x).wakes = s.wakes := rfl
@[simp] theorem State.setRing_pending (p r : Nat) (x : Ring) : (s.setRing p r x).pending = s.pending := rfl
@[simp] theorem State.setRing_freeCtr (p r : Nat) (x : Ring) : (s.setRing p r x).freeCtr = s.freeCtr := rfl

/-! ### setCq -/

@[simp] theorem State.setCq_build (p q : Nat) (x : Cq) : (s.setCq p q x).build = s.build := rfl
@[simp] theorem State.setCq_regs (p q : Nat) (x : Cq) : (s.setCq p q x).regs = s.regs := rfl
@[simp] theorem State.setCq_mem (p q : Nat) (x : Cq) : (s.setCq p q x).mem = s.mem := rfl
@[simp] theorem State.setCq_ecc (p q : Nat) (x : Cq) : (s.setCq p q x).ecc = s.ecc := rfl
@[simp] theorem State.setCq_writeBacks (p q : Nat) (x : Cq) : (s.setCq p q x).writeBacks = s.writeBacks := rfl
@[simp] theorem State.setCq_dmaLast (p q : Nat) (x : Cq) : (s.setCq p q x).dmaLast = s.dmaLast := rfl
@[simp] theorem State.setCq_clk (p q : Nat) (x : Cq) : (s.setCq p q x).clk = s.clk := rfl
@[simp] theorem State.setCq_pds (p q : Nat) (x : Cq) : (s.setCq p q x).pds = s.pds := rfl
@[simp] theorem State.setCq_entry (p q : Nat) (x : Cq) : (s.setCq p q x).entry = s.entry := rfl
@[simp] theorem State.setCq_clears (p q : Nat) (x : Cq) : (s.setCq p q x).clears = s.clears := rfl
@[simp] theorem State.setCq_opened (p q : Nat) (x : Cq) : (s.setCq p q x).opened = s.opened := rfl
@[simp] theorem State.setCq_budget (p q : Nat) (x : Cq) : (s.setCq p q x).budget = s.budget := rfl
@[simp] theorem State.setCq_apWait (p q : Nat) (x : Cq) : (s.setCq p q x).apWait = s.apWait := rfl
@[simp] theorem State.setCq_apHeld (p q : Nat) (x : Cq) : (s.setCq p q x).apHeld = s.apHeld := rfl
@[simp] theorem State.setCq_apDrawn (p q : Nat) (x : Cq) : (s.setCq p q x).apDrawn = s.apDrawn := rfl
@[simp] theorem State.setCq_resp (p q : Nat) (x : Cq) : (s.setCq p q x).resp = s.resp := rfl
@[simp] theorem State.setCq_ports (p q : Nat) (x : Cq) : (s.setCq p q x).ports = s.ports := rfl
@[simp] theorem State.setCq_tiles (p q : Nat) (x : Cq) : (s.setCq p q x).tiles = s.tiles := rfl
@[simp] theorem State.setCq_threads (p q : Nat) (x : Cq) : (s.setCq p q x).threads = s.threads := rfl
@[simp] theorem State.setCq_chans (p q : Nat) (x : Cq) : (s.setCq p q x).chans = s.chans := rfl
@[simp] theorem State.setCq_chanSpaces (p q : Nat) (x : Cq) : (s.setCq p q x).chanSpaces = s.chanSpaces := rfl
@[simp] theorem State.setCq_ctxs (p q : Nat) (x : Cq) : (s.setCq p q x).ctxs = s.ctxs := rfl
@[simp] theorem State.setCq_gz (p q : Nat) (x : Cq) : (s.setCq p q x).gz = s.gz := rfl
@[simp] theorem State.setCq_timers (p q : Nat) (x : Cq) : (s.setCq p q x).timers = s.timers := rfl
@[simp] theorem State.setCq_tbAdj (p q : Nat) (x : Cq) : (s.setCq p q x).tbAdj = s.tbAdj := rfl
@[simp] theorem State.setCq_conv (p q : Nat) (x : Cq) : (s.setCq p q x).conv = s.conv := rfl
@[simp] theorem State.setCq_engines (p q : Nat) (x : Cq) : (s.setCq p q x).engines = s.engines := rfl
@[simp] theorem State.setCq_rings (p q : Nat) (x : Cq) : (s.setCq p q x).rings = s.rings := rfl
@[simp] theorem State.setCq_cqs (p q : Nat) (x : Cq) : (s.setCq p q x).cqs = mset s.cqs (p, q) x := rfl
@[simp] theorem State.setCq_polls (p q : Nat) (x : Cq) : (s.setCq p q x).polls = s.polls := rfl
@[simp] theorem State.setCq_groups (p q : Nat) (x : Cq) : (s.setCq p q x).groups = s.groups := rfl
@[simp] theorem State.setCq_own (p q : Nat) (x : Cq) : (s.setCq p q x).own = s.own := rfl
@[simp] theorem State.setCq_fill (p q : Nat) (x : Cq) : (s.setCq p q x).fill = s.fill := rfl
@[simp] theorem State.setCq_fDirty (p q : Nat) (x : Cq) : (s.setCq p q x).fDirty = s.fDirty := rfl
@[simp] theorem State.setCq_qDirty (p q : Nat) (x : Cq) : (s.setCq p q x).qDirty = s.qDirty := rfl
@[simp] theorem State.setCq_copies (p q : Nat) (x : Cq) : (s.setCq p q x).copies = s.copies := rfl
@[simp] theorem State.setCq_copyFree (p q : Nat) (x : Cq) : (s.setCq p q x).copyFree = s.copyFree := rfl
@[simp] theorem State.setCq_edits (p q : Nat) (x : Cq) : (s.setCq p q x).edits = s.edits := rfl
@[simp] theorem State.setCq_cans (p q : Nat) (x : Cq) : (s.setCq p q x).cans = s.cans := rfl
@[simp] theorem State.setCq_links (p q : Nat) (x : Cq) : (s.setCq p q x).links = s.links := rfl
@[simp] theorem State.setCq_fed (p q : Nat) (x : Cq) : (s.setCq p q x).fed = s.fed := rfl
@[simp] theorem State.setCq_mirror (p q : Nat) (x : Cq) : (s.setCq p q x).mirror = s.mirror := rfl
@[simp] theorem State.setCq_upd (p q : Nat) (x : Cq) : (s.setCq p q x).upd = s.upd := rfl
@[simp] theorem State.setCq_tap (p q : Nat) (x : Cq) : (s.setCq p q x).tap = s.tap := rfl
@[simp] theorem State.setCq_windows (p q : Nat) (x : Cq) : (s.setCq p q x).windows = s.windows := rfl
@[simp] theorem State.setCq_pausedWin (p q : Nat) (x : Cq) : (s.setCq p q x).pausedWin = s.pausedWin := rfl
@[simp] theorem State.setCq_fioIn (p q : Nat) (x : Cq) : (s.setCq p q x).fioIn = s.fioIn := rfl
@[simp] theorem State.setCq_finPin (p q : Nat) (x : Cq) : (s.setCq p q x).finPin = s.finPin := rfl
@[simp] theorem State.setCq_faultIn (p q : Nat) (x : Cq) : (s.setCq p q x).faultIn = s.faultIn := rfl
@[simp] theorem State.setCq_faultSeq (p q : Nat) (x : Cq) : (s.setCq p q x).faultSeq = s.faultSeq := rfl
@[simp] theorem State.setCq_faultOut (p q : Nat) (x : Cq) : (s.setCq p q x).faultOut = s.faultOut := rfl
@[simp] theorem State.setCq_faultHeld (p q : Nat) (x : Cq) : (s.setCq p q x).faultHeld = s.faultHeld := rfl
@[simp] theorem State.setCq_wakes (p q : Nat) (x : Cq) : (s.setCq p q x).wakes = s.wakes := rfl
@[simp] theorem State.setCq_pending (p q : Nat) (x : Cq) : (s.setCq p q x).pending = s.pending := rfl
@[simp] theorem State.setCq_freeCtr (p q : Nat) (x : Cq) : (s.setCq p q x).freeCtr = s.freeCtr := rfl

/-! ### setPoll -/

@[simp] theorem State.setPoll_build (p : Nat) (x : Poll) : (s.setPoll p x).build = s.build := rfl
@[simp] theorem State.setPoll_regs (p : Nat) (x : Poll) : (s.setPoll p x).regs = s.regs := rfl
@[simp] theorem State.setPoll_mem (p : Nat) (x : Poll) : (s.setPoll p x).mem = s.mem := rfl
@[simp] theorem State.setPoll_ecc (p : Nat) (x : Poll) : (s.setPoll p x).ecc = s.ecc := rfl
@[simp] theorem State.setPoll_writeBacks (p : Nat) (x : Poll) : (s.setPoll p x).writeBacks = s.writeBacks := rfl
@[simp] theorem State.setPoll_dmaLast (p : Nat) (x : Poll) : (s.setPoll p x).dmaLast = s.dmaLast := rfl
@[simp] theorem State.setPoll_clk (p : Nat) (x : Poll) : (s.setPoll p x).clk = s.clk := rfl
@[simp] theorem State.setPoll_pds (p : Nat) (x : Poll) : (s.setPoll p x).pds = s.pds := rfl
@[simp] theorem State.setPoll_entry (p : Nat) (x : Poll) : (s.setPoll p x).entry = s.entry := rfl
@[simp] theorem State.setPoll_clears (p : Nat) (x : Poll) : (s.setPoll p x).clears = s.clears := rfl
@[simp] theorem State.setPoll_opened (p : Nat) (x : Poll) : (s.setPoll p x).opened = s.opened := rfl
@[simp] theorem State.setPoll_budget (p : Nat) (x : Poll) : (s.setPoll p x).budget = s.budget := rfl
@[simp] theorem State.setPoll_apWait (p : Nat) (x : Poll) : (s.setPoll p x).apWait = s.apWait := rfl
@[simp] theorem State.setPoll_apHeld (p : Nat) (x : Poll) : (s.setPoll p x).apHeld = s.apHeld := rfl
@[simp] theorem State.setPoll_apDrawn (p : Nat) (x : Poll) : (s.setPoll p x).apDrawn = s.apDrawn := rfl
@[simp] theorem State.setPoll_resp (p : Nat) (x : Poll) : (s.setPoll p x).resp = s.resp := rfl
@[simp] theorem State.setPoll_ports (p : Nat) (x : Poll) : (s.setPoll p x).ports = s.ports := rfl
@[simp] theorem State.setPoll_tiles (p : Nat) (x : Poll) : (s.setPoll p x).tiles = s.tiles := rfl
@[simp] theorem State.setPoll_threads (p : Nat) (x : Poll) : (s.setPoll p x).threads = s.threads := rfl
@[simp] theorem State.setPoll_chans (p : Nat) (x : Poll) : (s.setPoll p x).chans = s.chans := rfl
@[simp] theorem State.setPoll_chanSpaces (p : Nat) (x : Poll) : (s.setPoll p x).chanSpaces = s.chanSpaces := rfl
@[simp] theorem State.setPoll_ctxs (p : Nat) (x : Poll) : (s.setPoll p x).ctxs = s.ctxs := rfl
@[simp] theorem State.setPoll_gz (p : Nat) (x : Poll) : (s.setPoll p x).gz = s.gz := rfl
@[simp] theorem State.setPoll_timers (p : Nat) (x : Poll) : (s.setPoll p x).timers = s.timers := rfl
@[simp] theorem State.setPoll_tbAdj (p : Nat) (x : Poll) : (s.setPoll p x).tbAdj = s.tbAdj := rfl
@[simp] theorem State.setPoll_conv (p : Nat) (x : Poll) : (s.setPoll p x).conv = s.conv := rfl
@[simp] theorem State.setPoll_engines (p : Nat) (x : Poll) : (s.setPoll p x).engines = s.engines := rfl
@[simp] theorem State.setPoll_rings (p : Nat) (x : Poll) : (s.setPoll p x).rings = s.rings := rfl
@[simp] theorem State.setPoll_cqs (p : Nat) (x : Poll) : (s.setPoll p x).cqs = s.cqs := rfl
@[simp] theorem State.setPoll_polls (p : Nat) (x : Poll) : (s.setPoll p x).polls = mset s.polls p x := rfl
@[simp] theorem State.setPoll_groups (p : Nat) (x : Poll) : (s.setPoll p x).groups = s.groups := rfl
@[simp] theorem State.setPoll_own (p : Nat) (x : Poll) : (s.setPoll p x).own = s.own := rfl
@[simp] theorem State.setPoll_fill (p : Nat) (x : Poll) : (s.setPoll p x).fill = s.fill := rfl
@[simp] theorem State.setPoll_fDirty (p : Nat) (x : Poll) : (s.setPoll p x).fDirty = s.fDirty := rfl
@[simp] theorem State.setPoll_qDirty (p : Nat) (x : Poll) : (s.setPoll p x).qDirty = s.qDirty := rfl
@[simp] theorem State.setPoll_copies (p : Nat) (x : Poll) : (s.setPoll p x).copies = s.copies := rfl
@[simp] theorem State.setPoll_copyFree (p : Nat) (x : Poll) : (s.setPoll p x).copyFree = s.copyFree := rfl
@[simp] theorem State.setPoll_edits (p : Nat) (x : Poll) : (s.setPoll p x).edits = s.edits := rfl
@[simp] theorem State.setPoll_cans (p : Nat) (x : Poll) : (s.setPoll p x).cans = s.cans := rfl
@[simp] theorem State.setPoll_links (p : Nat) (x : Poll) : (s.setPoll p x).links = s.links := rfl
@[simp] theorem State.setPoll_fed (p : Nat) (x : Poll) : (s.setPoll p x).fed = s.fed := rfl
@[simp] theorem State.setPoll_mirror (p : Nat) (x : Poll) : (s.setPoll p x).mirror = s.mirror := rfl
@[simp] theorem State.setPoll_upd (p : Nat) (x : Poll) : (s.setPoll p x).upd = s.upd := rfl
@[simp] theorem State.setPoll_tap (p : Nat) (x : Poll) : (s.setPoll p x).tap = s.tap := rfl
@[simp] theorem State.setPoll_windows (p : Nat) (x : Poll) : (s.setPoll p x).windows = s.windows := rfl
@[simp] theorem State.setPoll_pausedWin (p : Nat) (x : Poll) : (s.setPoll p x).pausedWin = s.pausedWin := rfl
@[simp] theorem State.setPoll_fioIn (p : Nat) (x : Poll) : (s.setPoll p x).fioIn = s.fioIn := rfl
@[simp] theorem State.setPoll_finPin (p : Nat) (x : Poll) : (s.setPoll p x).finPin = s.finPin := rfl
@[simp] theorem State.setPoll_faultIn (p : Nat) (x : Poll) : (s.setPoll p x).faultIn = s.faultIn := rfl
@[simp] theorem State.setPoll_faultSeq (p : Nat) (x : Poll) : (s.setPoll p x).faultSeq = s.faultSeq := rfl
@[simp] theorem State.setPoll_faultOut (p : Nat) (x : Poll) : (s.setPoll p x).faultOut = s.faultOut := rfl
@[simp] theorem State.setPoll_faultHeld (p : Nat) (x : Poll) : (s.setPoll p x).faultHeld = s.faultHeld := rfl
@[simp] theorem State.setPoll_wakes (p : Nat) (x : Poll) : (s.setPoll p x).wakes = s.wakes := rfl
@[simp] theorem State.setPoll_pending (p : Nat) (x : Poll) : (s.setPoll p x).pending = s.pending := rfl
@[simp] theorem State.setPoll_freeCtr (p : Nat) (x : Poll) : (s.setPoll p x).freeCtr = s.freeCtr := rfl

/-! ### setGroup -/

@[simp] theorem State.setGroup_build (g : Nat) (x : Group) : (s.setGroup g x).build = s.build := rfl
@[simp] theorem State.setGroup_regs (g : Nat) (x : Group) : (s.setGroup g x).regs = s.regs := rfl
@[simp] theorem State.setGroup_mem (g : Nat) (x : Group) : (s.setGroup g x).mem = s.mem := rfl
@[simp] theorem State.setGroup_ecc (g : Nat) (x : Group) : (s.setGroup g x).ecc = s.ecc := rfl
@[simp] theorem State.setGroup_writeBacks (g : Nat) (x : Group) : (s.setGroup g x).writeBacks = s.writeBacks := rfl
@[simp] theorem State.setGroup_dmaLast (g : Nat) (x : Group) : (s.setGroup g x).dmaLast = s.dmaLast := rfl
@[simp] theorem State.setGroup_clk (g : Nat) (x : Group) : (s.setGroup g x).clk = s.clk := rfl
@[simp] theorem State.setGroup_pds (g : Nat) (x : Group) : (s.setGroup g x).pds = s.pds := rfl
@[simp] theorem State.setGroup_entry (g : Nat) (x : Group) : (s.setGroup g x).entry = s.entry := rfl
@[simp] theorem State.setGroup_clears (g : Nat) (x : Group) : (s.setGroup g x).clears = s.clears := rfl
@[simp] theorem State.setGroup_opened (g : Nat) (x : Group) : (s.setGroup g x).opened = s.opened := rfl
@[simp] theorem State.setGroup_budget (g : Nat) (x : Group) : (s.setGroup g x).budget = s.budget := rfl
@[simp] theorem State.setGroup_apWait (g : Nat) (x : Group) : (s.setGroup g x).apWait = s.apWait := rfl
@[simp] theorem State.setGroup_apHeld (g : Nat) (x : Group) : (s.setGroup g x).apHeld = s.apHeld := rfl
@[simp] theorem State.setGroup_apDrawn (g : Nat) (x : Group) : (s.setGroup g x).apDrawn = s.apDrawn := rfl
@[simp] theorem State.setGroup_resp (g : Nat) (x : Group) : (s.setGroup g x).resp = s.resp := rfl
@[simp] theorem State.setGroup_ports (g : Nat) (x : Group) : (s.setGroup g x).ports = s.ports := rfl
@[simp] theorem State.setGroup_tiles (g : Nat) (x : Group) : (s.setGroup g x).tiles = s.tiles := rfl
@[simp] theorem State.setGroup_threads (g : Nat) (x : Group) : (s.setGroup g x).threads = s.threads := rfl
@[simp] theorem State.setGroup_chans (g : Nat) (x : Group) : (s.setGroup g x).chans = s.chans := rfl
@[simp] theorem State.setGroup_chanSpaces (g : Nat) (x : Group) : (s.setGroup g x).chanSpaces = s.chanSpaces := rfl
@[simp] theorem State.setGroup_ctxs (g : Nat) (x : Group) : (s.setGroup g x).ctxs = s.ctxs := rfl
@[simp] theorem State.setGroup_gz (g : Nat) (x : Group) : (s.setGroup g x).gz = s.gz := rfl
@[simp] theorem State.setGroup_timers (g : Nat) (x : Group) : (s.setGroup g x).timers = s.timers := rfl
@[simp] theorem State.setGroup_tbAdj (g : Nat) (x : Group) : (s.setGroup g x).tbAdj = s.tbAdj := rfl
@[simp] theorem State.setGroup_conv (g : Nat) (x : Group) : (s.setGroup g x).conv = s.conv := rfl
@[simp] theorem State.setGroup_engines (g : Nat) (x : Group) : (s.setGroup g x).engines = s.engines := rfl
@[simp] theorem State.setGroup_rings (g : Nat) (x : Group) : (s.setGroup g x).rings = s.rings := rfl
@[simp] theorem State.setGroup_cqs (g : Nat) (x : Group) : (s.setGroup g x).cqs = s.cqs := rfl
@[simp] theorem State.setGroup_polls (g : Nat) (x : Group) : (s.setGroup g x).polls = s.polls := rfl
@[simp] theorem State.setGroup_groups (g : Nat) (x : Group) : (s.setGroup g x).groups = mset s.groups g x := rfl
@[simp] theorem State.setGroup_own (g : Nat) (x : Group) : (s.setGroup g x).own = s.own := rfl
@[simp] theorem State.setGroup_fill (g : Nat) (x : Group) : (s.setGroup g x).fill = s.fill := rfl
@[simp] theorem State.setGroup_fDirty (g : Nat) (x : Group) : (s.setGroup g x).fDirty = s.fDirty := rfl
@[simp] theorem State.setGroup_qDirty (g : Nat) (x : Group) : (s.setGroup g x).qDirty = s.qDirty := rfl
@[simp] theorem State.setGroup_copies (g : Nat) (x : Group) : (s.setGroup g x).copies = s.copies := rfl
@[simp] theorem State.setGroup_copyFree (g : Nat) (x : Group) : (s.setGroup g x).copyFree = s.copyFree := rfl
@[simp] theorem State.setGroup_edits (g : Nat) (x : Group) : (s.setGroup g x).edits = s.edits := rfl
@[simp] theorem State.setGroup_cans (g : Nat) (x : Group) : (s.setGroup g x).cans = s.cans := rfl
@[simp] theorem State.setGroup_links (g : Nat) (x : Group) : (s.setGroup g x).links = s.links := rfl
@[simp] theorem State.setGroup_fed (g : Nat) (x : Group) : (s.setGroup g x).fed = s.fed := rfl
@[simp] theorem State.setGroup_mirror (g : Nat) (x : Group) : (s.setGroup g x).mirror = s.mirror := rfl
@[simp] theorem State.setGroup_upd (g : Nat) (x : Group) : (s.setGroup g x).upd = s.upd := rfl
@[simp] theorem State.setGroup_tap (g : Nat) (x : Group) : (s.setGroup g x).tap = s.tap := rfl
@[simp] theorem State.setGroup_windows (g : Nat) (x : Group) : (s.setGroup g x).windows = s.windows := rfl
@[simp] theorem State.setGroup_pausedWin (g : Nat) (x : Group) : (s.setGroup g x).pausedWin = s.pausedWin := rfl
@[simp] theorem State.setGroup_fioIn (g : Nat) (x : Group) : (s.setGroup g x).fioIn = s.fioIn := rfl
@[simp] theorem State.setGroup_finPin (g : Nat) (x : Group) : (s.setGroup g x).finPin = s.finPin := rfl
@[simp] theorem State.setGroup_faultIn (g : Nat) (x : Group) : (s.setGroup g x).faultIn = s.faultIn := rfl
@[simp] theorem State.setGroup_faultSeq (g : Nat) (x : Group) : (s.setGroup g x).faultSeq = s.faultSeq := rfl
@[simp] theorem State.setGroup_faultOut (g : Nat) (x : Group) : (s.setGroup g x).faultOut = s.faultOut := rfl
@[simp] theorem State.setGroup_faultHeld (g : Nat) (x : Group) : (s.setGroup g x).faultHeld = s.faultHeld := rfl
@[simp] theorem State.setGroup_wakes (g : Nat) (x : Group) : (s.setGroup g x).wakes = s.wakes := rfl
@[simp] theorem State.setGroup_pending (g : Nat) (x : Group) : (s.setGroup g x).pending = s.pending := rfl
@[simp] theorem State.setGroup_freeCtr (g : Nat) (x : Group) : (s.setGroup g x).freeCtr = s.freeCtr := rfl

/-! ### setCan -/

@[simp] theorem State.setCan_build (c : Nat) (x : Can) : (s.setCan c x).build = s.build := rfl
@[simp] theorem State.setCan_regs (c : Nat) (x : Can) : (s.setCan c x).regs = s.regs := rfl
@[simp] theorem State.setCan_mem (c : Nat) (x : Can) : (s.setCan c x).mem = s.mem := rfl
@[simp] theorem State.setCan_ecc (c : Nat) (x : Can) : (s.setCan c x).ecc = s.ecc := rfl
@[simp] theorem State.setCan_writeBacks (c : Nat) (x : Can) : (s.setCan c x).writeBacks = s.writeBacks := rfl
@[simp] theorem State.setCan_dmaLast (c : Nat) (x : Can) : (s.setCan c x).dmaLast = s.dmaLast := rfl
@[simp] theorem State.setCan_clk (c : Nat) (x : Can) : (s.setCan c x).clk = s.clk := rfl
@[simp] theorem State.setCan_pds (c : Nat) (x : Can) : (s.setCan c x).pds = s.pds := rfl
@[simp] theorem State.setCan_entry (c : Nat) (x : Can) : (s.setCan c x).entry = s.entry := rfl
@[simp] theorem State.setCan_clears (c : Nat) (x : Can) : (s.setCan c x).clears = s.clears := rfl
@[simp] theorem State.setCan_opened (c : Nat) (x : Can) : (s.setCan c x).opened = s.opened := rfl
@[simp] theorem State.setCan_budget (c : Nat) (x : Can) : (s.setCan c x).budget = s.budget := rfl
@[simp] theorem State.setCan_apWait (c : Nat) (x : Can) : (s.setCan c x).apWait = s.apWait := rfl
@[simp] theorem State.setCan_apHeld (c : Nat) (x : Can) : (s.setCan c x).apHeld = s.apHeld := rfl
@[simp] theorem State.setCan_apDrawn (c : Nat) (x : Can) : (s.setCan c x).apDrawn = s.apDrawn := rfl
@[simp] theorem State.setCan_resp (c : Nat) (x : Can) : (s.setCan c x).resp = s.resp := rfl
@[simp] theorem State.setCan_ports (c : Nat) (x : Can) : (s.setCan c x).ports = s.ports := rfl
@[simp] theorem State.setCan_tiles (c : Nat) (x : Can) : (s.setCan c x).tiles = s.tiles := rfl
@[simp] theorem State.setCan_threads (c : Nat) (x : Can) : (s.setCan c x).threads = s.threads := rfl
@[simp] theorem State.setCan_chans (c : Nat) (x : Can) : (s.setCan c x).chans = s.chans := rfl
@[simp] theorem State.setCan_chanSpaces (c : Nat) (x : Can) : (s.setCan c x).chanSpaces = s.chanSpaces := rfl
@[simp] theorem State.setCan_ctxs (c : Nat) (x : Can) : (s.setCan c x).ctxs = s.ctxs := rfl
@[simp] theorem State.setCan_gz (c : Nat) (x : Can) : (s.setCan c x).gz = s.gz := rfl
@[simp] theorem State.setCan_timers (c : Nat) (x : Can) : (s.setCan c x).timers = s.timers := rfl
@[simp] theorem State.setCan_tbAdj (c : Nat) (x : Can) : (s.setCan c x).tbAdj = s.tbAdj := rfl
@[simp] theorem State.setCan_conv (c : Nat) (x : Can) : (s.setCan c x).conv = s.conv := rfl
@[simp] theorem State.setCan_engines (c : Nat) (x : Can) : (s.setCan c x).engines = s.engines := rfl
@[simp] theorem State.setCan_rings (c : Nat) (x : Can) : (s.setCan c x).rings = s.rings := rfl
@[simp] theorem State.setCan_cqs (c : Nat) (x : Can) : (s.setCan c x).cqs = s.cqs := rfl
@[simp] theorem State.setCan_polls (c : Nat) (x : Can) : (s.setCan c x).polls = s.polls := rfl
@[simp] theorem State.setCan_groups (c : Nat) (x : Can) : (s.setCan c x).groups = s.groups := rfl
@[simp] theorem State.setCan_own (c : Nat) (x : Can) : (s.setCan c x).own = s.own := rfl
@[simp] theorem State.setCan_fill (c : Nat) (x : Can) : (s.setCan c x).fill = s.fill := rfl
@[simp] theorem State.setCan_fDirty (c : Nat) (x : Can) : (s.setCan c x).fDirty = s.fDirty := rfl
@[simp] theorem State.setCan_qDirty (c : Nat) (x : Can) : (s.setCan c x).qDirty = s.qDirty := rfl
@[simp] theorem State.setCan_copies (c : Nat) (x : Can) : (s.setCan c x).copies = s.copies := rfl
@[simp] theorem State.setCan_copyFree (c : Nat) (x : Can) : (s.setCan c x).copyFree = s.copyFree := rfl
@[simp] theorem State.setCan_edits (c : Nat) (x : Can) : (s.setCan c x).edits = s.edits := rfl
@[simp] theorem State.setCan_cans (c : Nat) (x : Can) : (s.setCan c x).cans = mset s.cans c x := rfl
@[simp] theorem State.setCan_links (c : Nat) (x : Can) : (s.setCan c x).links = s.links := rfl
@[simp] theorem State.setCan_fed (c : Nat) (x : Can) : (s.setCan c x).fed = s.fed := rfl
@[simp] theorem State.setCan_mirror (c : Nat) (x : Can) : (s.setCan c x).mirror = s.mirror := rfl
@[simp] theorem State.setCan_upd (c : Nat) (x : Can) : (s.setCan c x).upd = s.upd := rfl
@[simp] theorem State.setCan_tap (c : Nat) (x : Can) : (s.setCan c x).tap = s.tap := rfl
@[simp] theorem State.setCan_windows (c : Nat) (x : Can) : (s.setCan c x).windows = s.windows := rfl
@[simp] theorem State.setCan_pausedWin (c : Nat) (x : Can) : (s.setCan c x).pausedWin = s.pausedWin := rfl
@[simp] theorem State.setCan_fioIn (c : Nat) (x : Can) : (s.setCan c x).fioIn = s.fioIn := rfl
@[simp] theorem State.setCan_finPin (c : Nat) (x : Can) : (s.setCan c x).finPin = s.finPin := rfl
@[simp] theorem State.setCan_faultIn (c : Nat) (x : Can) : (s.setCan c x).faultIn = s.faultIn := rfl
@[simp] theorem State.setCan_faultSeq (c : Nat) (x : Can) : (s.setCan c x).faultSeq = s.faultSeq := rfl
@[simp] theorem State.setCan_faultOut (c : Nat) (x : Can) : (s.setCan c x).faultOut = s.faultOut := rfl
@[simp] theorem State.setCan_faultHeld (c : Nat) (x : Can) : (s.setCan c x).faultHeld = s.faultHeld := rfl
@[simp] theorem State.setCan_wakes (c : Nat) (x : Can) : (s.setCan c x).wakes = s.wakes := rfl
@[simp] theorem State.setCan_pending (c : Nat) (x : Can) : (s.setCan c x).pending = s.pending := rfl
@[simp] theorem State.setCan_freeCtr (c : Nat) (x : Can) : (s.setCan c x).freeCtr = s.freeCtr := rfl

/-! ### setLink -/

@[simp] theorem State.setLink_build (n : Nat) (x : Link) : (s.setLink n x).build = s.build := rfl
@[simp] theorem State.setLink_regs (n : Nat) (x : Link) : (s.setLink n x).regs = s.regs := rfl
@[simp] theorem State.setLink_mem (n : Nat) (x : Link) : (s.setLink n x).mem = s.mem := rfl
@[simp] theorem State.setLink_ecc (n : Nat) (x : Link) : (s.setLink n x).ecc = s.ecc := rfl
@[simp] theorem State.setLink_writeBacks (n : Nat) (x : Link) : (s.setLink n x).writeBacks = s.writeBacks := rfl
@[simp] theorem State.setLink_dmaLast (n : Nat) (x : Link) : (s.setLink n x).dmaLast = s.dmaLast := rfl
@[simp] theorem State.setLink_clk (n : Nat) (x : Link) : (s.setLink n x).clk = s.clk := rfl
@[simp] theorem State.setLink_pds (n : Nat) (x : Link) : (s.setLink n x).pds = s.pds := rfl
@[simp] theorem State.setLink_entry (n : Nat) (x : Link) : (s.setLink n x).entry = s.entry := rfl
@[simp] theorem State.setLink_clears (n : Nat) (x : Link) : (s.setLink n x).clears = s.clears := rfl
@[simp] theorem State.setLink_opened (n : Nat) (x : Link) : (s.setLink n x).opened = s.opened := rfl
@[simp] theorem State.setLink_budget (n : Nat) (x : Link) : (s.setLink n x).budget = s.budget := rfl
@[simp] theorem State.setLink_apWait (n : Nat) (x : Link) : (s.setLink n x).apWait = s.apWait := rfl
@[simp] theorem State.setLink_apHeld (n : Nat) (x : Link) : (s.setLink n x).apHeld = s.apHeld := rfl
@[simp] theorem State.setLink_apDrawn (n : Nat) (x : Link) : (s.setLink n x).apDrawn = s.apDrawn := rfl
@[simp] theorem State.setLink_resp (n : Nat) (x : Link) : (s.setLink n x).resp = s.resp := rfl
@[simp] theorem State.setLink_ports (n : Nat) (x : Link) : (s.setLink n x).ports = s.ports := rfl
@[simp] theorem State.setLink_tiles (n : Nat) (x : Link) : (s.setLink n x).tiles = s.tiles := rfl
@[simp] theorem State.setLink_threads (n : Nat) (x : Link) : (s.setLink n x).threads = s.threads := rfl
@[simp] theorem State.setLink_chans (n : Nat) (x : Link) : (s.setLink n x).chans = s.chans := rfl
@[simp] theorem State.setLink_chanSpaces (n : Nat) (x : Link) : (s.setLink n x).chanSpaces = s.chanSpaces := rfl
@[simp] theorem State.setLink_ctxs (n : Nat) (x : Link) : (s.setLink n x).ctxs = s.ctxs := rfl
@[simp] theorem State.setLink_gz (n : Nat) (x : Link) : (s.setLink n x).gz = s.gz := rfl
@[simp] theorem State.setLink_timers (n : Nat) (x : Link) : (s.setLink n x).timers = s.timers := rfl
@[simp] theorem State.setLink_tbAdj (n : Nat) (x : Link) : (s.setLink n x).tbAdj = s.tbAdj := rfl
@[simp] theorem State.setLink_conv (n : Nat) (x : Link) : (s.setLink n x).conv = s.conv := rfl
@[simp] theorem State.setLink_engines (n : Nat) (x : Link) : (s.setLink n x).engines = s.engines := rfl
@[simp] theorem State.setLink_rings (n : Nat) (x : Link) : (s.setLink n x).rings = s.rings := rfl
@[simp] theorem State.setLink_cqs (n : Nat) (x : Link) : (s.setLink n x).cqs = s.cqs := rfl
@[simp] theorem State.setLink_polls (n : Nat) (x : Link) : (s.setLink n x).polls = s.polls := rfl
@[simp] theorem State.setLink_groups (n : Nat) (x : Link) : (s.setLink n x).groups = s.groups := rfl
@[simp] theorem State.setLink_own (n : Nat) (x : Link) : (s.setLink n x).own = s.own := rfl
@[simp] theorem State.setLink_fill (n : Nat) (x : Link) : (s.setLink n x).fill = s.fill := rfl
@[simp] theorem State.setLink_fDirty (n : Nat) (x : Link) : (s.setLink n x).fDirty = s.fDirty := rfl
@[simp] theorem State.setLink_qDirty (n : Nat) (x : Link) : (s.setLink n x).qDirty = s.qDirty := rfl
@[simp] theorem State.setLink_copies (n : Nat) (x : Link) : (s.setLink n x).copies = s.copies := rfl
@[simp] theorem State.setLink_copyFree (n : Nat) (x : Link) : (s.setLink n x).copyFree = s.copyFree := rfl
@[simp] theorem State.setLink_edits (n : Nat) (x : Link) : (s.setLink n x).edits = s.edits := rfl
@[simp] theorem State.setLink_cans (n : Nat) (x : Link) : (s.setLink n x).cans = s.cans := rfl
@[simp] theorem State.setLink_links (n : Nat) (x : Link) : (s.setLink n x).links = mset s.links n x := rfl
@[simp] theorem State.setLink_fed (n : Nat) (x : Link) : (s.setLink n x).fed = s.fed := rfl
@[simp] theorem State.setLink_mirror (n : Nat) (x : Link) : (s.setLink n x).mirror = s.mirror := rfl
@[simp] theorem State.setLink_upd (n : Nat) (x : Link) : (s.setLink n x).upd = s.upd := rfl
@[simp] theorem State.setLink_tap (n : Nat) (x : Link) : (s.setLink n x).tap = s.tap := rfl
@[simp] theorem State.setLink_windows (n : Nat) (x : Link) : (s.setLink n x).windows = s.windows := rfl
@[simp] theorem State.setLink_pausedWin (n : Nat) (x : Link) : (s.setLink n x).pausedWin = s.pausedWin := rfl
@[simp] theorem State.setLink_fioIn (n : Nat) (x : Link) : (s.setLink n x).fioIn = s.fioIn := rfl
@[simp] theorem State.setLink_finPin (n : Nat) (x : Link) : (s.setLink n x).finPin = s.finPin := rfl
@[simp] theorem State.setLink_faultIn (n : Nat) (x : Link) : (s.setLink n x).faultIn = s.faultIn := rfl
@[simp] theorem State.setLink_faultSeq (n : Nat) (x : Link) : (s.setLink n x).faultSeq = s.faultSeq := rfl
@[simp] theorem State.setLink_faultOut (n : Nat) (x : Link) : (s.setLink n x).faultOut = s.faultOut := rfl
@[simp] theorem State.setLink_faultHeld (n : Nat) (x : Link) : (s.setLink n x).faultHeld = s.faultHeld := rfl
@[simp] theorem State.setLink_wakes (n : Nat) (x : Link) : (s.setLink n x).wakes = s.wakes := rfl
@[simp] theorem State.setLink_pending (n : Nat) (x : Link) : (s.setLink n x).pending = s.pending := rfl
@[simp] theorem State.setLink_freeCtr (n : Nat) (x : Link) : (s.setLink n x).freeCtr = s.freeCtr := rfl

/-! ### setEdit -/

@[simp] theorem State.setEdit_build (g : Nat) (x : Edit) : (s.setEdit g x).build = s.build := rfl
@[simp] theorem State.setEdit_regs (g : Nat) (x : Edit) : (s.setEdit g x).regs = s.regs := rfl
@[simp] theorem State.setEdit_mem (g : Nat) (x : Edit) : (s.setEdit g x).mem = s.mem := rfl
@[simp] theorem State.setEdit_ecc (g : Nat) (x : Edit) : (s.setEdit g x).ecc = s.ecc := rfl
@[simp] theorem State.setEdit_writeBacks (g : Nat) (x : Edit) : (s.setEdit g x).writeBacks = s.writeBacks := rfl
@[simp] theorem State.setEdit_dmaLast (g : Nat) (x : Edit) : (s.setEdit g x).dmaLast = s.dmaLast := rfl
@[simp] theorem State.setEdit_clk (g : Nat) (x : Edit) : (s.setEdit g x).clk = s.clk := rfl
@[simp] theorem State.setEdit_pds (g : Nat) (x : Edit) : (s.setEdit g x).pds = s.pds := rfl
@[simp] theorem State.setEdit_entry (g : Nat) (x : Edit) : (s.setEdit g x).entry = s.entry := rfl
@[simp] theorem State.setEdit_clears (g : Nat) (x : Edit) : (s.setEdit g x).clears = s.clears := rfl
@[simp] theorem State.setEdit_opened (g : Nat) (x : Edit) : (s.setEdit g x).opened = s.opened := rfl
@[simp] theorem State.setEdit_budget (g : Nat) (x : Edit) : (s.setEdit g x).budget = s.budget := rfl
@[simp] theorem State.setEdit_apWait (g : Nat) (x : Edit) : (s.setEdit g x).apWait = s.apWait := rfl
@[simp] theorem State.setEdit_apHeld (g : Nat) (x : Edit) : (s.setEdit g x).apHeld = s.apHeld := rfl
@[simp] theorem State.setEdit_apDrawn (g : Nat) (x : Edit) : (s.setEdit g x).apDrawn = s.apDrawn := rfl
@[simp] theorem State.setEdit_resp (g : Nat) (x : Edit) : (s.setEdit g x).resp = s.resp := rfl
@[simp] theorem State.setEdit_ports (g : Nat) (x : Edit) : (s.setEdit g x).ports = s.ports := rfl
@[simp] theorem State.setEdit_tiles (g : Nat) (x : Edit) : (s.setEdit g x).tiles = s.tiles := rfl
@[simp] theorem State.setEdit_threads (g : Nat) (x : Edit) : (s.setEdit g x).threads = s.threads := rfl
@[simp] theorem State.setEdit_chans (g : Nat) (x : Edit) : (s.setEdit g x).chans = s.chans := rfl
@[simp] theorem State.setEdit_chanSpaces (g : Nat) (x : Edit) : (s.setEdit g x).chanSpaces = s.chanSpaces := rfl
@[simp] theorem State.setEdit_ctxs (g : Nat) (x : Edit) : (s.setEdit g x).ctxs = s.ctxs := rfl
@[simp] theorem State.setEdit_gz (g : Nat) (x : Edit) : (s.setEdit g x).gz = s.gz := rfl
@[simp] theorem State.setEdit_timers (g : Nat) (x : Edit) : (s.setEdit g x).timers = s.timers := rfl
@[simp] theorem State.setEdit_tbAdj (g : Nat) (x : Edit) : (s.setEdit g x).tbAdj = s.tbAdj := rfl
@[simp] theorem State.setEdit_conv (g : Nat) (x : Edit) : (s.setEdit g x).conv = s.conv := rfl
@[simp] theorem State.setEdit_engines (g : Nat) (x : Edit) : (s.setEdit g x).engines = s.engines := rfl
@[simp] theorem State.setEdit_rings (g : Nat) (x : Edit) : (s.setEdit g x).rings = s.rings := rfl
@[simp] theorem State.setEdit_cqs (g : Nat) (x : Edit) : (s.setEdit g x).cqs = s.cqs := rfl
@[simp] theorem State.setEdit_polls (g : Nat) (x : Edit) : (s.setEdit g x).polls = s.polls := rfl
@[simp] theorem State.setEdit_groups (g : Nat) (x : Edit) : (s.setEdit g x).groups = s.groups := rfl
@[simp] theorem State.setEdit_own (g : Nat) (x : Edit) : (s.setEdit g x).own = s.own := rfl
@[simp] theorem State.setEdit_fill (g : Nat) (x : Edit) : (s.setEdit g x).fill = s.fill := rfl
@[simp] theorem State.setEdit_fDirty (g : Nat) (x : Edit) : (s.setEdit g x).fDirty = s.fDirty := rfl
@[simp] theorem State.setEdit_qDirty (g : Nat) (x : Edit) : (s.setEdit g x).qDirty = s.qDirty := rfl
@[simp] theorem State.setEdit_copies (g : Nat) (x : Edit) : (s.setEdit g x).copies = s.copies := rfl
@[simp] theorem State.setEdit_copyFree (g : Nat) (x : Edit) : (s.setEdit g x).copyFree = s.copyFree := rfl
@[simp] theorem State.setEdit_edits (g : Nat) (x : Edit) : (s.setEdit g x).edits = mset s.edits g x := rfl
@[simp] theorem State.setEdit_cans (g : Nat) (x : Edit) : (s.setEdit g x).cans = s.cans := rfl
@[simp] theorem State.setEdit_links (g : Nat) (x : Edit) : (s.setEdit g x).links = s.links := rfl
@[simp] theorem State.setEdit_fed (g : Nat) (x : Edit) : (s.setEdit g x).fed = s.fed := rfl
@[simp] theorem State.setEdit_mirror (g : Nat) (x : Edit) : (s.setEdit g x).mirror = s.mirror := rfl
@[simp] theorem State.setEdit_upd (g : Nat) (x : Edit) : (s.setEdit g x).upd = s.upd := rfl
@[simp] theorem State.setEdit_tap (g : Nat) (x : Edit) : (s.setEdit g x).tap = s.tap := rfl
@[simp] theorem State.setEdit_windows (g : Nat) (x : Edit) : (s.setEdit g x).windows = s.windows := rfl
@[simp] theorem State.setEdit_pausedWin (g : Nat) (x : Edit) : (s.setEdit g x).pausedWin = s.pausedWin := rfl
@[simp] theorem State.setEdit_fioIn (g : Nat) (x : Edit) : (s.setEdit g x).fioIn = s.fioIn := rfl
@[simp] theorem State.setEdit_finPin (g : Nat) (x : Edit) : (s.setEdit g x).finPin = s.finPin := rfl
@[simp] theorem State.setEdit_faultIn (g : Nat) (x : Edit) : (s.setEdit g x).faultIn = s.faultIn := rfl
@[simp] theorem State.setEdit_faultSeq (g : Nat) (x : Edit) : (s.setEdit g x).faultSeq = s.faultSeq := rfl
@[simp] theorem State.setEdit_faultOut (g : Nat) (x : Edit) : (s.setEdit g x).faultOut = s.faultOut := rfl
@[simp] theorem State.setEdit_faultHeld (g : Nat) (x : Edit) : (s.setEdit g x).faultHeld = s.faultHeld := rfl
@[simp] theorem State.setEdit_wakes (g : Nat) (x : Edit) : (s.setEdit g x).wakes = s.wakes := rfl
@[simp] theorem State.setEdit_pending (g : Nat) (x : Edit) : (s.setEdit g x).pending = s.pending := rfl
@[simp] theorem State.setEdit_freeCtr (g : Nat) (x : Edit) : (s.setEdit g x).freeCtr = s.freeCtr := rfl

/-! ### setOwn -/

@[simp] theorem State.setOwn_build (i : Nat) (b : Byte) : (s.setOwn i b).build = s.build := rfl
@[simp] theorem State.setOwn_regs (i : Nat) (b : Byte) : (s.setOwn i b).regs = s.regs := rfl
@[simp] theorem State.setOwn_mem (i : Nat) (b : Byte) : (s.setOwn i b).mem = s.mem := rfl
@[simp] theorem State.setOwn_ecc (i : Nat) (b : Byte) : (s.setOwn i b).ecc = s.ecc := rfl
@[simp] theorem State.setOwn_writeBacks (i : Nat) (b : Byte) : (s.setOwn i b).writeBacks = s.writeBacks := rfl
@[simp] theorem State.setOwn_dmaLast (i : Nat) (b : Byte) : (s.setOwn i b).dmaLast = s.dmaLast := rfl
@[simp] theorem State.setOwn_clk (i : Nat) (b : Byte) : (s.setOwn i b).clk = s.clk := rfl
@[simp] theorem State.setOwn_pds (i : Nat) (b : Byte) : (s.setOwn i b).pds = s.pds := rfl
@[simp] theorem State.setOwn_entry (i : Nat) (b : Byte) : (s.setOwn i b).entry = s.entry := rfl
@[simp] theorem State.setOwn_clears (i : Nat) (b : Byte) : (s.setOwn i b).clears = s.clears := rfl
@[simp] theorem State.setOwn_opened (i : Nat) (b : Byte) : (s.setOwn i b).opened = s.opened := rfl
@[simp] theorem State.setOwn_budget (i : Nat) (b : Byte) : (s.setOwn i b).budget = s.budget := rfl
@[simp] theorem State.setOwn_apWait (i : Nat) (b : Byte) : (s.setOwn i b).apWait = s.apWait := rfl
@[simp] theorem State.setOwn_apHeld (i : Nat) (b : Byte) : (s.setOwn i b).apHeld = s.apHeld := rfl
@[simp] theorem State.setOwn_apDrawn (i : Nat) (b : Byte) : (s.setOwn i b).apDrawn = s.apDrawn := rfl
@[simp] theorem State.setOwn_resp (i : Nat) (b : Byte) : (s.setOwn i b).resp = s.resp := rfl
@[simp] theorem State.setOwn_ports (i : Nat) (b : Byte) : (s.setOwn i b).ports = s.ports := rfl
@[simp] theorem State.setOwn_tiles (i : Nat) (b : Byte) : (s.setOwn i b).tiles = s.tiles := rfl
@[simp] theorem State.setOwn_threads (i : Nat) (b : Byte) : (s.setOwn i b).threads = s.threads := rfl
@[simp] theorem State.setOwn_chans (i : Nat) (b : Byte) : (s.setOwn i b).chans = s.chans := rfl
@[simp] theorem State.setOwn_chanSpaces (i : Nat) (b : Byte) : (s.setOwn i b).chanSpaces = s.chanSpaces := rfl
@[simp] theorem State.setOwn_ctxs (i : Nat) (b : Byte) : (s.setOwn i b).ctxs = s.ctxs := rfl
@[simp] theorem State.setOwn_gz (i : Nat) (b : Byte) : (s.setOwn i b).gz = s.gz := rfl
@[simp] theorem State.setOwn_timers (i : Nat) (b : Byte) : (s.setOwn i b).timers = s.timers := rfl
@[simp] theorem State.setOwn_tbAdj (i : Nat) (b : Byte) : (s.setOwn i b).tbAdj = s.tbAdj := rfl
@[simp] theorem State.setOwn_conv (i : Nat) (b : Byte) : (s.setOwn i b).conv = s.conv := rfl
@[simp] theorem State.setOwn_engines (i : Nat) (b : Byte) : (s.setOwn i b).engines = s.engines := rfl
@[simp] theorem State.setOwn_rings (i : Nat) (b : Byte) : (s.setOwn i b).rings = s.rings := rfl
@[simp] theorem State.setOwn_cqs (i : Nat) (b : Byte) : (s.setOwn i b).cqs = s.cqs := rfl
@[simp] theorem State.setOwn_polls (i : Nat) (b : Byte) : (s.setOwn i b).polls = s.polls := rfl
@[simp] theorem State.setOwn_groups (i : Nat) (b : Byte) : (s.setOwn i b).groups = s.groups := rfl
@[simp] theorem State.setOwn_own (i : Nat) (b : Byte) : (s.setOwn i b).own = mset s.own i b := rfl
@[simp] theorem State.setOwn_fill (i : Nat) (b : Byte) : (s.setOwn i b).fill = s.fill := rfl
@[simp] theorem State.setOwn_fDirty (i : Nat) (b : Byte) : (s.setOwn i b).fDirty = s.fDirty := rfl
@[simp] theorem State.setOwn_qDirty (i : Nat) (b : Byte) : (s.setOwn i b).qDirty = s.qDirty := rfl
@[simp] theorem State.setOwn_copies (i : Nat) (b : Byte) : (s.setOwn i b).copies = s.copies := rfl
@[simp] theorem State.setOwn_copyFree (i : Nat) (b : Byte) : (s.setOwn i b).copyFree = s.copyFree := rfl
@[simp] theorem State.setOwn_edits (i : Nat) (b : Byte) : (s.setOwn i b).edits = s.edits := rfl
@[simp] theorem State.setOwn_cans (i : Nat) (b : Byte) : (s.setOwn i b).cans = s.cans := rfl
@[simp] theorem State.setOwn_links (i : Nat) (b : Byte) : (s.setOwn i b).links = s.links := rfl
@[simp] theorem State.setOwn_fed (i : Nat) (b : Byte) : (s.setOwn i b).fed = s.fed := rfl
@[simp] theorem State.setOwn_mirror (i : Nat) (b : Byte) : (s.setOwn i b).mirror = s.mirror := rfl
@[simp] theorem State.setOwn_upd (i : Nat) (b : Byte) : (s.setOwn i b).upd = s.upd := rfl
@[simp] theorem State.setOwn_tap (i : Nat) (b : Byte) : (s.setOwn i b).tap = s.tap := rfl
@[simp] theorem State.setOwn_windows (i : Nat) (b : Byte) : (s.setOwn i b).windows = s.windows := rfl
@[simp] theorem State.setOwn_pausedWin (i : Nat) (b : Byte) : (s.setOwn i b).pausedWin = s.pausedWin := rfl
@[simp] theorem State.setOwn_fioIn (i : Nat) (b : Byte) : (s.setOwn i b).fioIn = s.fioIn := rfl
@[simp] theorem State.setOwn_finPin (i : Nat) (b : Byte) : (s.setOwn i b).finPin = s.finPin := rfl
@[simp] theorem State.setOwn_faultIn (i : Nat) (b : Byte) : (s.setOwn i b).faultIn = s.faultIn := rfl
@[simp] theorem State.setOwn_faultSeq (i : Nat) (b : Byte) : (s.setOwn i b).faultSeq = s.faultSeq := rfl
@[simp] theorem State.setOwn_faultOut (i : Nat) (b : Byte) : (s.setOwn i b).faultOut = s.faultOut := rfl
@[simp] theorem State.setOwn_faultHeld (i : Nat) (b : Byte) : (s.setOwn i b).faultHeld = s.faultHeld := rfl
@[simp] theorem State.setOwn_wakes (i : Nat) (b : Byte) : (s.setOwn i b).wakes = s.wakes := rfl
@[simp] theorem State.setOwn_pending (i : Nat) (b : Byte) : (s.setOwn i b).pending = s.pending := rfl
@[simp] theorem State.setOwn_freeCtr (i : Nat) (b : Byte) : (s.setOwn i b).freeCtr = s.freeCtr := rfl

/-! ### putNum -/

@[simp] theorem State.putNum_build (a n v : Nat) : (s.putNum a n v).build = s.build := rfl
@[simp] theorem State.putNum_regs (a n v : Nat) : (s.putNum a n v).regs = s.regs := rfl
@[simp] theorem State.putNum_mem (a n v : Nat) : (s.putNum a n v).mem = memPut s.mem a (leBytes n v) := rfl
@[simp] theorem State.putNum_ecc (a n v : Nat) : (s.putNum a n v).ecc = s.ecc := rfl
@[simp] theorem State.putNum_writeBacks (a n v : Nat) : (s.putNum a n v).writeBacks = s.writeBacks := rfl
@[simp] theorem State.putNum_dmaLast (a n v : Nat) : (s.putNum a n v).dmaLast = s.dmaLast := rfl
@[simp] theorem State.putNum_clk (a n v : Nat) : (s.putNum a n v).clk = s.clk := rfl
@[simp] theorem State.putNum_pds (a n v : Nat) : (s.putNum a n v).pds = s.pds := rfl
@[simp] theorem State.putNum_entry (a n v : Nat) : (s.putNum a n v).entry = s.entry := rfl
@[simp] theorem State.putNum_clears (a n v : Nat) : (s.putNum a n v).clears = s.clears := rfl
@[simp] theorem State.putNum_opened (a n v : Nat) : (s.putNum a n v).opened = s.opened := rfl
@[simp] theorem State.putNum_budget (a n v : Nat) : (s.putNum a n v).budget = s.budget := rfl
@[simp] theorem State.putNum_apWait (a n v : Nat) : (s.putNum a n v).apWait = s.apWait := rfl
@[simp] theorem State.putNum_apHeld (a n v : Nat) : (s.putNum a n v).apHeld = s.apHeld := rfl
@[simp] theorem State.putNum_apDrawn (a n v : Nat) : (s.putNum a n v).apDrawn = s.apDrawn := rfl
@[simp] theorem State.putNum_resp (a n v : Nat) : (s.putNum a n v).resp = s.resp := rfl
@[simp] theorem State.putNum_ports (a n v : Nat) : (s.putNum a n v).ports = s.ports := rfl
@[simp] theorem State.putNum_tiles (a n v : Nat) : (s.putNum a n v).tiles = s.tiles := rfl
@[simp] theorem State.putNum_threads (a n v : Nat) : (s.putNum a n v).threads = s.threads := rfl
@[simp] theorem State.putNum_chans (a n v : Nat) : (s.putNum a n v).chans = s.chans := rfl
@[simp] theorem State.putNum_chanSpaces (a n v : Nat) : (s.putNum a n v).chanSpaces = s.chanSpaces := rfl
@[simp] theorem State.putNum_ctxs (a n v : Nat) : (s.putNum a n v).ctxs = s.ctxs := rfl
@[simp] theorem State.putNum_gz (a n v : Nat) : (s.putNum a n v).gz = s.gz := rfl
@[simp] theorem State.putNum_timers (a n v : Nat) : (s.putNum a n v).timers = s.timers := rfl
@[simp] theorem State.putNum_tbAdj (a n v : Nat) : (s.putNum a n v).tbAdj = s.tbAdj := rfl
@[simp] theorem State.putNum_conv (a n v : Nat) : (s.putNum a n v).conv = s.conv := rfl
@[simp] theorem State.putNum_engines (a n v : Nat) : (s.putNum a n v).engines = s.engines := rfl
@[simp] theorem State.putNum_rings (a n v : Nat) : (s.putNum a n v).rings = s.rings := rfl
@[simp] theorem State.putNum_cqs (a n v : Nat) : (s.putNum a n v).cqs = s.cqs := rfl
@[simp] theorem State.putNum_polls (a n v : Nat) : (s.putNum a n v).polls = s.polls := rfl
@[simp] theorem State.putNum_groups (a n v : Nat) : (s.putNum a n v).groups = s.groups := rfl
@[simp] theorem State.putNum_own (a n v : Nat) : (s.putNum a n v).own = s.own := rfl
@[simp] theorem State.putNum_fill (a n v : Nat) : (s.putNum a n v).fill = s.fill := rfl
@[simp] theorem State.putNum_fDirty (a n v : Nat) : (s.putNum a n v).fDirty = s.fDirty := rfl
@[simp] theorem State.putNum_qDirty (a n v : Nat) : (s.putNum a n v).qDirty = s.qDirty := rfl
@[simp] theorem State.putNum_copies (a n v : Nat) : (s.putNum a n v).copies = s.copies := rfl
@[simp] theorem State.putNum_copyFree (a n v : Nat) : (s.putNum a n v).copyFree = s.copyFree := rfl
@[simp] theorem State.putNum_edits (a n v : Nat) : (s.putNum a n v).edits = s.edits := rfl
@[simp] theorem State.putNum_cans (a n v : Nat) : (s.putNum a n v).cans = s.cans := rfl
@[simp] theorem State.putNum_links (a n v : Nat) : (s.putNum a n v).links = s.links := rfl
@[simp] theorem State.putNum_fed (a n v : Nat) : (s.putNum a n v).fed = s.fed := rfl
@[simp] theorem State.putNum_mirror (a n v : Nat) : (s.putNum a n v).mirror = s.mirror := rfl
@[simp] theorem State.putNum_upd (a n v : Nat) : (s.putNum a n v).upd = s.upd := rfl
@[simp] theorem State.putNum_tap (a n v : Nat) : (s.putNum a n v).tap = s.tap := rfl
@[simp] theorem State.putNum_windows (a n v : Nat) : (s.putNum a n v).windows = s.windows := rfl
@[simp] theorem State.putNum_pausedWin (a n v : Nat) : (s.putNum a n v).pausedWin = s.pausedWin := rfl
@[simp] theorem State.putNum_fioIn (a n v : Nat) : (s.putNum a n v).fioIn = s.fioIn := rfl
@[simp] theorem State.putNum_finPin (a n v : Nat) : (s.putNum a n v).finPin = s.finPin := rfl
@[simp] theorem State.putNum_faultIn (a n v : Nat) : (s.putNum a n v).faultIn = s.faultIn := rfl
@[simp] theorem State.putNum_faultSeq (a n v : Nat) : (s.putNum a n v).faultSeq = s.faultSeq := rfl
@[simp] theorem State.putNum_faultOut (a n v : Nat) : (s.putNum a n v).faultOut = s.faultOut := rfl
@[simp] theorem State.putNum_faultHeld (a n v : Nat) : (s.putNum a n v).faultHeld = s.faultHeld := rfl
@[simp] theorem State.putNum_wakes (a n v : Nat) : (s.putNum a n v).wakes = s.wakes := rfl
@[simp] theorem State.putNum_pending (a n v : Nat) : (s.putNum a n v).pending = s.pending := rfl
@[simp] theorem State.putNum_freeCtr (a n v : Nat) : (s.putNum a n v).freeCtr = s.freeCtr := rfl

/-! ### respond -/

@[simp] theorem State.respond_build (p : Nat) (c : RespCode) (d : Option DWord) : (s.respond p c d).build = s.build := rfl
@[simp] theorem State.respond_regs (p : Nat) (c : RespCode) (d : Option DWord) : (s.respond p c d).regs = s.regs := rfl
@[simp] theorem State.respond_mem (p : Nat) (c : RespCode) (d : Option DWord) : (s.respond p c d).mem = s.mem := rfl
@[simp] theorem State.respond_ecc (p : Nat) (c : RespCode) (d : Option DWord) : (s.respond p c d).ecc = s.ecc := rfl
@[simp] theorem State.respond_writeBacks (p : Nat) (c : RespCode) (d : Option DWord) : (s.respond p c d).writeBacks = s.writeBacks := rfl
@[simp] theorem State.respond_dmaLast (p : Nat) (c : RespCode) (d : Option DWord) : (s.respond p c d).dmaLast = s.dmaLast := rfl
@[simp] theorem State.respond_clk (p : Nat) (c : RespCode) (d : Option DWord) : (s.respond p c d).clk = s.clk := rfl
@[simp] theorem State.respond_pds (p : Nat) (c : RespCode) (d : Option DWord) : (s.respond p c d).pds = s.pds := rfl
@[simp] theorem State.respond_entry (p : Nat) (c : RespCode) (d : Option DWord) : (s.respond p c d).entry = s.entry := rfl
@[simp] theorem State.respond_clears (p : Nat) (c : RespCode) (d : Option DWord) : (s.respond p c d).clears = s.clears := rfl
@[simp] theorem State.respond_opened (p : Nat) (c : RespCode) (d : Option DWord) : (s.respond p c d).opened = s.opened := rfl
@[simp] theorem State.respond_budget (p : Nat) (c : RespCode) (d : Option DWord) : (s.respond p c d).budget = s.budget := rfl
@[simp] theorem State.respond_apWait (p : Nat) (c : RespCode) (d : Option DWord) : (s.respond p c d).apWait = s.apWait := rfl
@[simp] theorem State.respond_apHeld (p : Nat) (c : RespCode) (d : Option DWord) : (s.respond p c d).apHeld = s.apHeld := rfl
@[simp] theorem State.respond_apDrawn (p : Nat) (c : RespCode) (d : Option DWord) : (s.respond p c d).apDrawn = s.apDrawn := rfl
@[simp] theorem State.respond_resp (p : Nat) (c : RespCode) (d : Option DWord) : (s.respond p c d).resp = mset s.resp p ⟨c, d⟩ := rfl
@[simp] theorem State.respond_ports (p : Nat) (c : RespCode) (d : Option DWord) : (s.respond p c d).ports = s.ports := rfl
@[simp] theorem State.respond_tiles (p : Nat) (c : RespCode) (d : Option DWord) : (s.respond p c d).tiles = s.tiles := rfl
@[simp] theorem State.respond_threads (p : Nat) (c : RespCode) (d : Option DWord) : (s.respond p c d).threads = s.threads := rfl
@[simp] theorem State.respond_chans (p : Nat) (c : RespCode) (d : Option DWord) : (s.respond p c d).chans = s.chans := rfl
@[simp] theorem State.respond_chanSpaces (p : Nat) (c : RespCode) (d : Option DWord) : (s.respond p c d).chanSpaces = s.chanSpaces := rfl
@[simp] theorem State.respond_ctxs (p : Nat) (c : RespCode) (d : Option DWord) : (s.respond p c d).ctxs = s.ctxs := rfl
@[simp] theorem State.respond_gz (p : Nat) (c : RespCode) (d : Option DWord) : (s.respond p c d).gz = s.gz := rfl
@[simp] theorem State.respond_timers (p : Nat) (c : RespCode) (d : Option DWord) : (s.respond p c d).timers = s.timers := rfl
@[simp] theorem State.respond_tbAdj (p : Nat) (c : RespCode) (d : Option DWord) : (s.respond p c d).tbAdj = s.tbAdj := rfl
@[simp] theorem State.respond_conv (p : Nat) (c : RespCode) (d : Option DWord) : (s.respond p c d).conv = s.conv := rfl
@[simp] theorem State.respond_engines (p : Nat) (c : RespCode) (d : Option DWord) : (s.respond p c d).engines = s.engines := rfl
@[simp] theorem State.respond_rings (p : Nat) (c : RespCode) (d : Option DWord) : (s.respond p c d).rings = s.rings := rfl
@[simp] theorem State.respond_cqs (p : Nat) (c : RespCode) (d : Option DWord) : (s.respond p c d).cqs = s.cqs := rfl
@[simp] theorem State.respond_polls (p : Nat) (c : RespCode) (d : Option DWord) : (s.respond p c d).polls = s.polls := rfl
@[simp] theorem State.respond_groups (p : Nat) (c : RespCode) (d : Option DWord) : (s.respond p c d).groups = s.groups := rfl
@[simp] theorem State.respond_own (p : Nat) (c : RespCode) (d : Option DWord) : (s.respond p c d).own = s.own := rfl
@[simp] theorem State.respond_fill (p : Nat) (c : RespCode) (d : Option DWord) : (s.respond p c d).fill = s.fill := rfl
@[simp] theorem State.respond_fDirty (p : Nat) (c : RespCode) (d : Option DWord) : (s.respond p c d).fDirty = s.fDirty := rfl
@[simp] theorem State.respond_qDirty (p : Nat) (c : RespCode) (d : Option DWord) : (s.respond p c d).qDirty = s.qDirty := rfl
@[simp] theorem State.respond_copies (p : Nat) (c : RespCode) (d : Option DWord) : (s.respond p c d).copies = s.copies := rfl
@[simp] theorem State.respond_copyFree (p : Nat) (c : RespCode) (d : Option DWord) : (s.respond p c d).copyFree = s.copyFree := rfl
@[simp] theorem State.respond_edits (p : Nat) (c : RespCode) (d : Option DWord) : (s.respond p c d).edits = s.edits := rfl
@[simp] theorem State.respond_cans (p : Nat) (c : RespCode) (d : Option DWord) : (s.respond p c d).cans = s.cans := rfl
@[simp] theorem State.respond_links (p : Nat) (c : RespCode) (d : Option DWord) : (s.respond p c d).links = s.links := rfl
@[simp] theorem State.respond_fed (p : Nat) (c : RespCode) (d : Option DWord) : (s.respond p c d).fed = s.fed := rfl
@[simp] theorem State.respond_mirror (p : Nat) (c : RespCode) (d : Option DWord) : (s.respond p c d).mirror = s.mirror := rfl
@[simp] theorem State.respond_upd (p : Nat) (c : RespCode) (d : Option DWord) : (s.respond p c d).upd = s.upd := rfl
@[simp] theorem State.respond_tap (p : Nat) (c : RespCode) (d : Option DWord) : (s.respond p c d).tap = s.tap := rfl
@[simp] theorem State.respond_windows (p : Nat) (c : RespCode) (d : Option DWord) : (s.respond p c d).windows = s.windows := rfl
@[simp] theorem State.respond_pausedWin (p : Nat) (c : RespCode) (d : Option DWord) : (s.respond p c d).pausedWin = s.pausedWin := rfl
@[simp] theorem State.respond_fioIn (p : Nat) (c : RespCode) (d : Option DWord) : (s.respond p c d).fioIn = s.fioIn := rfl
@[simp] theorem State.respond_finPin (p : Nat) (c : RespCode) (d : Option DWord) : (s.respond p c d).finPin = s.finPin := rfl
@[simp] theorem State.respond_faultIn (p : Nat) (c : RespCode) (d : Option DWord) : (s.respond p c d).faultIn = s.faultIn := rfl
@[simp] theorem State.respond_faultSeq (p : Nat) (c : RespCode) (d : Option DWord) : (s.respond p c d).faultSeq = s.faultSeq := rfl
@[simp] theorem State.respond_faultOut (p : Nat) (c : RespCode) (d : Option DWord) : (s.respond p c d).faultOut = s.faultOut := rfl
@[simp] theorem State.respond_faultHeld (p : Nat) (c : RespCode) (d : Option DWord) : (s.respond p c d).faultHeld = s.faultHeld := rfl
@[simp] theorem State.respond_wakes (p : Nat) (c : RespCode) (d : Option DWord) : (s.respond p c d).wakes = s.wakes := rfl
@[simp] theorem State.respond_pending (p : Nat) (c : RespCode) (d : Option DWord) : (s.respond p c d).pending = s.pending := rfl
@[simp] theorem State.respond_freeCtr (p : Nat) (c : RespCode) (d : Option DWord) : (s.respond p c d).freeCtr = s.freeCtr := rfl

/-! ### What a part reads after an update -/

@[simp] theorem State.rd_wr (r q : Reg) (v : Word) : (s.wr r v).rd q = if q = r then v else s.rd q := by
  simp only [State.rd, State.wr_regs, mget_mset]

@[simp] theorem State.rd_setCtx (t c : Nat) (x : Ctx) (ρ : Reg) : (s.setCtx t c x).rd ρ = s.rd ρ := rfl
@[simp] theorem State.flag_setCtx (t c : Nat) (x : Ctx) (ρ : Reg) (j : Nat) : (s.setCtx t c x).flag ρ j = s.flag ρ j := rfl
@[simp] theorem State.field_setCtx (t c : Nat) (x : Ctx) (ρ : Reg) (lo k : Nat) : (s.setCtx t c x).field ρ lo k = s.field ρ lo k := rfl
@[simp] theorem State.rd_setPd (d : Nat) (x : Domain) (ρ : Reg) : (s.setPd d x).rd ρ = s.rd ρ := rfl
@[simp] theorem State.flag_setPd (d : Nat) (x : Domain) (ρ : Reg) (j : Nat) : (s.setPd d x).flag ρ j = s.flag ρ j := rfl
@[simp] theorem State.field_setPd (d : Nat) (x : Domain) (ρ : Reg) (lo k : Nat) : (s.setPd d x).field ρ lo k = s.field ρ lo k := rfl
@[simp] theorem State.rd_setPort (p : Nat) (x : PortM) (ρ : Reg) : (s.setPort p x).rd ρ = s.rd ρ := rfl
@[simp] theorem State.flag_setPort (p : Nat) (x : PortM) (ρ : Reg) (j : Nat) : (s.setPort p x).flag ρ j = s.flag ρ j := rfl
@[simp] theorem State.field_setPort (p : Nat) (x : PortM) (ρ : Reg) (lo k : Nat) : (s.setPort p x).field ρ lo k = s.field ρ lo k := rfl
@[simp] theorem State.rd_setTile (t : Nat) (x : Tile) (ρ : Reg) : (s.setTile t x).rd ρ = s.rd ρ := rfl
@[simp] theorem State.flag_setTile (t : Nat) (x : Tile) (ρ : Reg) (j : Nat) : (s.setTile t x).flag ρ j = s.flag ρ j := rfl
@[simp] theorem State.field_setTile (t : Nat) (x : Tile) (ρ : Reg) (lo k : Nat) : (s.setTile t x).field ρ lo k = s.field ρ lo k := rfl
@[simp] theorem State.rd_setThread (t n : Nat) (x : Thread) (ρ : Reg) : (s.setThread t n x).rd ρ = s.rd ρ := rfl
@[simp] theorem State.flag_setThread (t n : Nat) (x : Thread) (ρ : Reg) (j : Nat) : (s.setThread t n x).flag ρ j = s.flag ρ j := rfl
@[simp] theorem State.field_setThread (t n : Nat) (x : Thread) (ρ : Reg) (lo k : Nat) : (s.setThread t n x).field ρ lo k = s.field ρ lo k := rfl
@[simp] theorem State.rd_setChan (c : ChanId) (x : Chan) (ρ : Reg) : (s.setChan c x).rd ρ = s.rd ρ := rfl
@[simp] theorem State.flag_setChan (c : ChanId) (x : Chan) (ρ : Reg) (j : Nat) : (s.setChan c x).flag ρ j = s.flag ρ j := rfl
@[simp] theorem State.field_setChan (c : ChanId) (x : Chan) (ρ : Reg) (lo k : Nat) : (s.setChan c x).field ρ lo k = s.field ρ lo k := rfl
@[simp] theorem State.rd_setTimer (n : Nat) (x : Timer) (ρ : Reg) : (s.setTimer n x).rd ρ = s.rd ρ := rfl
@[simp] theorem State.flag_setTimer (n : Nat) (x : Timer) (ρ : Reg) (j : Nat) : (s.setTimer n x).flag ρ j = s.flag ρ j := rfl
@[simp] theorem State.field_setTimer (n : Nat) (x : Timer) (ρ : Reg) (lo k : Nat) : (s.setTimer n x).field ρ lo k = s.field ρ lo k := rfl
@[simp] theorem State.rd_setEngine (t e : Nat) (x : Engine) (ρ : Reg) : (s.setEngine t e x).rd ρ = s.rd ρ := rfl
@[simp] theorem State.flag_setEngine (t e : Nat) (x : Engine) (ρ : Reg) (j : Nat) : (s.setEngine t e x).flag ρ j = s.flag ρ j := rfl
@[simp] theorem State.field_setEngine (t e : Nat) (x : Engine) (ρ : Reg) (lo k : Nat) : (s.setEngine t e x).field ρ lo k = s.field ρ lo k := rfl
@[simp] theorem State.rd_setRing (p r : Nat) (x : Ring) (ρ : Reg) : (s.setRing p r x).rd ρ = s.rd ρ := rfl
@[simp] theorem State.flag_setRing (p r : Nat) (x : Ring) (ρ : Reg) (j : Nat) : (s.setRing p r x).flag ρ j = s.flag ρ j := rfl
@[simp] theorem State.field_setRing (p r : Nat) (x : Ring) (ρ : Reg) (lo k : Nat) : (s.setRing p r x).field ρ lo k = s.field ρ lo k := rfl
@[simp] theorem State.rd_setCq (p q : Nat) (x : Cq) (ρ : Reg) : (s.setCq p q x).rd ρ = s.rd ρ := rfl
@[simp] theorem State.flag_setCq (p q : Nat) (x : Cq) (ρ : Reg) (j : Nat) : (s.setCq p q x).flag ρ j = s.flag ρ j := rfl
@[simp] theorem State.field_setCq (p q : Nat) (x : Cq) (ρ : Reg) (lo k : Nat) : (s.setCq p q x).field ρ lo k = s.field ρ lo k := rfl
@[simp] theorem State.rd_setPoll (p : Nat) (x : Poll) (ρ : Reg) : (s.setPoll p x).rd ρ = s.rd ρ := rfl
@[simp] theorem State.flag_setPoll (p : Nat) (x : Poll) (ρ : Reg) (j : Nat) : (s.setPoll p x).flag ρ j = s.flag ρ j := rfl
@[simp] theorem State.field_setPoll (p : Nat) (x : Poll) (ρ : Reg) (lo k : Nat) : (s.setPoll p x).field ρ lo k = s.field ρ lo k := rfl
@[simp] theorem State.rd_setGroup (g : Nat) (x : Group) (ρ : Reg) : (s.setGroup g x).rd ρ = s.rd ρ := rfl
@[simp] theorem State.flag_setGroup (g : Nat) (x : Group) (ρ : Reg) (j : Nat) : (s.setGroup g x).flag ρ j = s.flag ρ j := rfl
@[simp] theorem State.field_setGroup (g : Nat) (x : Group) (ρ : Reg) (lo k : Nat) : (s.setGroup g x).field ρ lo k = s.field ρ lo k := rfl
@[simp] theorem State.rd_setCan (c : Nat) (x : Can) (ρ : Reg) : (s.setCan c x).rd ρ = s.rd ρ := rfl
@[simp] theorem State.flag_setCan (c : Nat) (x : Can) (ρ : Reg) (j : Nat) : (s.setCan c x).flag ρ j = s.flag ρ j := rfl
@[simp] theorem State.field_setCan (c : Nat) (x : Can) (ρ : Reg) (lo k : Nat) : (s.setCan c x).field ρ lo k = s.field ρ lo k := rfl
@[simp] theorem State.rd_setLink (n : Nat) (x : Link) (ρ : Reg) : (s.setLink n x).rd ρ = s.rd ρ := rfl
@[simp] theorem State.flag_setLink (n : Nat) (x : Link) (ρ : Reg) (j : Nat) : (s.setLink n x).flag ρ j = s.flag ρ j := rfl
@[simp] theorem State.field_setLink (n : Nat) (x : Link) (ρ : Reg) (lo k : Nat) : (s.setLink n x).field ρ lo k = s.field ρ lo k := rfl
@[simp] theorem State.rd_setEdit (g : Nat) (x : Edit) (ρ : Reg) : (s.setEdit g x).rd ρ = s.rd ρ := rfl
@[simp] theorem State.flag_setEdit (g : Nat) (x : Edit) (ρ : Reg) (j : Nat) : (s.setEdit g x).flag ρ j = s.flag ρ j := rfl
@[simp] theorem State.field_setEdit (g : Nat) (x : Edit) (ρ : Reg) (lo k : Nat) : (s.setEdit g x).field ρ lo k = s.field ρ lo k := rfl
@[simp] theorem State.rd_setOwn (i : Nat) (b : Byte) (ρ : Reg) : (s.setOwn i b).rd ρ = s.rd ρ := rfl
@[simp] theorem State.flag_setOwn (i : Nat) (b : Byte) (ρ : Reg) (j : Nat) : (s.setOwn i b).flag ρ j = s.flag ρ j := rfl
@[simp] theorem State.field_setOwn (i : Nat) (b : Byte) (ρ : Reg) (lo k : Nat) : (s.setOwn i b).field ρ lo k = s.field ρ lo k := rfl
@[simp] theorem State.rd_putNum (a n v : Nat) (ρ : Reg) : (s.putNum a n v).rd ρ = s.rd ρ := rfl
@[simp] theorem State.flag_putNum (a n v : Nat) (ρ : Reg) (j : Nat) : (s.putNum a n v).flag ρ j = s.flag ρ j := rfl
@[simp] theorem State.field_putNum (a n v : Nat) (ρ : Reg) (lo k : Nat) : (s.putNum a n v).field ρ lo k = s.field ρ lo k := rfl
@[simp] theorem State.rd_respond (p : Nat) (c : RespCode) (d : Option DWord) (ρ : Reg) : (s.respond p c d).rd ρ = s.rd ρ := rfl
@[simp] theorem State.flag_respond (p : Nat) (c : RespCode) (d : Option DWord) (ρ : Reg) (j : Nat) : (s.respond p c d).flag ρ j = s.flag ρ j := rfl
@[simp] theorem State.field_respond (p : Nat) (c : RespCode) (d : Option DWord) (ρ : Reg) (lo k : Nat) : (s.respond p c d).field ρ lo k = s.field ρ lo k := rfl

@[simp] theorem State.ctx_setCtx (t c : Nat) (x : Ctx) (t' c' : Nat) :
    (s.setCtx t c x).ctx t' c' = if (t', c') = (t, c) then x else s.ctx t' c' := by
  simp only [State.ctx, State.setCtx_ctxs, mget_mset]
@[simp] theorem State.pd_setPd (d : Nat) (x : Domain) (d' : Nat) :
    (s.setPd d x).pd d' = if d' = d then x else s.pd d' := by
  simp only [State.pd, State.setPd_pds, mget_mset]
@[simp] theorem State.port_setPort (p : Nat) (x : PortM) (p' : Nat) :
    (s.setPort p x).port p' = if p' = p then x else s.port p' := by
  simp only [State.port, State.setPort_ports, mget_mset]
@[simp] theorem State.tile_setTile (t : Nat) (x : Tile) (t' : Nat) :
    (s.setTile t x).tile t' = if t' = t then x else s.tile t' := by
  simp only [State.tile, State.setTile_tiles, mget_mset]
@[simp] theorem State.thread_setThread (t n : Nat) (x : Thread) (t' n' : Nat) :
    (s.setThread t n x).thread t' n' = if (t', n') = (t, n) then x else s.thread t' n' := by
  simp only [State.thread, State.setThread_threads, mget_mset]
@[simp] theorem State.chan_setChan (c : ChanId) (x : Chan) (c' : ChanId) :
    (s.setChan c x).chan c' = if c' = c then x else s.chan c' := by
  simp only [State.chan, State.setChan_chans, mget_mset]
@[simp] theorem State.timer_setTimer (n : Nat) (x : Timer) (n' : Nat) :
    (s.setTimer n x).timer n' = if n' = n then x else s.timer n' := by
  simp only [State.timer, State.setTimer_timers, mget_mset]
@[simp] theorem State.engine_setEngine (t e : Nat) (x : Engine) (t' e' : Nat) :
    (s.setEngine t e x).engine t' e' = if (t', e') = (t, e) then x else s.engine t' e' := by
  simp only [State.engine, State.setEngine_engines, mget_mset]
@[simp] theorem State.ring_setRing (p r : Nat) (x : Ring) (p' r' : Nat) :
    (s.setRing p r x).ring p' r' = if (p', r') = (p, r) then x else s.ring p' r' := by
  simp only [State.ring, State.setRing_rings, mget_mset]
@[simp] theorem State.cq_setCq (p q : Nat) (x : Cq) (p' q' : Nat) :
    (s.setCq p q x).cq p' q' = if (p', q') = (p, q) then x else s.cq p' q' := by
  simp only [State.cq, State.setCq_cqs, mget_mset]
@[simp] theorem State.poll_setPoll (p : Nat) (x : Poll) (p' : Nat) :
    (s.setPoll p x).poll p' = if p' = p then x else s.poll p' := by
  simp only [State.poll, State.setPoll_polls, mget_mset]
@[simp] theorem State.group_setGroup (g : Nat) (x : Group) (g' : Nat) :
    (s.setGroup g x).group g' = if g' = g then x else s.group g' := by
  simp only [State.group, State.setGroup_groups, mget_mset]
@[simp] theorem State.can_setCan (c : Nat) (x : Can) (c' : Nat) :
    (s.setCan c x).can c' = if c' = c then x else s.can c' := by
  simp only [State.can, State.setCan_cans, mget_mset]
@[simp] theorem State.link_setLink (n : Nat) (x : Link) (n' : Nat) :
    (s.setLink n x).link n' = if n' = n then x else s.link n' := by
  simp only [State.link, State.setLink_links, mget_mset]
@[simp] theorem State.edit_setEdit (g : Nat) (x : Edit) (g' : Nat) :
    (s.setEdit g x).edit g' = if g' = g then x else s.edit g' := by
  simp only [State.edit, State.setEdit_edits, mget_mset]
@[simp] theorem State.ownAt_setOwn (i : Nat) (b : Byte) (i' : Nat) :
    (s.setOwn i b).ownAt i' = if i' = i then b else s.ownAt i' := by
  simp only [State.ownAt, State.setOwn_own, mget_mset]

@[simp] theorem State.ctx_wr (r : Reg) (v : Word) (t₁ c₁ : Nat) : (s.wr r v).ctx t₁ c₁ = s.ctx t₁ c₁ := rfl
@[simp] theorem State.pd_wr (r : Reg) (v : Word) (d₁ : Nat) : (s.wr r v).pd d₁ = s.pd d₁ := rfl
@[simp] theorem State.port_wr (r : Reg) (v : Word) (p₁ : Nat) : (s.wr r v).port p₁ = s.port p₁ := rfl
@[simp] theorem State.tile_wr (r : Reg) (v : Word) (t₁ : Nat) : (s.wr r v).tile t₁ = s.tile t₁ := rfl
@[simp] theorem State.thread_wr (r : Reg) (v : Word) (t₁ n₁ : Nat) : (s.wr r v).thread t₁ n₁ = s.thread t₁ n₁ := rfl
@[simp] theorem State.chan_wr (r : Reg) (v : Word) (c₁ : ChanId) : (s.wr r v).chan c₁ = s.chan c₁ := rfl
@[simp] theorem State.timer_wr (r : Reg) (v : Word) (n₁ : Nat) : (s.wr r v).timer n₁ = s.timer n₁ := rfl
@[simp] theorem State.engine_wr (r : Reg) (v : Word) (t₁ e₁ : Nat) : (s.wr r v).engine t₁ e₁ = s.engine t₁ e₁ := rfl
@[simp] theorem State.ring_wr (r : Reg) (v : Word) (p₁ r₁ : Nat) : (s.wr r v).ring p₁ r₁ = s.ring p₁ r₁ := rfl
@[simp] theorem State.cq_wr (r : Reg) (v : Word) (p₁ q₁ : Nat) : (s.wr r v).cq p₁ q₁ = s.cq p₁ q₁ := rfl
@[simp] theorem State.poll_wr (r : Reg) (v : Word) (p₁ : Nat) : (s.wr r v).poll p₁ = s.poll p₁ := rfl
@[simp] theorem State.group_wr (r : Reg) (v : Word) (g₁ : Nat) : (s.wr r v).group g₁ = s.group g₁ := rfl
@[simp] theorem State.can_wr (r : Reg) (v : Word) (c₁ : Nat) : (s.wr r v).can c₁ = s.can c₁ := rfl
@[simp] theorem State.link_wr (r : Reg) (v : Word) (n₁ : Nat) : (s.wr r v).link n₁ = s.link n₁ := rfl
@[simp] theorem State.edit_wr (r : Reg) (v : Word) (g₁ : Nat) : (s.wr r v).edit g₁ = s.edit g₁ := rfl
@[simp] theorem State.ownAt_wr (r : Reg) (v : Word) (i₁ : Nat) : (s.wr r v).ownAt i₁ = s.ownAt i₁ := rfl
@[simp] theorem State.ctx_resetRegs (p : Reg → Bool) (t₁ c₁ : Nat) : (s.resetRegs p).ctx t₁ c₁ = s.ctx t₁ c₁ := rfl
@[simp] theorem State.pd_resetRegs (p : Reg → Bool) (d₁ : Nat) : (s.resetRegs p).pd d₁ = s.pd d₁ := rfl
@[simp] theorem State.port_resetRegs (p : Reg → Bool) (p₁ : Nat) : (s.resetRegs p).port p₁ = s.port p₁ := rfl
@[simp] theorem State.tile_resetRegs (p : Reg → Bool) (t₁ : Nat) : (s.resetRegs p).tile t₁ = s.tile t₁ := rfl
@[simp] theorem State.thread_resetRegs (p : Reg → Bool) (t₁ n₁ : Nat) : (s.resetRegs p).thread t₁ n₁ = s.thread t₁ n₁ := rfl
@[simp] theorem State.chan_resetRegs (p : Reg → Bool) (c₁ : ChanId) : (s.resetRegs p).chan c₁ = s.chan c₁ := rfl
@[simp] theorem State.timer_resetRegs (p : Reg → Bool) (n₁ : Nat) : (s.resetRegs p).timer n₁ = s.timer n₁ := rfl
@[simp] theorem State.engine_resetRegs (p : Reg → Bool) (t₁ e₁ : Nat) : (s.resetRegs p).engine t₁ e₁ = s.engine t₁ e₁ := rfl
@[simp] theorem State.ring_resetRegs (p : Reg → Bool) (p₁ r₁ : Nat) : (s.resetRegs p).ring p₁ r₁ = s.ring p₁ r₁ := rfl
@[simp] theorem State.cq_resetRegs (p : Reg → Bool) (p₁ q₁ : Nat) : (s.resetRegs p).cq p₁ q₁ = s.cq p₁ q₁ := rfl
@[simp] theorem State.poll_resetRegs (p : Reg → Bool) (p₁ : Nat) : (s.resetRegs p).poll p₁ = s.poll p₁ := rfl
@[simp] theorem State.group_resetRegs (p : Reg → Bool) (g₁ : Nat) : (s.resetRegs p).group g₁ = s.group g₁ := rfl
@[simp] theorem State.can_resetRegs (p : Reg → Bool) (c₁ : Nat) : (s.resetRegs p).can c₁ = s.can c₁ := rfl
@[simp] theorem State.link_resetRegs (p : Reg → Bool) (n₁ : Nat) : (s.resetRegs p).link n₁ = s.link n₁ := rfl
@[simp] theorem State.edit_resetRegs (p : Reg → Bool) (g₁ : Nat) : (s.resetRegs p).edit g₁ = s.edit g₁ := rfl
@[simp] theorem State.ownAt_resetRegs (p : Reg → Bool) (i₁ : Nat) : (s.resetRegs p).ownAt i₁ = s.ownAt i₁ := rfl
@[simp] theorem State.pd_setCtx (t c : Nat) (x : Ctx) (d₁ : Nat) : (s.setCtx t c x).pd d₁ = s.pd d₁ := rfl
@[simp] theorem State.port_setCtx (t c : Nat) (x : Ctx) (p₁ : Nat) : (s.setCtx t c x).port p₁ = s.port p₁ := rfl
@[simp] theorem State.tile_setCtx (t c : Nat) (x : Ctx) (t₁ : Nat) : (s.setCtx t c x).tile t₁ = s.tile t₁ := rfl
@[simp] theorem State.thread_setCtx (t c : Nat) (x : Ctx) (t₁ n₁ : Nat) : (s.setCtx t c x).thread t₁ n₁ = s.thread t₁ n₁ := rfl
@[simp] theorem State.chan_setCtx (t c : Nat) (x : Ctx) (c₁ : ChanId) : (s.setCtx t c x).chan c₁ = s.chan c₁ := rfl
@[simp] theorem State.timer_setCtx (t c : Nat) (x : Ctx) (n₁ : Nat) : (s.setCtx t c x).timer n₁ = s.timer n₁ := rfl
@[simp] theorem State.engine_setCtx (t c : Nat) (x : Ctx) (t₁ e₁ : Nat) : (s.setCtx t c x).engine t₁ e₁ = s.engine t₁ e₁ := rfl
@[simp] theorem State.ring_setCtx (t c : Nat) (x : Ctx) (p₁ r₁ : Nat) : (s.setCtx t c x).ring p₁ r₁ = s.ring p₁ r₁ := rfl
@[simp] theorem State.cq_setCtx (t c : Nat) (x : Ctx) (p₁ q₁ : Nat) : (s.setCtx t c x).cq p₁ q₁ = s.cq p₁ q₁ := rfl
@[simp] theorem State.poll_setCtx (t c : Nat) (x : Ctx) (p₁ : Nat) : (s.setCtx t c x).poll p₁ = s.poll p₁ := rfl
@[simp] theorem State.group_setCtx (t c : Nat) (x : Ctx) (g₁ : Nat) : (s.setCtx t c x).group g₁ = s.group g₁ := rfl
@[simp] theorem State.can_setCtx (t c : Nat) (x : Ctx) (c₁ : Nat) : (s.setCtx t c x).can c₁ = s.can c₁ := rfl
@[simp] theorem State.link_setCtx (t c : Nat) (x : Ctx) (n₁ : Nat) : (s.setCtx t c x).link n₁ = s.link n₁ := rfl
@[simp] theorem State.edit_setCtx (t c : Nat) (x : Ctx) (g₁ : Nat) : (s.setCtx t c x).edit g₁ = s.edit g₁ := rfl
@[simp] theorem State.ownAt_setCtx (t c : Nat) (x : Ctx) (i₁ : Nat) : (s.setCtx t c x).ownAt i₁ = s.ownAt i₁ := rfl
@[simp] theorem State.ctx_setPd (d : Nat) (x : Domain) (t₁ c₁ : Nat) : (s.setPd d x).ctx t₁ c₁ = s.ctx t₁ c₁ := rfl
@[simp] theorem State.port_setPd (d : Nat) (x : Domain) (p₁ : Nat) : (s.setPd d x).port p₁ = s.port p₁ := rfl
@[simp] theorem State.tile_setPd (d : Nat) (x : Domain) (t₁ : Nat) : (s.setPd d x).tile t₁ = s.tile t₁ := rfl
@[simp] theorem State.thread_setPd (d : Nat) (x : Domain) (t₁ n₁ : Nat) : (s.setPd d x).thread t₁ n₁ = s.thread t₁ n₁ := rfl
@[simp] theorem State.chan_setPd (d : Nat) (x : Domain) (c₁ : ChanId) : (s.setPd d x).chan c₁ = s.chan c₁ := rfl
@[simp] theorem State.timer_setPd (d : Nat) (x : Domain) (n₁ : Nat) : (s.setPd d x).timer n₁ = s.timer n₁ := rfl
@[simp] theorem State.engine_setPd (d : Nat) (x : Domain) (t₁ e₁ : Nat) : (s.setPd d x).engine t₁ e₁ = s.engine t₁ e₁ := rfl
@[simp] theorem State.ring_setPd (d : Nat) (x : Domain) (p₁ r₁ : Nat) : (s.setPd d x).ring p₁ r₁ = s.ring p₁ r₁ := rfl
@[simp] theorem State.cq_setPd (d : Nat) (x : Domain) (p₁ q₁ : Nat) : (s.setPd d x).cq p₁ q₁ = s.cq p₁ q₁ := rfl
@[simp] theorem State.poll_setPd (d : Nat) (x : Domain) (p₁ : Nat) : (s.setPd d x).poll p₁ = s.poll p₁ := rfl
@[simp] theorem State.group_setPd (d : Nat) (x : Domain) (g₁ : Nat) : (s.setPd d x).group g₁ = s.group g₁ := rfl
@[simp] theorem State.can_setPd (d : Nat) (x : Domain) (c₁ : Nat) : (s.setPd d x).can c₁ = s.can c₁ := rfl
@[simp] theorem State.link_setPd (d : Nat) (x : Domain) (n₁ : Nat) : (s.setPd d x).link n₁ = s.link n₁ := rfl
@[simp] theorem State.edit_setPd (d : Nat) (x : Domain) (g₁ : Nat) : (s.setPd d x).edit g₁ = s.edit g₁ := rfl
@[simp] theorem State.ownAt_setPd (d : Nat) (x : Domain) (i₁ : Nat) : (s.setPd d x).ownAt i₁ = s.ownAt i₁ := rfl
@[simp] theorem State.ctx_setPort (p : Nat) (x : PortM) (t₁ c₁ : Nat) : (s.setPort p x).ctx t₁ c₁ = s.ctx t₁ c₁ := rfl
@[simp] theorem State.pd_setPort (p : Nat) (x : PortM) (d₁ : Nat) : (s.setPort p x).pd d₁ = s.pd d₁ := rfl
@[simp] theorem State.tile_setPort (p : Nat) (x : PortM) (t₁ : Nat) : (s.setPort p x).tile t₁ = s.tile t₁ := rfl
@[simp] theorem State.thread_setPort (p : Nat) (x : PortM) (t₁ n₁ : Nat) : (s.setPort p x).thread t₁ n₁ = s.thread t₁ n₁ := rfl
@[simp] theorem State.chan_setPort (p : Nat) (x : PortM) (c₁ : ChanId) : (s.setPort p x).chan c₁ = s.chan c₁ := rfl
@[simp] theorem State.timer_setPort (p : Nat) (x : PortM) (n₁ : Nat) : (s.setPort p x).timer n₁ = s.timer n₁ := rfl
@[simp] theorem State.engine_setPort (p : Nat) (x : PortM) (t₁ e₁ : Nat) : (s.setPort p x).engine t₁ e₁ = s.engine t₁ e₁ := rfl
@[simp] theorem State.ring_setPort (p : Nat) (x : PortM) (p₁ r₁ : Nat) : (s.setPort p x).ring p₁ r₁ = s.ring p₁ r₁ := rfl
@[simp] theorem State.cq_setPort (p : Nat) (x : PortM) (p₁ q₁ : Nat) : (s.setPort p x).cq p₁ q₁ = s.cq p₁ q₁ := rfl
@[simp] theorem State.poll_setPort (p : Nat) (x : PortM) (p₁ : Nat) : (s.setPort p x).poll p₁ = s.poll p₁ := rfl
@[simp] theorem State.group_setPort (p : Nat) (x : PortM) (g₁ : Nat) : (s.setPort p x).group g₁ = s.group g₁ := rfl
@[simp] theorem State.can_setPort (p : Nat) (x : PortM) (c₁ : Nat) : (s.setPort p x).can c₁ = s.can c₁ := rfl
@[simp] theorem State.link_setPort (p : Nat) (x : PortM) (n₁ : Nat) : (s.setPort p x).link n₁ = s.link n₁ := rfl
@[simp] theorem State.edit_setPort (p : Nat) (x : PortM) (g₁ : Nat) : (s.setPort p x).edit g₁ = s.edit g₁ := rfl
@[simp] theorem State.ownAt_setPort (p : Nat) (x : PortM) (i₁ : Nat) : (s.setPort p x).ownAt i₁ = s.ownAt i₁ := rfl
@[simp] theorem State.ctx_setTile (t : Nat) (x : Tile) (t₁ c₁ : Nat) : (s.setTile t x).ctx t₁ c₁ = s.ctx t₁ c₁ := rfl
@[simp] theorem State.pd_setTile (t : Nat) (x : Tile) (d₁ : Nat) : (s.setTile t x).pd d₁ = s.pd d₁ := rfl
@[simp] theorem State.port_setTile (t : Nat) (x : Tile) (p₁ : Nat) : (s.setTile t x).port p₁ = s.port p₁ := rfl
@[simp] theorem State.thread_setTile (t : Nat) (x : Tile) (t₁ n₁ : Nat) : (s.setTile t x).thread t₁ n₁ = s.thread t₁ n₁ := rfl
@[simp] theorem State.chan_setTile (t : Nat) (x : Tile) (c₁ : ChanId) : (s.setTile t x).chan c₁ = s.chan c₁ := rfl
@[simp] theorem State.timer_setTile (t : Nat) (x : Tile) (n₁ : Nat) : (s.setTile t x).timer n₁ = s.timer n₁ := rfl
@[simp] theorem State.engine_setTile (t : Nat) (x : Tile) (t₁ e₁ : Nat) : (s.setTile t x).engine t₁ e₁ = s.engine t₁ e₁ := rfl
@[simp] theorem State.ring_setTile (t : Nat) (x : Tile) (p₁ r₁ : Nat) : (s.setTile t x).ring p₁ r₁ = s.ring p₁ r₁ := rfl
@[simp] theorem State.cq_setTile (t : Nat) (x : Tile) (p₁ q₁ : Nat) : (s.setTile t x).cq p₁ q₁ = s.cq p₁ q₁ := rfl
@[simp] theorem State.poll_setTile (t : Nat) (x : Tile) (p₁ : Nat) : (s.setTile t x).poll p₁ = s.poll p₁ := rfl
@[simp] theorem State.group_setTile (t : Nat) (x : Tile) (g₁ : Nat) : (s.setTile t x).group g₁ = s.group g₁ := rfl
@[simp] theorem State.can_setTile (t : Nat) (x : Tile) (c₁ : Nat) : (s.setTile t x).can c₁ = s.can c₁ := rfl
@[simp] theorem State.link_setTile (t : Nat) (x : Tile) (n₁ : Nat) : (s.setTile t x).link n₁ = s.link n₁ := rfl
@[simp] theorem State.edit_setTile (t : Nat) (x : Tile) (g₁ : Nat) : (s.setTile t x).edit g₁ = s.edit g₁ := rfl
@[simp] theorem State.ownAt_setTile (t : Nat) (x : Tile) (i₁ : Nat) : (s.setTile t x).ownAt i₁ = s.ownAt i₁ := rfl
@[simp] theorem State.ctx_setThread (t n : Nat) (x : Thread) (t₁ c₁ : Nat) : (s.setThread t n x).ctx t₁ c₁ = s.ctx t₁ c₁ := rfl
@[simp] theorem State.pd_setThread (t n : Nat) (x : Thread) (d₁ : Nat) : (s.setThread t n x).pd d₁ = s.pd d₁ := rfl
@[simp] theorem State.port_setThread (t n : Nat) (x : Thread) (p₁ : Nat) : (s.setThread t n x).port p₁ = s.port p₁ := rfl
@[simp] theorem State.tile_setThread (t n : Nat) (x : Thread) (t₁ : Nat) : (s.setThread t n x).tile t₁ = s.tile t₁ := rfl
@[simp] theorem State.chan_setThread (t n : Nat) (x : Thread) (c₁ : ChanId) : (s.setThread t n x).chan c₁ = s.chan c₁ := rfl
@[simp] theorem State.timer_setThread (t n : Nat) (x : Thread) (n₁ : Nat) : (s.setThread t n x).timer n₁ = s.timer n₁ := rfl
@[simp] theorem State.engine_setThread (t n : Nat) (x : Thread) (t₁ e₁ : Nat) : (s.setThread t n x).engine t₁ e₁ = s.engine t₁ e₁ := rfl
@[simp] theorem State.ring_setThread (t n : Nat) (x : Thread) (p₁ r₁ : Nat) : (s.setThread t n x).ring p₁ r₁ = s.ring p₁ r₁ := rfl
@[simp] theorem State.cq_setThread (t n : Nat) (x : Thread) (p₁ q₁ : Nat) : (s.setThread t n x).cq p₁ q₁ = s.cq p₁ q₁ := rfl
@[simp] theorem State.poll_setThread (t n : Nat) (x : Thread) (p₁ : Nat) : (s.setThread t n x).poll p₁ = s.poll p₁ := rfl
@[simp] theorem State.group_setThread (t n : Nat) (x : Thread) (g₁ : Nat) : (s.setThread t n x).group g₁ = s.group g₁ := rfl
@[simp] theorem State.can_setThread (t n : Nat) (x : Thread) (c₁ : Nat) : (s.setThread t n x).can c₁ = s.can c₁ := rfl
@[simp] theorem State.link_setThread (t n : Nat) (x : Thread) (n₁ : Nat) : (s.setThread t n x).link n₁ = s.link n₁ := rfl
@[simp] theorem State.edit_setThread (t n : Nat) (x : Thread) (g₁ : Nat) : (s.setThread t n x).edit g₁ = s.edit g₁ := rfl
@[simp] theorem State.ownAt_setThread (t n : Nat) (x : Thread) (i₁ : Nat) : (s.setThread t n x).ownAt i₁ = s.ownAt i₁ := rfl
@[simp] theorem State.ctx_setChan (c : ChanId) (x : Chan) (t₁ c₁ : Nat) : (s.setChan c x).ctx t₁ c₁ = s.ctx t₁ c₁ := rfl
@[simp] theorem State.pd_setChan (c : ChanId) (x : Chan) (d₁ : Nat) : (s.setChan c x).pd d₁ = s.pd d₁ := rfl
@[simp] theorem State.port_setChan (c : ChanId) (x : Chan) (p₁ : Nat) : (s.setChan c x).port p₁ = s.port p₁ := rfl
@[simp] theorem State.tile_setChan (c : ChanId) (x : Chan) (t₁ : Nat) : (s.setChan c x).tile t₁ = s.tile t₁ := rfl
@[simp] theorem State.thread_setChan (c : ChanId) (x : Chan) (t₁ n₁ : Nat) : (s.setChan c x).thread t₁ n₁ = s.thread t₁ n₁ := rfl
@[simp] theorem State.timer_setChan (c : ChanId) (x : Chan) (n₁ : Nat) : (s.setChan c x).timer n₁ = s.timer n₁ := rfl
@[simp] theorem State.engine_setChan (c : ChanId) (x : Chan) (t₁ e₁ : Nat) : (s.setChan c x).engine t₁ e₁ = s.engine t₁ e₁ := rfl
@[simp] theorem State.ring_setChan (c : ChanId) (x : Chan) (p₁ r₁ : Nat) : (s.setChan c x).ring p₁ r₁ = s.ring p₁ r₁ := rfl
@[simp] theorem State.cq_setChan (c : ChanId) (x : Chan) (p₁ q₁ : Nat) : (s.setChan c x).cq p₁ q₁ = s.cq p₁ q₁ := rfl
@[simp] theorem State.poll_setChan (c : ChanId) (x : Chan) (p₁ : Nat) : (s.setChan c x).poll p₁ = s.poll p₁ := rfl
@[simp] theorem State.group_setChan (c : ChanId) (x : Chan) (g₁ : Nat) : (s.setChan c x).group g₁ = s.group g₁ := rfl
@[simp] theorem State.can_setChan (c : ChanId) (x : Chan) (c₁ : Nat) : (s.setChan c x).can c₁ = s.can c₁ := rfl
@[simp] theorem State.link_setChan (c : ChanId) (x : Chan) (n₁ : Nat) : (s.setChan c x).link n₁ = s.link n₁ := rfl
@[simp] theorem State.edit_setChan (c : ChanId) (x : Chan) (g₁ : Nat) : (s.setChan c x).edit g₁ = s.edit g₁ := rfl
@[simp] theorem State.ownAt_setChan (c : ChanId) (x : Chan) (i₁ : Nat) : (s.setChan c x).ownAt i₁ = s.ownAt i₁ := rfl
@[simp] theorem State.ctx_setTimer (n : Nat) (x : Timer) (t₁ c₁ : Nat) : (s.setTimer n x).ctx t₁ c₁ = s.ctx t₁ c₁ := rfl
@[simp] theorem State.pd_setTimer (n : Nat) (x : Timer) (d₁ : Nat) : (s.setTimer n x).pd d₁ = s.pd d₁ := rfl
@[simp] theorem State.port_setTimer (n : Nat) (x : Timer) (p₁ : Nat) : (s.setTimer n x).port p₁ = s.port p₁ := rfl
@[simp] theorem State.tile_setTimer (n : Nat) (x : Timer) (t₁ : Nat) : (s.setTimer n x).tile t₁ = s.tile t₁ := rfl
@[simp] theorem State.thread_setTimer (n : Nat) (x : Timer) (t₁ n₁ : Nat) : (s.setTimer n x).thread t₁ n₁ = s.thread t₁ n₁ := rfl
@[simp] theorem State.chan_setTimer (n : Nat) (x : Timer) (c₁ : ChanId) : (s.setTimer n x).chan c₁ = s.chan c₁ := rfl
@[simp] theorem State.engine_setTimer (n : Nat) (x : Timer) (t₁ e₁ : Nat) : (s.setTimer n x).engine t₁ e₁ = s.engine t₁ e₁ := rfl
@[simp] theorem State.ring_setTimer (n : Nat) (x : Timer) (p₁ r₁ : Nat) : (s.setTimer n x).ring p₁ r₁ = s.ring p₁ r₁ := rfl
@[simp] theorem State.cq_setTimer (n : Nat) (x : Timer) (p₁ q₁ : Nat) : (s.setTimer n x).cq p₁ q₁ = s.cq p₁ q₁ := rfl
@[simp] theorem State.poll_setTimer (n : Nat) (x : Timer) (p₁ : Nat) : (s.setTimer n x).poll p₁ = s.poll p₁ := rfl
@[simp] theorem State.group_setTimer (n : Nat) (x : Timer) (g₁ : Nat) : (s.setTimer n x).group g₁ = s.group g₁ := rfl
@[simp] theorem State.can_setTimer (n : Nat) (x : Timer) (c₁ : Nat) : (s.setTimer n x).can c₁ = s.can c₁ := rfl
@[simp] theorem State.link_setTimer (n : Nat) (x : Timer) (n₁ : Nat) : (s.setTimer n x).link n₁ = s.link n₁ := rfl
@[simp] theorem State.edit_setTimer (n : Nat) (x : Timer) (g₁ : Nat) : (s.setTimer n x).edit g₁ = s.edit g₁ := rfl
@[simp] theorem State.ownAt_setTimer (n : Nat) (x : Timer) (i₁ : Nat) : (s.setTimer n x).ownAt i₁ = s.ownAt i₁ := rfl
@[simp] theorem State.ctx_setEngine (t e : Nat) (x : Engine) (t₁ c₁ : Nat) : (s.setEngine t e x).ctx t₁ c₁ = s.ctx t₁ c₁ := rfl
@[simp] theorem State.pd_setEngine (t e : Nat) (x : Engine) (d₁ : Nat) : (s.setEngine t e x).pd d₁ = s.pd d₁ := rfl
@[simp] theorem State.port_setEngine (t e : Nat) (x : Engine) (p₁ : Nat) : (s.setEngine t e x).port p₁ = s.port p₁ := rfl
@[simp] theorem State.tile_setEngine (t e : Nat) (x : Engine) (t₁ : Nat) : (s.setEngine t e x).tile t₁ = s.tile t₁ := rfl
@[simp] theorem State.thread_setEngine (t e : Nat) (x : Engine) (t₁ n₁ : Nat) : (s.setEngine t e x).thread t₁ n₁ = s.thread t₁ n₁ := rfl
@[simp] theorem State.chan_setEngine (t e : Nat) (x : Engine) (c₁ : ChanId) : (s.setEngine t e x).chan c₁ = s.chan c₁ := rfl
@[simp] theorem State.timer_setEngine (t e : Nat) (x : Engine) (n₁ : Nat) : (s.setEngine t e x).timer n₁ = s.timer n₁ := rfl
@[simp] theorem State.ring_setEngine (t e : Nat) (x : Engine) (p₁ r₁ : Nat) : (s.setEngine t e x).ring p₁ r₁ = s.ring p₁ r₁ := rfl
@[simp] theorem State.cq_setEngine (t e : Nat) (x : Engine) (p₁ q₁ : Nat) : (s.setEngine t e x).cq p₁ q₁ = s.cq p₁ q₁ := rfl
@[simp] theorem State.poll_setEngine (t e : Nat) (x : Engine) (p₁ : Nat) : (s.setEngine t e x).poll p₁ = s.poll p₁ := rfl
@[simp] theorem State.group_setEngine (t e : Nat) (x : Engine) (g₁ : Nat) : (s.setEngine t e x).group g₁ = s.group g₁ := rfl
@[simp] theorem State.can_setEngine (t e : Nat) (x : Engine) (c₁ : Nat) : (s.setEngine t e x).can c₁ = s.can c₁ := rfl
@[simp] theorem State.link_setEngine (t e : Nat) (x : Engine) (n₁ : Nat) : (s.setEngine t e x).link n₁ = s.link n₁ := rfl
@[simp] theorem State.edit_setEngine (t e : Nat) (x : Engine) (g₁ : Nat) : (s.setEngine t e x).edit g₁ = s.edit g₁ := rfl
@[simp] theorem State.ownAt_setEngine (t e : Nat) (x : Engine) (i₁ : Nat) : (s.setEngine t e x).ownAt i₁ = s.ownAt i₁ := rfl
@[simp] theorem State.ctx_setRing (p r : Nat) (x : Ring) (t₁ c₁ : Nat) : (s.setRing p r x).ctx t₁ c₁ = s.ctx t₁ c₁ := rfl
@[simp] theorem State.pd_setRing (p r : Nat) (x : Ring) (d₁ : Nat) : (s.setRing p r x).pd d₁ = s.pd d₁ := rfl
@[simp] theorem State.port_setRing (p r : Nat) (x : Ring) (p₁ : Nat) : (s.setRing p r x).port p₁ = s.port p₁ := rfl
@[simp] theorem State.tile_setRing (p r : Nat) (x : Ring) (t₁ : Nat) : (s.setRing p r x).tile t₁ = s.tile t₁ := rfl
@[simp] theorem State.thread_setRing (p r : Nat) (x : Ring) (t₁ n₁ : Nat) : (s.setRing p r x).thread t₁ n₁ = s.thread t₁ n₁ := rfl
@[simp] theorem State.chan_setRing (p r : Nat) (x : Ring) (c₁ : ChanId) : (s.setRing p r x).chan c₁ = s.chan c₁ := rfl
@[simp] theorem State.timer_setRing (p r : Nat) (x : Ring) (n₁ : Nat) : (s.setRing p r x).timer n₁ = s.timer n₁ := rfl
@[simp] theorem State.engine_setRing (p r : Nat) (x : Ring) (t₁ e₁ : Nat) : (s.setRing p r x).engine t₁ e₁ = s.engine t₁ e₁ := rfl
@[simp] theorem State.cq_setRing (p r : Nat) (x : Ring) (p₁ q₁ : Nat) : (s.setRing p r x).cq p₁ q₁ = s.cq p₁ q₁ := rfl
@[simp] theorem State.poll_setRing (p r : Nat) (x : Ring) (p₁ : Nat) : (s.setRing p r x).poll p₁ = s.poll p₁ := rfl
@[simp] theorem State.group_setRing (p r : Nat) (x : Ring) (g₁ : Nat) : (s.setRing p r x).group g₁ = s.group g₁ := rfl
@[simp] theorem State.can_setRing (p r : Nat) (x : Ring) (c₁ : Nat) : (s.setRing p r x).can c₁ = s.can c₁ := rfl
@[simp] theorem State.link_setRing (p r : Nat) (x : Ring) (n₁ : Nat) : (s.setRing p r x).link n₁ = s.link n₁ := rfl
@[simp] theorem State.edit_setRing (p r : Nat) (x : Ring) (g₁ : Nat) : (s.setRing p r x).edit g₁ = s.edit g₁ := rfl
@[simp] theorem State.ownAt_setRing (p r : Nat) (x : Ring) (i₁ : Nat) : (s.setRing p r x).ownAt i₁ = s.ownAt i₁ := rfl
@[simp] theorem State.ctx_setCq (p q : Nat) (x : Cq) (t₁ c₁ : Nat) : (s.setCq p q x).ctx t₁ c₁ = s.ctx t₁ c₁ := rfl
@[simp] theorem State.pd_setCq (p q : Nat) (x : Cq) (d₁ : Nat) : (s.setCq p q x).pd d₁ = s.pd d₁ := rfl
@[simp] theorem State.port_setCq (p q : Nat) (x : Cq) (p₁ : Nat) : (s.setCq p q x).port p₁ = s.port p₁ := rfl
@[simp] theorem State.tile_setCq (p q : Nat) (x : Cq) (t₁ : Nat) : (s.setCq p q x).tile t₁ = s.tile t₁ := rfl
@[simp] theorem State.thread_setCq (p q : Nat) (x : Cq) (t₁ n₁ : Nat) : (s.setCq p q x).thread t₁ n₁ = s.thread t₁ n₁ := rfl
@[simp] theorem State.chan_setCq (p q : Nat) (x : Cq) (c₁ : ChanId) : (s.setCq p q x).chan c₁ = s.chan c₁ := rfl
@[simp] theorem State.timer_setCq (p q : Nat) (x : Cq) (n₁ : Nat) : (s.setCq p q x).timer n₁ = s.timer n₁ := rfl
@[simp] theorem State.engine_setCq (p q : Nat) (x : Cq) (t₁ e₁ : Nat) : (s.setCq p q x).engine t₁ e₁ = s.engine t₁ e₁ := rfl
@[simp] theorem State.ring_setCq (p q : Nat) (x : Cq) (p₁ r₁ : Nat) : (s.setCq p q x).ring p₁ r₁ = s.ring p₁ r₁ := rfl
@[simp] theorem State.poll_setCq (p q : Nat) (x : Cq) (p₁ : Nat) : (s.setCq p q x).poll p₁ = s.poll p₁ := rfl
@[simp] theorem State.group_setCq (p q : Nat) (x : Cq) (g₁ : Nat) : (s.setCq p q x).group g₁ = s.group g₁ := rfl
@[simp] theorem State.can_setCq (p q : Nat) (x : Cq) (c₁ : Nat) : (s.setCq p q x).can c₁ = s.can c₁ := rfl
@[simp] theorem State.link_setCq (p q : Nat) (x : Cq) (n₁ : Nat) : (s.setCq p q x).link n₁ = s.link n₁ := rfl
@[simp] theorem State.edit_setCq (p q : Nat) (x : Cq) (g₁ : Nat) : (s.setCq p q x).edit g₁ = s.edit g₁ := rfl
@[simp] theorem State.ownAt_setCq (p q : Nat) (x : Cq) (i₁ : Nat) : (s.setCq p q x).ownAt i₁ = s.ownAt i₁ := rfl
@[simp] theorem State.ctx_setPoll (p : Nat) (x : Poll) (t₁ c₁ : Nat) : (s.setPoll p x).ctx t₁ c₁ = s.ctx t₁ c₁ := rfl
@[simp] theorem State.pd_setPoll (p : Nat) (x : Poll) (d₁ : Nat) : (s.setPoll p x).pd d₁ = s.pd d₁ := rfl
@[simp] theorem State.port_setPoll (p : Nat) (x : Poll) (p₁ : Nat) : (s.setPoll p x).port p₁ = s.port p₁ := rfl
@[simp] theorem State.tile_setPoll (p : Nat) (x : Poll) (t₁ : Nat) : (s.setPoll p x).tile t₁ = s.tile t₁ := rfl
@[simp] theorem State.thread_setPoll (p : Nat) (x : Poll) (t₁ n₁ : Nat) : (s.setPoll p x).thread t₁ n₁ = s.thread t₁ n₁ := rfl
@[simp] theorem State.chan_setPoll (p : Nat) (x : Poll) (c₁ : ChanId) : (s.setPoll p x).chan c₁ = s.chan c₁ := rfl
@[simp] theorem State.timer_setPoll (p : Nat) (x : Poll) (n₁ : Nat) : (s.setPoll p x).timer n₁ = s.timer n₁ := rfl
@[simp] theorem State.engine_setPoll (p : Nat) (x : Poll) (t₁ e₁ : Nat) : (s.setPoll p x).engine t₁ e₁ = s.engine t₁ e₁ := rfl
@[simp] theorem State.ring_setPoll (p : Nat) (x : Poll) (p₁ r₁ : Nat) : (s.setPoll p x).ring p₁ r₁ = s.ring p₁ r₁ := rfl
@[simp] theorem State.cq_setPoll (p : Nat) (x : Poll) (p₁ q₁ : Nat) : (s.setPoll p x).cq p₁ q₁ = s.cq p₁ q₁ := rfl
@[simp] theorem State.group_setPoll (p : Nat) (x : Poll) (g₁ : Nat) : (s.setPoll p x).group g₁ = s.group g₁ := rfl
@[simp] theorem State.can_setPoll (p : Nat) (x : Poll) (c₁ : Nat) : (s.setPoll p x).can c₁ = s.can c₁ := rfl
@[simp] theorem State.link_setPoll (p : Nat) (x : Poll) (n₁ : Nat) : (s.setPoll p x).link n₁ = s.link n₁ := rfl
@[simp] theorem State.edit_setPoll (p : Nat) (x : Poll) (g₁ : Nat) : (s.setPoll p x).edit g₁ = s.edit g₁ := rfl
@[simp] theorem State.ownAt_setPoll (p : Nat) (x : Poll) (i₁ : Nat) : (s.setPoll p x).ownAt i₁ = s.ownAt i₁ := rfl
@[simp] theorem State.ctx_setGroup (g : Nat) (x : Group) (t₁ c₁ : Nat) : (s.setGroup g x).ctx t₁ c₁ = s.ctx t₁ c₁ := rfl
@[simp] theorem State.pd_setGroup (g : Nat) (x : Group) (d₁ : Nat) : (s.setGroup g x).pd d₁ = s.pd d₁ := rfl
@[simp] theorem State.port_setGroup (g : Nat) (x : Group) (p₁ : Nat) : (s.setGroup g x).port p₁ = s.port p₁ := rfl
@[simp] theorem State.tile_setGroup (g : Nat) (x : Group) (t₁ : Nat) : (s.setGroup g x).tile t₁ = s.tile t₁ := rfl
@[simp] theorem State.thread_setGroup (g : Nat) (x : Group) (t₁ n₁ : Nat) : (s.setGroup g x).thread t₁ n₁ = s.thread t₁ n₁ := rfl
@[simp] theorem State.chan_setGroup (g : Nat) (x : Group) (c₁ : ChanId) : (s.setGroup g x).chan c₁ = s.chan c₁ := rfl
@[simp] theorem State.timer_setGroup (g : Nat) (x : Group) (n₁ : Nat) : (s.setGroup g x).timer n₁ = s.timer n₁ := rfl
@[simp] theorem State.engine_setGroup (g : Nat) (x : Group) (t₁ e₁ : Nat) : (s.setGroup g x).engine t₁ e₁ = s.engine t₁ e₁ := rfl
@[simp] theorem State.ring_setGroup (g : Nat) (x : Group) (p₁ r₁ : Nat) : (s.setGroup g x).ring p₁ r₁ = s.ring p₁ r₁ := rfl
@[simp] theorem State.cq_setGroup (g : Nat) (x : Group) (p₁ q₁ : Nat) : (s.setGroup g x).cq p₁ q₁ = s.cq p₁ q₁ := rfl
@[simp] theorem State.poll_setGroup (g : Nat) (x : Group) (p₁ : Nat) : (s.setGroup g x).poll p₁ = s.poll p₁ := rfl
@[simp] theorem State.can_setGroup (g : Nat) (x : Group) (c₁ : Nat) : (s.setGroup g x).can c₁ = s.can c₁ := rfl
@[simp] theorem State.link_setGroup (g : Nat) (x : Group) (n₁ : Nat) : (s.setGroup g x).link n₁ = s.link n₁ := rfl
@[simp] theorem State.edit_setGroup (g : Nat) (x : Group) (g₁ : Nat) : (s.setGroup g x).edit g₁ = s.edit g₁ := rfl
@[simp] theorem State.ownAt_setGroup (g : Nat) (x : Group) (i₁ : Nat) : (s.setGroup g x).ownAt i₁ = s.ownAt i₁ := rfl
@[simp] theorem State.ctx_setCan (c : Nat) (x : Can) (t₁ c₁ : Nat) : (s.setCan c x).ctx t₁ c₁ = s.ctx t₁ c₁ := rfl
@[simp] theorem State.pd_setCan (c : Nat) (x : Can) (d₁ : Nat) : (s.setCan c x).pd d₁ = s.pd d₁ := rfl
@[simp] theorem State.port_setCan (c : Nat) (x : Can) (p₁ : Nat) : (s.setCan c x).port p₁ = s.port p₁ := rfl
@[simp] theorem State.tile_setCan (c : Nat) (x : Can) (t₁ : Nat) : (s.setCan c x).tile t₁ = s.tile t₁ := rfl
@[simp] theorem State.thread_setCan (c : Nat) (x : Can) (t₁ n₁ : Nat) : (s.setCan c x).thread t₁ n₁ = s.thread t₁ n₁ := rfl
@[simp] theorem State.chan_setCan (c : Nat) (x : Can) (c₁ : ChanId) : (s.setCan c x).chan c₁ = s.chan c₁ := rfl
@[simp] theorem State.timer_setCan (c : Nat) (x : Can) (n₁ : Nat) : (s.setCan c x).timer n₁ = s.timer n₁ := rfl
@[simp] theorem State.engine_setCan (c : Nat) (x : Can) (t₁ e₁ : Nat) : (s.setCan c x).engine t₁ e₁ = s.engine t₁ e₁ := rfl
@[simp] theorem State.ring_setCan (c : Nat) (x : Can) (p₁ r₁ : Nat) : (s.setCan c x).ring p₁ r₁ = s.ring p₁ r₁ := rfl
@[simp] theorem State.cq_setCan (c : Nat) (x : Can) (p₁ q₁ : Nat) : (s.setCan c x).cq p₁ q₁ = s.cq p₁ q₁ := rfl
@[simp] theorem State.poll_setCan (c : Nat) (x : Can) (p₁ : Nat) : (s.setCan c x).poll p₁ = s.poll p₁ := rfl
@[simp] theorem State.group_setCan (c : Nat) (x : Can) (g₁ : Nat) : (s.setCan c x).group g₁ = s.group g₁ := rfl
@[simp] theorem State.link_setCan (c : Nat) (x : Can) (n₁ : Nat) : (s.setCan c x).link n₁ = s.link n₁ := rfl
@[simp] theorem State.edit_setCan (c : Nat) (x : Can) (g₁ : Nat) : (s.setCan c x).edit g₁ = s.edit g₁ := rfl
@[simp] theorem State.ownAt_setCan (c : Nat) (x : Can) (i₁ : Nat) : (s.setCan c x).ownAt i₁ = s.ownAt i₁ := rfl
@[simp] theorem State.ctx_setLink (n : Nat) (x : Link) (t₁ c₁ : Nat) : (s.setLink n x).ctx t₁ c₁ = s.ctx t₁ c₁ := rfl
@[simp] theorem State.pd_setLink (n : Nat) (x : Link) (d₁ : Nat) : (s.setLink n x).pd d₁ = s.pd d₁ := rfl
@[simp] theorem State.port_setLink (n : Nat) (x : Link) (p₁ : Nat) : (s.setLink n x).port p₁ = s.port p₁ := rfl
@[simp] theorem State.tile_setLink (n : Nat) (x : Link) (t₁ : Nat) : (s.setLink n x).tile t₁ = s.tile t₁ := rfl
@[simp] theorem State.thread_setLink (n : Nat) (x : Link) (t₁ n₁ : Nat) : (s.setLink n x).thread t₁ n₁ = s.thread t₁ n₁ := rfl
@[simp] theorem State.chan_setLink (n : Nat) (x : Link) (c₁ : ChanId) : (s.setLink n x).chan c₁ = s.chan c₁ := rfl
@[simp] theorem State.timer_setLink (n : Nat) (x : Link) (n₁ : Nat) : (s.setLink n x).timer n₁ = s.timer n₁ := rfl
@[simp] theorem State.engine_setLink (n : Nat) (x : Link) (t₁ e₁ : Nat) : (s.setLink n x).engine t₁ e₁ = s.engine t₁ e₁ := rfl
@[simp] theorem State.ring_setLink (n : Nat) (x : Link) (p₁ r₁ : Nat) : (s.setLink n x).ring p₁ r₁ = s.ring p₁ r₁ := rfl
@[simp] theorem State.cq_setLink (n : Nat) (x : Link) (p₁ q₁ : Nat) : (s.setLink n x).cq p₁ q₁ = s.cq p₁ q₁ := rfl
@[simp] theorem State.poll_setLink (n : Nat) (x : Link) (p₁ : Nat) : (s.setLink n x).poll p₁ = s.poll p₁ := rfl
@[simp] theorem State.group_setLink (n : Nat) (x : Link) (g₁ : Nat) : (s.setLink n x).group g₁ = s.group g₁ := rfl
@[simp] theorem State.can_setLink (n : Nat) (x : Link) (c₁ : Nat) : (s.setLink n x).can c₁ = s.can c₁ := rfl
@[simp] theorem State.edit_setLink (n : Nat) (x : Link) (g₁ : Nat) : (s.setLink n x).edit g₁ = s.edit g₁ := rfl
@[simp] theorem State.ownAt_setLink (n : Nat) (x : Link) (i₁ : Nat) : (s.setLink n x).ownAt i₁ = s.ownAt i₁ := rfl
@[simp] theorem State.ctx_setEdit (g : Nat) (x : Edit) (t₁ c₁ : Nat) : (s.setEdit g x).ctx t₁ c₁ = s.ctx t₁ c₁ := rfl
@[simp] theorem State.pd_setEdit (g : Nat) (x : Edit) (d₁ : Nat) : (s.setEdit g x).pd d₁ = s.pd d₁ := rfl
@[simp] theorem State.port_setEdit (g : Nat) (x : Edit) (p₁ : Nat) : (s.setEdit g x).port p₁ = s.port p₁ := rfl
@[simp] theorem State.tile_setEdit (g : Nat) (x : Edit) (t₁ : Nat) : (s.setEdit g x).tile t₁ = s.tile t₁ := rfl
@[simp] theorem State.thread_setEdit (g : Nat) (x : Edit) (t₁ n₁ : Nat) : (s.setEdit g x).thread t₁ n₁ = s.thread t₁ n₁ := rfl
@[simp] theorem State.chan_setEdit (g : Nat) (x : Edit) (c₁ : ChanId) : (s.setEdit g x).chan c₁ = s.chan c₁ := rfl
@[simp] theorem State.timer_setEdit (g : Nat) (x : Edit) (n₁ : Nat) : (s.setEdit g x).timer n₁ = s.timer n₁ := rfl
@[simp] theorem State.engine_setEdit (g : Nat) (x : Edit) (t₁ e₁ : Nat) : (s.setEdit g x).engine t₁ e₁ = s.engine t₁ e₁ := rfl
@[simp] theorem State.ring_setEdit (g : Nat) (x : Edit) (p₁ r₁ : Nat) : (s.setEdit g x).ring p₁ r₁ = s.ring p₁ r₁ := rfl
@[simp] theorem State.cq_setEdit (g : Nat) (x : Edit) (p₁ q₁ : Nat) : (s.setEdit g x).cq p₁ q₁ = s.cq p₁ q₁ := rfl
@[simp] theorem State.poll_setEdit (g : Nat) (x : Edit) (p₁ : Nat) : (s.setEdit g x).poll p₁ = s.poll p₁ := rfl
@[simp] theorem State.group_setEdit (g : Nat) (x : Edit) (g₁ : Nat) : (s.setEdit g x).group g₁ = s.group g₁ := rfl
@[simp] theorem State.can_setEdit (g : Nat) (x : Edit) (c₁ : Nat) : (s.setEdit g x).can c₁ = s.can c₁ := rfl
@[simp] theorem State.link_setEdit (g : Nat) (x : Edit) (n₁ : Nat) : (s.setEdit g x).link n₁ = s.link n₁ := rfl
@[simp] theorem State.ownAt_setEdit (g : Nat) (x : Edit) (i₁ : Nat) : (s.setEdit g x).ownAt i₁ = s.ownAt i₁ := rfl
@[simp] theorem State.ctx_setOwn (i : Nat) (b : Byte) (t₁ c₁ : Nat) : (s.setOwn i b).ctx t₁ c₁ = s.ctx t₁ c₁ := rfl
@[simp] theorem State.pd_setOwn (i : Nat) (b : Byte) (d₁ : Nat) : (s.setOwn i b).pd d₁ = s.pd d₁ := rfl
@[simp] theorem State.port_setOwn (i : Nat) (b : Byte) (p₁ : Nat) : (s.setOwn i b).port p₁ = s.port p₁ := rfl
@[simp] theorem State.tile_setOwn (i : Nat) (b : Byte) (t₁ : Nat) : (s.setOwn i b).tile t₁ = s.tile t₁ := rfl
@[simp] theorem State.thread_setOwn (i : Nat) (b : Byte) (t₁ n₁ : Nat) : (s.setOwn i b).thread t₁ n₁ = s.thread t₁ n₁ := rfl
@[simp] theorem State.chan_setOwn (i : Nat) (b : Byte) (c₁ : ChanId) : (s.setOwn i b).chan c₁ = s.chan c₁ := rfl
@[simp] theorem State.timer_setOwn (i : Nat) (b : Byte) (n₁ : Nat) : (s.setOwn i b).timer n₁ = s.timer n₁ := rfl
@[simp] theorem State.engine_setOwn (i : Nat) (b : Byte) (t₁ e₁ : Nat) : (s.setOwn i b).engine t₁ e₁ = s.engine t₁ e₁ := rfl
@[simp] theorem State.ring_setOwn (i : Nat) (b : Byte) (p₁ r₁ : Nat) : (s.setOwn i b).ring p₁ r₁ = s.ring p₁ r₁ := rfl
@[simp] theorem State.cq_setOwn (i : Nat) (b : Byte) (p₁ q₁ : Nat) : (s.setOwn i b).cq p₁ q₁ = s.cq p₁ q₁ := rfl
@[simp] theorem State.poll_setOwn (i : Nat) (b : Byte) (p₁ : Nat) : (s.setOwn i b).poll p₁ = s.poll p₁ := rfl
@[simp] theorem State.group_setOwn (i : Nat) (b : Byte) (g₁ : Nat) : (s.setOwn i b).group g₁ = s.group g₁ := rfl
@[simp] theorem State.can_setOwn (i : Nat) (b : Byte) (c₁ : Nat) : (s.setOwn i b).can c₁ = s.can c₁ := rfl
@[simp] theorem State.link_setOwn (i : Nat) (b : Byte) (n₁ : Nat) : (s.setOwn i b).link n₁ = s.link n₁ := rfl
@[simp] theorem State.edit_setOwn (i : Nat) (b : Byte) (g₁ : Nat) : (s.setOwn i b).edit g₁ = s.edit g₁ := rfl
@[simp] theorem State.ctx_putNum (a n v : Nat) (t₁ c₁ : Nat) : (s.putNum a n v).ctx t₁ c₁ = s.ctx t₁ c₁ := rfl
@[simp] theorem State.pd_putNum (a n v : Nat) (d₁ : Nat) : (s.putNum a n v).pd d₁ = s.pd d₁ := rfl
@[simp] theorem State.port_putNum (a n v : Nat) (p₁ : Nat) : (s.putNum a n v).port p₁ = s.port p₁ := rfl
@[simp] theorem State.tile_putNum (a n v : Nat) (t₁ : Nat) : (s.putNum a n v).tile t₁ = s.tile t₁ := rfl
@[simp] theorem State.thread_putNum (a n v : Nat) (t₁ n₁ : Nat) : (s.putNum a n v).thread t₁ n₁ = s.thread t₁ n₁ := rfl
@[simp] theorem State.chan_putNum (a n v : Nat) (c₁ : ChanId) : (s.putNum a n v).chan c₁ = s.chan c₁ := rfl
@[simp] theorem State.timer_putNum (a n v : Nat) (n₁ : Nat) : (s.putNum a n v).timer n₁ = s.timer n₁ := rfl
@[simp] theorem State.engine_putNum (a n v : Nat) (t₁ e₁ : Nat) : (s.putNum a n v).engine t₁ e₁ = s.engine t₁ e₁ := rfl
@[simp] theorem State.ring_putNum (a n v : Nat) (p₁ r₁ : Nat) : (s.putNum a n v).ring p₁ r₁ = s.ring p₁ r₁ := rfl
@[simp] theorem State.cq_putNum (a n v : Nat) (p₁ q₁ : Nat) : (s.putNum a n v).cq p₁ q₁ = s.cq p₁ q₁ := rfl
@[simp] theorem State.poll_putNum (a n v : Nat) (p₁ : Nat) : (s.putNum a n v).poll p₁ = s.poll p₁ := rfl
@[simp] theorem State.group_putNum (a n v : Nat) (g₁ : Nat) : (s.putNum a n v).group g₁ = s.group g₁ := rfl
@[simp] theorem State.can_putNum (a n v : Nat) (c₁ : Nat) : (s.putNum a n v).can c₁ = s.can c₁ := rfl
@[simp] theorem State.link_putNum (a n v : Nat) (n₁ : Nat) : (s.putNum a n v).link n₁ = s.link n₁ := rfl
@[simp] theorem State.edit_putNum (a n v : Nat) (g₁ : Nat) : (s.putNum a n v).edit g₁ = s.edit g₁ := rfl
@[simp] theorem State.ownAt_putNum (a n v : Nat) (i₁ : Nat) : (s.putNum a n v).ownAt i₁ = s.ownAt i₁ := rfl
@[simp] theorem State.ctx_respond (p : Nat) (c : RespCode) (d : Option DWord) (t₁ c₁ : Nat) : (s.respond p c d).ctx t₁ c₁ = s.ctx t₁ c₁ := rfl
@[simp] theorem State.pd_respond (p : Nat) (c : RespCode) (d : Option DWord) (d₁ : Nat) : (s.respond p c d).pd d₁ = s.pd d₁ := rfl
@[simp] theorem State.port_respond (p : Nat) (c : RespCode) (d : Option DWord) (p₁ : Nat) : (s.respond p c d).port p₁ = s.port p₁ := rfl
@[simp] theorem State.tile_respond (p : Nat) (c : RespCode) (d : Option DWord) (t₁ : Nat) : (s.respond p c d).tile t₁ = s.tile t₁ := rfl
@[simp] theorem State.thread_respond (p : Nat) (c : RespCode) (d : Option DWord) (t₁ n₁ : Nat) : (s.respond p c d).thread t₁ n₁ = s.thread t₁ n₁ := rfl
@[simp] theorem State.chan_respond (p : Nat) (c : RespCode) (d : Option DWord) (c₁ : ChanId) : (s.respond p c d).chan c₁ = s.chan c₁ := rfl
@[simp] theorem State.timer_respond (p : Nat) (c : RespCode) (d : Option DWord) (n₁ : Nat) : (s.respond p c d).timer n₁ = s.timer n₁ := rfl
@[simp] theorem State.engine_respond (p : Nat) (c : RespCode) (d : Option DWord) (t₁ e₁ : Nat) : (s.respond p c d).engine t₁ e₁ = s.engine t₁ e₁ := rfl
@[simp] theorem State.ring_respond (p : Nat) (c : RespCode) (d : Option DWord) (p₁ r₁ : Nat) : (s.respond p c d).ring p₁ r₁ = s.ring p₁ r₁ := rfl
@[simp] theorem State.cq_respond (p : Nat) (c : RespCode) (d : Option DWord) (p₁ q₁ : Nat) : (s.respond p c d).cq p₁ q₁ = s.cq p₁ q₁ := rfl
@[simp] theorem State.poll_respond (p : Nat) (c : RespCode) (d : Option DWord) (p₁ : Nat) : (s.respond p c d).poll p₁ = s.poll p₁ := rfl
@[simp] theorem State.group_respond (p : Nat) (c : RespCode) (d : Option DWord) (g₁ : Nat) : (s.respond p c d).group g₁ = s.group g₁ := rfl
@[simp] theorem State.can_respond (p : Nat) (c : RespCode) (d : Option DWord) (c₁ : Nat) : (s.respond p c d).can c₁ = s.can c₁ := rfl
@[simp] theorem State.link_respond (p : Nat) (c : RespCode) (d : Option DWord) (n₁ : Nat) : (s.respond p c d).link n₁ = s.link n₁ := rfl
@[simp] theorem State.edit_respond (p : Nat) (c : RespCode) (d : Option DWord) (g₁ : Nat) : (s.respond p c d).edit g₁ = s.edit g₁ := rfl
@[simp] theorem State.ownAt_respond (p : Nat) (c : RespCode) (d : Option DWord) (i₁ : Nat) : (s.respond p c d).ownAt i₁ = s.ownAt i₁ := rfl

end Sys2Proof.Machine
end

