-- ==== Sys2Proof/Laws/Issue.lean ====
section
/-! SUPPORT. The issue of one instruction: what `insn` answers for an instruction that begins, and how a completed
instruction and a jump leave the state. -/

namespace Sys2Proof.Machine

/-- An instruction of another row, or one that may not issue, is told apart by `begins`: where it begins, `insn` runs its body
on the state after the fetch. -/
theorem insn_of_begins {s s' : State} {i : Issue} {w : Word} {r : Row} (body : State → InsnEnd)
    (h : s.begins i w r = some s') :
    insn s i w r body = .next (match body s' with
      | .stall => s
      | e => s'.retire i w (s'.rd (.TH_PC i.tile i.thread)) e) := by
  unfold State.begins at h
  split at h
  · rename_i hc
    obtain ⟨ht, hm⟩ := Bool.and_eq_true_iff.mp hc
    split at h
    · rename_i s₁ hf
      split at h
      · rename_i hb
        obtain rfl : s₁ = s' := Option.some.inj h
        simp only [Bool.and_eq_true] at hb
        obtain ⟨⟨hbp, hctx⟩, hrow⟩ := hb
        have hrow' : rowOf w = some r := by simpa using hrow
        have hctx' : (needsCtx w && (s₁.boundCtx i.tile i.thread).isNone) = false := by
          cases hn : (needsCtx w && (s₁.boundCtx i.tile i.thread).isNone) <;> simp_all
        have hbp' : (if (s₁.thread i.tile i.thread).skipBp = true then none
            else s₁.breakpoint i.tile i.thread (s₁.rd (.TH_PC i.tile i.thread))) = none := by
          unfold State.unbroken at hbp
          cases hk : (s₁.thread i.tile i.thread).skipBp <;> simp_all
        have hex : s.execute s₁ i w r body = (match body s₁ with
            | .stall => s
            | e => s₁.retire i w (s₁.rd (.TH_PC i.tile i.thread)) e) := by
          unfold State.execute
          simp only [hbp', hctx', hrow']
          cases body s₁ <;> simp
        unfold insn guarded State.runInsn
        rw [ht, hf]
        by_cases hp : s.mayPair i w = true
        · simp only [hp, if_true, hex]
        · simp only [Bool.not_eq_true] at hp
          rw [hp, Bool.false_or] at hm
          simp only [hp, hm, if_true, if_false, Bool.false_eq_true, hex]
      · cases h
    · cases h
  · cases h

/-- After an instruction with no debug step or halt waiting, nothing further happens (R469, R470). -/
theorem afterInsn_of_quiet {s : State} {t n back : Nat} (h : s.quiet t n = true) : s.afterInsn t n back = s := by
  simp only [State.quiet, Bool.and_eq_true, Bool.not_eq_true'] at h
  simp [State.afterInsn, h.1, h.2]

@[simp] theorem occupy_regs (s : State) (t n u : Nat) (b : Bool) : (s.occupy t n u b).regs = s.regs := rfl
@[simp] theorem issued_regs (s : State) (i : Issue) : (s.issued i).regs = s.regs := rfl
@[simp] theorem rd_occupy (s : State) (t n u : Nat) (b : Bool) (q : Reg) : (s.occupy t n u b).rd q = s.rd q := rfl
@[simp] theorem rd_issued (s : State) (i : Issue) (q : Reg) : (s.issued i).rd q = s.rd q := rfl

theorem quiet_congr {s s' : State} {t n : Nat} (h : (s'.thread t n).stepping = (s.thread t n).stepping)
    (h' : (s'.thread t n).haltReq = (s.thread t n).haltReq) : s'.quiet t n = s.quiet t n := by
  simp [State.quiet, h, h']

theorem occupy_quiet (s : State) (t n u : Nat) (b : Bool) : (s.occupy t n u b).quiet t n = s.quiet t n := by
  apply quiet_congr <;> simp [State.occupy]

/-- The loop-back writes registers only. -/
theorem loopBack_beyond (s : State) (t n : Nat) (pc : Word) : s.sameBeyondRegs (s.loopBack t n pc).1 := by
  unfold State.loopBack State.loopBackTo State.sameBeyondRegs
  split
  · dsimp only
    split <;> rfl
  · rfl

/-- A jump writes the PC and the bookkeeping of the issue. -/
theorem retire_jump {s s' : State} {i : Issue} {w pc npc : Word} {occ : Nat} {taken : Bool}
    (hq : s'.quiet i.tile i.thread = true) :
    ∃ t, s.retire i w pc (.jump s' npc occ taken) = t ∧ s'.regsBecome t [(.TH_PC i.tile i.thread, npc)]
      ∧ s'.sameBeyondThreads t ∧ (t.thread i.tile i.thread).readyAt = i.cycle + occ := by
  refine ⟨_, rfl, ?_, ?_, ?_⟩
  · intro q
    simp only [State.retire]
    rw [afterInsn_of_quiet (by rw [occupy_quiet]; exact hq)]
    by_cases h : q = .TH_PC i.tile i.thread
    · subst h; simp [mget]
    · simp [mget, h, Ne.symm h]
  · simp only [State.retire]
    rw [afterInsn_of_quiet (by rw [occupy_quiet]; exact hq)]
    rfl
  · simp only [State.retire]
    rw [afterInsn_of_quiet (by rw [occupy_quiet]; exact hq)]
    simp [State.occupy]

theorem setBit_31_false (x : Word) : setBit x 31 false = x &&& 0x7FFFFFFF := by
  have h : fldMask 32 31 1 = 0x80000000#32 := by decide
  simp [setBit, setFld, h]

/-- What the loop-back leaves in the registers and as the next PC (R126). -/
theorem loopBack_regs (s : State) (t n : Nat) :
    s.regsBecome ((s.loopBack t n (s.rd (.TH_PC t n))).1.wr (.TH_PC t n) (s.loopBack t n (s.rd (.TH_PC t n))).2) (s.loopRegs t n) := by
  intro q
  unfold State.loopBack State.loopBackTo State.loopRegs State.atLoopEnd
  split
  · dsimp only
    by_cases h1 : s.rd (.LCOUNT t n) = 1
    · have : s.rd (.LCOUNT t n) - 1 = 0 := by rw [h1]; rfl
      simp only [h1, if_true]
      simp only [State.rd_wr, State.setFlag, mget, setBit_31_false]
      by_cases h2 : q = .TH_PC t n
      · subst h2; simp
      · by_cases h3 : q = .LCTL t n
        · subst h3; simp
        · by_cases h4 : q = .LCOUNT t n
          · subst h4; simp
          · simp [h2, h3, h4, Ne.symm h2, Ne.symm h3, Ne.symm h4]
    · have : s.rd (.LCOUNT t n) - 1 ≠ 0 := by
        intro h; apply h1; bv_omega
      simp only [h1, this, ne_eq, not_false_eq_true, if_true, if_false]
      by_cases h2 : q = .TH_PC t n
      · subst h2; simp [mget]
      · by_cases h4 : q = .LCOUNT t n
        · subst h4; simp [mget]
        · simp [mget, h2, h4, Ne.symm h2, Ne.symm h4]
  · by_cases h2 : q = .TH_PC t n
    · subst h2; simp [mget]
    · simp [mget, h2, Ne.symm h2]

/-- A completed instruction moves the PC and the loop registers as R126 says, and leaves all beyond the bookkeeping. -/
theorem retire_done {s s' : State} {i : Issue} {w : Word} {occ : Nat} (hq : s'.quiet i.tile i.thread = true) :
    s'.completed (s.retire i w (s'.rd (.TH_PC i.tile i.thread)) (.done s' occ)) i [] occ := by
  have key : ∀ s₁ : State, s₁.quiet i.tile i.thread = true → s₁.afterInsn i.tile i.thread 1 = s₁ :=
    fun s₁ h => afterInsn_of_quiet h
  have hx := loopBack_beyond s' i.tile i.thread (s'.rd (.TH_PC i.tile i.thread))
  have hr := loopBack_regs s' i.tile i.thread
  simp only [State.retire, State.complete]
  rw [key]
  · refine ⟨?_, ?_, ?_⟩
    · intro q
      rw [List.nil_append, ← hr q]
      split <;> rfl
    · have h1 : s'.tiles = (s'.loopBack i.tile i.thread (s'.rd (.TH_PC i.tile i.thread))).1.tiles :=
        (congrArg State.tiles hx).symm
      have h2 : s'.threads = (s'.loopBack i.tile i.thread (s'.rd (.TH_PC i.tile i.thread))).1.threads :=
        (congrArg State.threads hx).symm
      refine Eq.trans (b := { (s'.loopBack i.tile i.thread (s'.rd (.TH_PC i.tile i.thread))).1 with
        regs := s'.regs, tiles := s'.tiles, threads := s'.threads }) (by split <;> rfl) ?_
      rw [h1, h2]; exact hx
    · split <;> simp [State.occupy]
  · have hth : (s'.loopBack i.tile i.thread (s'.rd (.TH_PC i.tile i.thread))).1.threads = s'.threads := by
      have := congrArg State.threads hx
      exact this
    have ht : ∀ n, (s'.loopBack i.tile i.thread (s'.rd (.TH_PC i.tile i.thread))).1.thread i.tile n = s'.thread i.tile n := by
      intro n; simp only [State.thread, hth]
    rw [← hq]
    split <;> (apply quiet_congr <;> simp [State.occupy, State.issued, ht])

end Sys2Proof.Machine
end

