-- ==== Sys2Proof/Laws/Memory.lean ====
section
/-! SUPPORT. Memory: a read after a write, and that every memory operation keeps the canonical form. -/

namespace Sys2Proof.Machine

/-- Every listed address lies at or above `lo`. -/
def memAbove (m : List Host.Cell) (lo : Nat) : Prop := ∀ c ∈ m, lo ≤ c.1

theorem memory_wf_cons (a : Nat) (b : Byte) (m : List Host.Cell) :
    Memory.wf ((a, b) :: m) = true ↔ b ≠ 0 ∧ memAbove m (a + 1) ∧ Memory.wf m = true := by
  induction m generalizing a b with
  | nil => simp [Memory.wf, memAbove]
  | cons x m ih =>
    obtain ⟨a', b'⟩ := x
    have ih' := ih a' b'
    simp only [Memory.wf, Bool.and_eq_true, decide_eq_true_eq, bne_iff_ne, ne_eq] at *
    constructor
    · rintro ⟨⟨hlt, hb⟩, hw⟩
      refine ⟨hb, ?_, hw⟩
      intro c hc
      rcases List.mem_cons.mp hc with rfl | hc
      · exact hlt
      · have := (ih'.mp hw).2.1 c hc; omega
    · rintro ⟨hb, hab, hw⟩
      exact ⟨⟨hab (a', b') (by simp), hb⟩, hw⟩

theorem memGet_of_above {m : List Host.Cell} {lo a : Nat} (h : memAbove m lo) (ha : a < lo) : memGet m a = 0 := by
  cases m with
  | nil => rfl
  | cons x m =>
    obtain ⟨a', b'⟩ := x
    have := h (a', b') (by simp)
    simp only at this
    simp [memGet, show a' ≠ a by omega, show a < a' by omega]

theorem memSet_above {m : List Host.Cell} {lo a : Nat} {b : Byte} (h : memAbove m lo) (ha : lo ≤ a) :
    memAbove (memSet m a b) lo := by
  induction m with
  | nil => intro c hc; by_cases hb : b = 0#8 <;> simp_all [memSet]
  | cons x m ih =>
    obtain ⟨a', b'⟩ := x
    have h1 := h (a', b') (by simp)
    have h2 : memAbove m lo := fun c hc => h c (by simp [hc])
    intro c hc
    simp only [memSet] at hc
    split at hc
    · split at hc
      · exact h c hc
      · rcases List.mem_cons.mp hc with rfl | hc
        · exact ha
        · exact h c hc
    · split at hc
      · split at hc
        · exact h2 c hc
        · rcases List.mem_cons.mp hc with rfl | hc
          · exact ha
          · exact h2 c hc
      · rcases List.mem_cons.mp hc with rfl | hc
        · exact h1
        · exact ih h2 c hc

theorem memSet_wf (m : List Host.Cell) (a : Nat) (b : Byte) (h : Memory.wf m = true) : Memory.wf (memSet m a b) = true := by
  induction m with
  | nil => by_cases hb : b = 0#8 <;> simp [memSet, hb, Memory.wf]
  | cons x m ih =>
    obtain ⟨a', b'⟩ := x
    obtain ⟨hb', hab, hw⟩ := (memory_wf_cons a' b' m).mp h
    simp only [memSet]
    by_cases h1 : a < a'
    · by_cases hb : b = 0#8
      · simpa [h1, hb] using h
      · simp only [BitVec.ofNat_eq_ofNat, h1, hb, if_true, if_false]
        refine (memory_wf_cons _ _ _).mpr ⟨hb, ?_, h⟩
        intro c hc
        rcases List.mem_cons.mp hc with rfl | hc
        · exact h1
        · have := hab c hc; omega
    · by_cases h2 : a = a'
      · subst h2
        by_cases hb : b = 0#8
        · simpa [hb] using hw
        · simp only [BitVec.ofNat_eq_ofNat, hb, if_true, if_false, Nat.lt_irrefl]
          exact (memory_wf_cons _ _ _).mpr ⟨hb, hab, hw⟩
      · simp only [h1, h2, if_false]
        exact (memory_wf_cons _ _ _).mpr ⟨hb', memSet_above hab (by omega), ih hw⟩

theorem memPut_wf (bs : List Byte) (m : List Host.Cell) (a : Nat) (h : Memory.wf m = true) :
    Memory.wf (memPut m a bs) = true := by
  induction bs generalizing m a with
  | nil => exact h
  | cons b bs ih => exact ih _ _ (memSet_wf m a b h)

theorem memory_filter_wf (p : Host.Cell → Bool) (m : List Host.Cell) (h : Memory.wf m = true) :
    Memory.wf (m.filter p) = true := by
  induction m with
  | nil => rfl
  | cons x m ih =>
    obtain ⟨a, b⟩ := x
    obtain ⟨hb, hab, hw⟩ := (memory_wf_cons a b m).mp h
    by_cases hp : p (a, b)
    · rw [List.filter_cons_of_pos hp]
      exact (memory_wf_cons _ _ _).mpr ⟨hb, fun c hc => hab c ((List.mem_filter.mp hc).1), ih hw⟩
    · rw [List.filter_cons_of_neg hp]; exact ih hw

theorem memClear_wf (m : List Host.Cell) (lo n : Nat) (h : Memory.wf m = true) : Memory.wf (memClear m lo n) = true :=
  memory_filter_wf _ m h

theorem putNum_wf (s : State) (a n v : Nat) (h : Memory.wf s.mem = true) : Memory.wf (s.putNum a n v).mem = true :=
  memPut_wf _ _ _ h

theorem putWord_wf (s : State) (a : Nat) (v : Word) (h : Memory.wf s.mem = true) : Memory.wf (s.putWord a v).mem = true :=
  putNum_wf s a 4 v.toNat h

/-- A write is read back. -/
theorem memGet_memSet_same (m : List Host.Cell) (a : Nat) (b : Byte) (h : Memory.wf m = true) :
    memGet (memSet m a b) a = b := by
  induction m with
  | nil => by_cases hb : b = 0#8 <;> simp [memSet, memGet, hb]
  | cons x m ih =>
    obtain ⟨a', b'⟩ := x
    obtain ⟨-, hab, hw⟩ := (memory_wf_cons a' b' m).mp h
    simp only [memSet]
    by_cases h1 : a < a'
    · by_cases hb : b = 0#8
      · simp [h1, hb, memGet, show a' ≠ a by omega]
      · simp [h1, hb, memGet]
    · by_cases h2 : a = a'
      · subst h2
        by_cases hb : b = 0#8
        · simp only [BitVec.ofNat_eq_ofNat, hb, Nat.lt_irrefl, if_true, if_false]
          exact memGet_of_above hab (by omega)
        · simp [hb, memGet]
      · simp only [h1, h2, if_false, memGet, show a' ≠ a by omega]
        exact ih hw

/-- A write leaves every other byte. -/
theorem memGet_memSet_other (m : List Host.Cell) (a j : Nat) (b : Byte) (h : Memory.wf m = true) (hj : j ≠ a) :
    memGet (memSet m a b) j = memGet m j := by
  induction m with
  | nil =>
    by_cases hb : b = 0#8
    · simp [memSet, hb]
    · simp [memSet, hb, memGet, Ne.symm hj]
  | cons x m ih =>
    obtain ⟨a', b'⟩ := x
    obtain ⟨-, hab, hw⟩ := (memory_wf_cons a' b' m).mp h
    simp only [memSet]
    by_cases h1 : a < a'
    · by_cases hb : b = 0#8
      · simp [h1, hb]
      · simp only [BitVec.ofNat_eq_ofNat, h1, hb, if_true, if_false]
        by_cases h2 : j < a
        · simp [memGet, Ne.symm hj, h2, show a' ≠ j by omega, show j < a' by omega]
        · rw [memGet]; simp [Ne.symm hj, h2]
    · by_cases h2 : a = a'
      · subst h2
        by_cases hb : b = 0#8
        · simp only [BitVec.ofNat_eq_ofNat, hb, Nat.lt_irrefl, if_true, if_false, memGet, Ne.symm hj]
          by_cases h3 : j < a
          · simp only [h3, if_true]; exact memGet_of_above hab (by omega)
          · simp [h3]
        · simp [hb, memGet, Ne.symm hj]
      · simp only [h1, h2, if_false, memGet]
        rw [ih hw]

/-- A run of bytes leaves every byte outside it. -/
theorem memGet_memPut_other (bs : List Byte) (m : List Host.Cell) (a j : Nat) (h : Memory.wf m = true)
    (hj : j < a ∨ a + bs.length ≤ j) : memGet (memPut m a bs) j = memGet m j := by
  induction bs generalizing m a with
  | nil => rfl
  | cons b bs ih =>
    simp only [List.length_cons] at hj
    rw [memPut, ih _ _ (memSet_wf m a b h) (by omega), memGet_memSet_other _ _ _ _ h (by omega)]

theorem memBytes_length (m : List Host.Cell) (a n : Nat) : (memBytes m a n).length = n := by
  induction n generalizing a with
  | zero => rfl
  | succ n ih => simp [memBytes, ih]

/-- A run of bytes is read back. -/
theorem memBytes_memPut_same (bs : List Byte) (m : List Host.Cell) (a : Nat) (h : Memory.wf m = true) :
    memBytes (memPut m a bs) a bs.length = bs := by
  induction bs generalizing m a with
  | nil => rfl
  | cons b bs ih =>
    simp only [List.length_cons, memBytes, memPut]
    rw [ih _ _ (memSet_wf m a b h), memGet_memPut_other _ _ _ _ (memSet_wf m a b h) (by omega), memGet_memSet_same _ _ _ h]

theorem reset_memory_wf : Memory.wf State.reset.mem = true := rfl

end Sys2Proof.Machine
end

