-- ==== Sys2Proof/WellFormed.lean ====
section
/-! DEFINITION. Which commands an agent can send at all: every index lies in the range that the spec gives the part it
names (R2 to R10), whatever the build. -/

namespace Sys2Proof

/-- A sender: a port, a thread of a tile, or the TAP. -/
def srcOk : Src → Bool
  | .port p _ => decide (p < 2)
  | .thread t n _ => decide (t < 8) && decide (n < 16)
  | .tap => true

/-- A memory of the block. -/
def memOk : MemUnit → Bool
  | .bank b => decide (b < 32)
  | .tile t => decide (t < 8)
  | .canRam => true

/-- A thread of a tile. -/
def issueOk (i : Issue) : Bool := decide (i.tile < 8) && decide (i.thread < 16)

/-- A wake source. -/
def wakeOk : WakeSrc → Bool
  | .gauze j => decide (j < 8)
  | .comparator n => decide (n < 8)
  | .kick p => decide (p < 2)

/-- A cell of 64 bytes (R391). -/
def cellOk (c : Cell) : Bool := c.words.length == 16

/-- A frame of at most 64 data bytes, with its identifier in range (R376). -/
def frameOk (f : CanFrame) : Bool := decide (f.ident < 2 ^ 29) && decide (f.dlc < 16) && decide (f.data.length ≤ 64)

/-- The command's operands lie in the ranges of the parts they name. -/
def Instr.wellFormed (i : Instr) : Bool :=
  match i with
  | .porstNAssert => true
  | .porstNDeassert => true
  | .sysrstNAssert => true
  | .sysrstNDeassert => true
  | .clkAckRise => true
  | .clkAckFall => true
  | .pdAckRise d => decide (d < 24)
  | .domainResetRelease d => decide (d < 24)
  | .domainDrainEnd d => decide (d < 24)
  | .pdAckFall d => decide (d < 24)
  | .pdAckLost d => decide (d < 24)
  | .pdTimeout d => decide (d < 24)
  | .pwrBudgetAccept g => decide (g < 1024)
  | .dbKickEdge p => decide (p < 2)
  | .faultInRise j => decide (j < 16)
  | .trstNAssert => true
  | .memoryClearEnd m => memOk m
  | .keptMemoryReady m => memOk m
  | .blkStateReqBoot src => srcOk src
  | .blkStateReqRun src => srcOk src
  | .blkStateReqTest src => srcOk src
  | .blkBootdoneWrite src _ => srcOk src
  | .blkBootptrWrite src i _ => srcOk src && decide (i < 2)
  | .registerWrite src off _ => srcOk src && decide (off < 1048576)
  | .subordinateRead p _ addr => decide (p < 2) && decide (addr < 67108864)
  | .subordinateWrite p _ addr _ _ => decide (p < 2) && decide (addr < 67108864)
  | .hpSemAcquire p ⟨n, _⟩ => decide (p < 2) && decide (n < 32)
  | .hpSemRelease p n => decide (p < 2) && decide (n < 32)
  | .hpSembrk src _ => srcOk src
  | .burstModeRequest src p => srcOk src && decide (p < 2)
  | .burstModeLeave src p => srcOk src && decide (p < 2)
  | .tz2MailboxWrite p i _ => decide (p < 2) && decide (i < 64)
  | .managerReadResponse p id _ => decide (p < 2) && decide (id < 64)
  | .managerWriteResponse p id _ => decide (p < 2) && decide (id < 64)
  | .storeBufferDrain t _ => decide (t < 8)
  | .tlCtlMapload src t => srcOk src && decide (t < 8)
  | .slotMapActivate ⟨t, cycle⟩ => decide (t < 8) && decide (cycle % 16 = 0)
  | .tlCtlTrst src t => srcOk src && decide (t < 8)
  | .tlCtlStart src t => srcOk src && decide (t < 8)
  | .tlCtlDetmWrite src t _ => srcOk src && decide (t < 8)
  | .tlHwrouteWrite src t _ => srcOk src && decide (t < 8)
  | .tlHwrouteApply ⟨t, _⟩ => decide (t < 8)
  | .thHwinWrite src t n i _ => srcOk src && decide (t < 8) && decide (n < 16) && decide (i < 16)
  | .thRegisterWrite src t n i _ => srcOk src && decide (t < 8) && decide (n < 16) && decide (i < 32)
  | .interruptEntry ⟨t, _⟩ n => decide (t < 8) && decide (n < 16)
  | .eventInput t n b => decide (t < 8) && decide (n < 16) && decide (b < 32)
  | .evsendDelivery ⟨t, _⟩ => decide (t < 8)
  | .wfeWake ⟨t, _⟩ n => decide (t < 8) && decide (n < 16)
  | .channelWaitServed _ ⟨t, _⟩ c => decide (t < 8) && decide (c < 64)
  | .chwaitTimeout ⟨t, _⟩ n => decide (t < 8) && decide (n < 16)
  | .deadlockDetected t => decide (t < 8)
  | .integerRegisterOp i _ => issueOk i
  | .integerImmediateOp i _ => issueOk i
  | .extract i _ => issueOk i
  | .extractS i _ => issueOk i
  | .insertField i _ => issueOk i
  | .lui i _ => issueOk i
  | .auipc i _ => issueOk i
  | .load i _ h => issueOk i && decide (h.bytes.length ≤ 2048)
  | .store i _ => issueOk i
  | .amoadd i _ => issueOk i
  | .amoswap i _ => issueOk i
  | .cas i _ => issueOk i
  | .jal i _ => issueOk i
  | .jalr i _ => issueOk i
  | .branch i _ => issueOk i
  | .hwLoop i _ => issueOk i
  | .csrrd i _ => issueOk i
  | .csrwr i _ => issueOk i
  | .fence i _ => issueOk i
  | .iflush i _ => issueOk i
  | .bld i _ => issueOk i
  | .bldn i _ => issueOk i
  | .band i _ => issueOk i
  | .bandn i _ => issueOk i
  | .bor i _ => issueOk i
  | .born i _ => issueOk i
  | .bxor i _ => issueOk i
  | .bst i _ => issueOk i
  | .bset i _ => issueOk i
  | .brst i _ => issueOk i
  | .btog i _ => issueOk i
  | .brise i _ => issueOk i
  | .bfall i _ => issueOk i
  | .bpush i _ => issueOk i
  | .bpop i _ => issueOk i
  | .bands i _ => issueOk i
  | .bors i _ => issueOk i
  | .bnot i _ => issueOk i
  | .bseta i _ => issueOk i
  | .bclra i _ => issueOk i
  | .bmovg i _ => issueOk i
  | .bmova i _ => issueOk i
  | .wfe i _ => issueOk i
  | .evsend i _ => issueOk i
  | .trap i _ => issueOk i
  | .brk i _ => issueOk i
  | .rete i _ => issueOk i
  | .haltThread i _ => issueOk i
  | .scanend i _ => issueOk i
  | .tset i _ => issueOk i
  | .trelease i _ => issueOk i
  | .chopen i _ => issueOk i
  | .chput i _ => issueOk i
  | .chclose i _ => issueOk i
  | .chget i _ => issueOk i
  | .vbind i _ => issueOk i
  | .vfree i _ => issueOk i
  | .apreq i _ => issueOk i
  | .aprel i _ => issueOk i
  | .vsetvl i _ => issueOk i
  | .vectorIntegerOp i _ => issueOk i
  | .vectorFixedPointOp i _ => issueOk i
  | .scalarFpOp i _ => issueOk i
  | .vectorFpOp i _ => issueOk i
  | .vectorLoad i _ h => issueOk i && decide (h.bytes.length ≤ 2048)
  | .vectorStore i _ => issueOk i
  | .vectorGather i _ h => issueOk i && decide (h.bytes.length ≤ 2048)
  | .vectorScatter i _ => issueOk i
  | .lvIdlePowerDown t c => decide (t < 8) && decide (c < 4)
  | .lvuContextDownEnd t c => decide (t < 8) && decide (c < 4)
  | .lvuRampEnd t c => decide (t < 8) && decide (c < 4)
  | .lvuRestoreEnd ⟨t, _⟩ c => decide (t < 8) && decide (c < 4)
  | .lvCtlWrite src t _ => srcOk src && decide (t < 8)
  | .scGctlRunStart src g _ => srcOk src && decide (g < 8)
  | .scanStartChecksEnd g => decide (g < 8)
  | .scGctlRunStop src g _ => srcOk src && decide (g < 8)
  | .stopCopiesEnd g => decide (g < 8)
  | .scanFreeze g _ => decide (g < 8)
  | .scanRelease g => decide (g < 8)
  | .scanCommit g => decide (g < 8)
  | .copyEngineCopyEnd wait => decide (wait ≤ 8)
  | .scImglayoutWrite src _ _ => srcOk src
  | .scOwndataWrite src _ => srcOk src
  | .scOwnfillWrite src _ => srcOk src
  | .scOwnfillEnd => true
  | .editArm src g => srcOk src && decide (g < 8)
  | .editCancel src g => srcOk src && decide (g < 8)
  | .scEdittgtWrite src g i _ => srcOk src && decide (g < 8) && decide (i < 2)
  | .editApplierEnd g => decide (g < 8)
  | .smClrreqWrite src _ => srcOk src
  | .smPdctlWrite src _ => srcOk src
  | .collisionReplay addr _ _ => decide (addr < 67108864)
  | .eccWriteBack addr => decide (addr < 67108864)
  | .ringEnable src p r _ => srcOk src && decide (p < 2) && decide (r < 256)
  | .ringDisable src p r => srcOk src && decide (p < 2) && decide (r < 256)
  | .ringIdle p r => decide (p < 2) && decide (r < 256)
  | .cqEnable src p q _ => srcOk src && decide (p < 2) && decide (q < 64)
  | .cqDisable src p q => srcOk src && decide (p < 2) && decide (q < 64)
  | .doorbellPoll p => decide (p < 2)
  | .summaryLineArrival p halfwords _ => decide (p < 2) && decide (halfwords.length ≤ 32)
  | .doorbellLineArrival p h words _ => decide (p < 2) && decide (h < 20) && decide (words.length ≤ 128)
  | .legacyDoorbellWrite src p o _ => srcOk src && decide (p < 2) && decide (o < 4096)
  | .descriptorArrival p r words _ => decide (p < 2) && decide (r < 256) && decide (words.length ≤ 128)
  | .imgInDescriptor p r data _ => decide (p < 2) && decide (r < 256) && decide (data.length < 16777216)
  | .imgOutDescriptor p r ⟨rows, err⟩ => decide (p < 2) && decide (r < 256) && decide (rows ≤ 256) && err.all (fun b => decide (b < 4096))
  | .streamTxDescriptor p r data _ => decide (p < 2) && decide (r < 256) && decide (data.length < 16777216)
  | .streamRxDescriptor p r err => decide (p < 2) && decide (r < 256) && err.all (fun b => decide (b < 16777216))
  | .msgTxDescriptor p r data _ => decide (p < 2) && decide (r < 256) && decide (data.length < 16777216)
  | .msgRxDescriptor p r err => decide (p < 2) && decide (r < 256) && err.all (fun b => decide (b < 80))
  | .mgmtEditDescriptor p r data _ => decide (p < 2) && decide (r < 256) && decide (data.length < 16777216)
  | .mgmtMessageDescriptor p r data _ => decide (p < 2) && decide (r < 256) && decide (data.length < 16777216)
  | .vectorUnmask src p v => srcOk src && decide (p < 2) && decide (v < 64)
  | .engineTick t e _ => decide (t < 8) && decide (e < 32)
  | .engNop t e _ => decide (t < 8) && decide (e < 32)
  | .engSho t e _ => decide (t < 8) && decide (e < 32)
  | .engShi t e _ => decide (t < 8) && decide (e < 32)
  | .engShx t e _ => decide (t < 8) && decide (e < 32)
  | .engPull t e _ => decide (t < 8) && decide (e < 32)
  | .engPush t e _ => decide (t < 8) && decide (e < 32)
  | .engineStallEnd t e _ => decide (t < 8) && decide (e < 32)
  | .engWait t e _ => decide (t < 8) && decide (e < 32)
  | .engWaitc t e _ => decide (t < 8) && decide (e < 32)
  | .engSetp t e _ => decide (t < 8) && decide (e < 32)
  | .engDir t e _ => decide (t < 8) && decide (e < 32)
  | .engJmp t e _ => decide (t < 8) && decide (e < 32)
  | .engDjnz t e _ => decide (t < 8) && decide (e < 32)
  | .engClk t e _ => decide (t < 8) && decide (e < 32)
  | .engEvt t e _ => decide (t < 8) && decide (e < 32)
  | .streamMoverTurn t e => decide (t < 8) && decide (e < 32)
  | .engineEnable src t e => srcOk src && decide (t < 8) && decide (e < 32)
  | .engineDisable src t e => srcOk src && decide (t < 8) && decide (e < 32)
  | .engineFlush src t e => srcOk src && decide (t < 8) && decide (e < 32)
  | .engineSwap src t e => srcOk src && decide (t < 8) && decide (e < 32)
  | .engineForce src t e => srcOk src && decide (t < 8) && decide (e < 32)
  | .engineBankSwap t e _ => decide (t < 8) && decide (e < 32)
  | .engineOvrclr src t e => srcOk src && decide (t < 8) && decide (e < 32)
  | .engineProgramWrite src t e i _ => srcOk src && decide (t < 8) && decide (e < 32) && decide (i < 32)
  | .engineConfigWrite src t e i _ => srcOk src && decide (t < 8) && decide (e < 32) && decide (i < 16)
  | .engineGroupRequest src t _ => srcOk src && decide (t < 8)
  | .engineGroupReady t g => decide (t < 8) && decide (g < 4)
  | .gauzeSourceEdge p _ => match p with | .fio k => decide (k < 512) | .fin j => decide (j < 16)
  | .stormWindowEnd => true
  | .taskInputTake i => decide (i < 1258)
  | .gzConfigWrite src off _ => srcOk src && decide (off < 1048576)
  | .gzPinselWrite src i _ => srcOk src && decide (i < 16)
  | .tlGzfire src t _ => srcOk src && decide (t < 8)
  | .timebaseModeChange _ => true
  | .tbAdjWrite src _ => srcOk src
  | .timebaseAdjustApply => true
  | .aoComparatorFire n => decide (n < 8)
  | .timerTick n _ => decide (n < 64)
  | .timerLfclkStep n => decide (n < 64)
  | .timerLinkEvent n => decide (n < 64)
  | .timerEnable src n _ => srcOk src && decide (n < 64)
  | .timerStartStop n => decide (n < 64)
  | .tmGstart src i _ => srcOk src && decide (i < 2)
  | .tmGstop src i _ => srcOk src && decide (i < 2)
  | .timerShadowWrite src n _ _ => srcOk src && decide (n < 64)
  | .timerShadowTransfer n => decide (n < 64)
  | .timerCapture n _ => decide (n < 64)
  | .tmCaprisePop p _ n => decide (p < 2) && decide (n < 64)
  | .tmCapfallPop p _ n => decide (p < 2) && decide (n < 64)
  | .tmCounterWrite src n _ _ => srcOk src && decide (n < 64)
  | .convStartPulseEnd k => decide (k < 16)
  | .cnDomctlWrite src _ => srcOk src
  | .canInitLeave src c _ => srcOk src && decide (c < 16)
  | .canBusJoin c => decide (c < 16)
  | .canBitTimingWrite src c _ _ => srcOk src && decide (c < 16)
  | .canMap src c _ => srcOk src && decide (c < 16)
  | .canUnmap src c _ => srcOk src && decide (c < 16)
  | .canFrameReceived c f _ => decide (c < 16) && frameOk f
  | .cnTxreq src c _ => srcOk src && decide (c < 16)
  | .cnTxabort src c _ => srcOk src && decide (c < 16)
  | .canTransmitAttempt c => decide (c < 16)
  | .canFrameTransmitted c => decide (c < 16)
  | .canErrorStateChange c tec rec lec => decide (c < 16) && decide (tec < 512) && decide (rec < 512) && decide (lec < 8)
  | .canBusOffRecovery c => decide (c < 16)
  | .canObjectWrite src addr _ _ => srcOk src && decide (addr < 67108864)
  | .canReferenceDue c => decide (c < 16)
  | .fdLinkEnable src n _ => srcOk src && decide (n < 4)
  | .fdLinkDisable src n _ => srcOk src && decide (n < 4)
  | .fdCtlDomenWrite src _ => srcOk src
  | .phyrdyChange n _ => decide (n < 4)
  | .trainCell n c => decide (n < 4) && cellOk c
  | .trainingTimeout n => decide (n < 4)
  | .linkRetrain n => decide (n < 4)
  | .idleCell n c => decide (n < 4) && cellOk c
  | .sequencedCellReceived n c => decide (n < 4) && cellOk c
  | .resendTimeout n => decide (n < 4)
  | .elasticBufferSlip n => decide (n < 4)
  | .linkctlBondsync n => decide (n < 4)
  | .fdCtlEnum src _ => srcOk src
  | .enumOffer n c => decide (n < 4) && cellOk c
  | .enumDone n c => decide (n < 4) && cellOk c
  | .enumRej n c => decide (n < 4) && cellOk c
  | .enumMaster n c => decide (n < 4) && cellOk c
  | .timeExchangeDue n => decide (n < 4)
  | .timeDreq n c phase _ => decide (n < 4) && cellOk c && decide (phase < 8)
  | .timeDresp n c phase => decide (n < 4) && cellOk c && decide (phase < 8)
  | .timeSync n c phase => decide (n < 4) && cellOk c && decide (phase < 8)
  | .fedJoin src _ => srcOk src
  | .fedLeave src _ => srcOk src
  | .fedHoldover => true
  | .pubReceived n c => decide (n < 4) && cellOk c
  | .mgmtMessageReceived n c => decide (n < 4) && cellOk c
  | .miEnable src _ => srcOk src
  | .miDisable src _ => srcOk src
  | .mirrorHello n c => decide (n < 4) && cellOk c
  | .mirrorFrzReceived n c => decide (n < 4) && cellOk c
  | .mirrorCmt g => decide (g < 8)
  | .mirrorHeartbeatMiss g => decide (g < 8)
  | .miResync src _ => srcOk src
  | .mirrorRsreq n c => decide (n < 4) && cellOk c
  | .mirrorBulk n c => decide (n < 4) && cellOk c
  | .faultOccurrence n => decide (n < 128)
  | .faultWindowExpiry n => decide (n < 128)
  | .fcAck src i _ => srcOk src && decide (i < 4)
  | .fcStatClear src i _ => srcOk src && decide (i < 4)
  | .fcScfgForce src n => srcOk src && decide (n < 128)
  | .fcRctlRelease src => srcOk src
  | .tlFcackAck src t n => srcOk src && decide (t < 8) && decide (n < 128)
  | .tlFcackClr src t n => srcOk src && decide (t < 8) && decide (n < 128)
  | .aliveToggle => true
  | .apertureGrant => true
  | .apertureRelease src off _ => srcOk src && decide (off < 1048576)
  | .apRsvRequest src g grains => srcOk src && decide (g < 8) && decide (grains < 1024)
  | .apRsvRelease src g => srcOk src && decide (g < 8)
  | .apPctlDoze src => srcOk src
  | .apPctlSleep src => srcOk src
  | .apPctlOff src => srcOk src
  | .apPctlWake src => srcOk src
  | .dozeWake wsrc => wakeOk wsrc
  | .sleepWake wsrc => wakeOk wsrc
  | .apTileenWrite src _ => srcOk src
  | .upCmdSend src => srcOk src
  | .updateStageEnd data _ => decide (data.length < 16777216)
  | .upCmdActivate src => srcOk src
  | .activationInstant => true
  | .loaderPlacementEnd => true
  | .upCmdConfirm src => srcOk src
  | .upCmdFallback src _ => srcOk src
  | .confirmWindowExpiry => true
  | .fallbackRestoreEnd data _ => decide (data.length < 16777216)
  | .upCmdDiscard src => srcOk src
  | .dbThalt src t _ => srcOk src && decide (t < 8)
  | .dbTres src t _ => srcOk src && decide (t < 8)
  | .dbTstep src t _ => srcOk src && decide (t < 8)
  | .dbTileHalt src t => srcOk src && decide (t < 8)
  | .dbTileResume src t => srcOk src && decide (t < 8)
  | .dbBlkHalt src => srcOk src
  | .blockHaltComplete => true
  | .dbBlkResume src => srcOk src
  | .dbChabort src _ => srcOk src
  | .debugStateAccess src off _ _ => srcOk src && decide (off < 1048576)
  | .dbgaccUpdate => true
  | .faultInFall j => decide (j < 16)
  | .failedTrainingRestart n => decide (n < 4)
  | .bankRetentionReturn m => memOk m
  | .digestEngineEnd g => decide (g < 8)
  | .tapTckEdge _ _ => true

end Sys2Proof
end

