-- ==== Sys2Proof/Tests/Slice0.lean ====
section
/-! SUPPORT. Tests: an ill-formed command for each check of WellFormed; and for each statement states and operands that meet
its hypotheses, with what the command gives there, worked out from the spec. -/

namespace Sys2Proof.Tests

set_option Elab.async false

open Sys2Proof.Machine

/-- The outcome is a next state of which `p` holds. -/
def gives (o : Out) (p : State → Bool) : Bool := match o with | .next t => p t | _ => false

/-- A block in BOOT with every memory and domain ready. -/
def base : State :=
  ((((({ State.reset with clears := [] }).wr (.BLK_READY 0) 0xFFFFFFFF).wr (.BLK_READY 1) 0xFFFFFFFF).wr (.BLK_READY 2) 0xFFFFFFFF).wr
    (.BLK_READY 3) 0x7F)

/-- Thread 0 of tile 0 is ACTIVE at scratchpad address 0, which holds `w`. -/
def at0 (w : Word) : State := (base.wr (.TH_PC 0 0) 0).putWord (spBase 0) w

/-- An R-format word (R116). -/
def rf (o d a b f : Nat) : Word := BitVec.ofNat 32 (o * 2 ^ 26 + d * 2 ^ 21 + a * 2 ^ 16 + b * 2 ^ 11 + f)
/-- An I- or M-format word (R116). -/
def mf (o d a f imm : Nat) : Word := BitVec.ofNat 32 (o * 2 ^ 26 + d * 2 ^ 21 + a * 2 ^ 16 + f * 2 ^ 12 + imm)

/-- Thread 0 of tile 0 issues in cycle 0. -/
def i0 : Issue := ⟨0, 0, 0, 0⟩

/-- The instruction begins in `s`, quietly, and its hypotheses `h` hold of the state after the fetch; the command then gives a
state of which `p` holds. -/
def runs (s : State) (w : Word) (r : Row) (h : State → Bool) (c : Instr) (p : State → Bool) : Bool :=
  (match s.begins i0 w r with | some s' => s'.quiet 0 0 && h s' | none => false) && gives (exec c s) p

/-- The hypotheses need nothing more. -/
def any (_ : State) : Bool := true

/-! ### Steps, integer and control instructions -/

theorem test_step_front :
    gives (step { base with pending := [.tlHwrouteApply ⟨0, 0⟩, .fedHoldover] }) (fun t => t.pending == [.fedHoldover]) = true := by decide +kernel

theorem test_idle_edge : gives (step base) (fun t => t.now == 8 && !base.clk.porst && !base.flag .TB_STAT 0) = true := by decide +kernel

/-- Back from LFCLK at 41, rounded up to 80; with TMRCLK stopped; under PORST_N; and a message that another tile sees from now on. -/
theorem test_idle_edges :
    (gives (step ((base.setFlag .TB_STAT 0 true).wr .TB_LO 41)) (fun t => t.now == 80 && !t.flag .TB_STAT 0)
      && gives (step { base with clk := { base.clk with running := false } }) (fun t => t.now == 1600 && t.flag .TB_STAT 0)
      && gives (step { base with clk := { base.clk with porst := true } }) (fun t => t.now == 0)
      && gives (step (base.setChan (.block 63) ⟨none, [], [⟨[1, 2, 3, 4], some (0, 0), 8, false⟩]⟩))
        (fun t => (t.chan (.block 63)).msgs.all (·.seen) && base.chans == [] && base.chanSpaces == [])) = true := by decide +kernel

theorem test_order_premise : base.inOrder = true ∧ gives (step base) State.inOrder = true := by decide +kernel

theorem test_adds_saturates :
    runs ((at0 (rf 1 3 1 2 0x10)).wr (.G 0 0 1) 0x7FFFFFFF |>.wr (.G 0 0 2) 1) (rf 1 3 1 2 0x10) .intReg any
      (.integerRegisterOp i0 (rf 1 3 1 2 0x10))
      (fun t => t.g 0 0 3 == 0x7FFFFFFF && t.rd (.ISTAT 0 0) == 1 && t.rd (.TH_PC 0 0) == 4) = true := by decide +kernel

theorem test_div_by_zero_to_g0 :
    runs (at0 (rf 1 0 1 2 0x24)) (rf 1 0 1 2 0x24) .intReg any (.integerRegisterOp i0 (rf 1 0 1 2 0x24))
      (fun t => t.g 0 0 0 == 0 && t.rd (.ISTAT 0 0) == 2 && (t.thread 0 0).readyAt == 12) = true := by decide +kernel

theorem test_slti_sign :
    runs ((at0 (mf 3 4 1 4 0xFFF)).wr (.G 0 0 1) 0xFFFFFFFE) (mf 3 4 1 4 0xFFF) .intImm any
      (.integerImmediateOp i0 (mf 3 4 1 4 0xFFF)) (fun t => t.g 0 0 4 == 1) = true := by decide +kernel

/-- POS 4, WM1 7: bits 11:4. -/
theorem test_ext :
    runs ((at0 (rf 2 4 1 4 (7 * 64))).wr (.G 0 0 1) 0xABC) (rf 2 4 1 4 (7 * 64)) .ext any (.extract i0 (rf 2 4 1 4 (7 * 64)))
      (fun t => t.g 0 0 4 == 0xAB) = true := by decide +kernel

theorem test_exts :
    runs ((at0 (rf 2 4 1 4 (7 * 64 + 1))).wr (.G 0 0 1) 0xABC) (rf 2 4 1 4 (7 * 64 + 1)) .exts any
      (.extractS i0 (rf 2 4 1 4 (7 * 64 + 1))) (fun t => t.g 0 0 4 == 0xFFFFFFAB) = true := by decide +kernel

theorem test_ins :
    runs (((at0 (rf 2 4 1 4 (7 * 64 + 2))).wr (.G 0 0 1) 0xABC).wr (.G 0 0 4) 0xFFFFFFFF) (rf 2 4 1 4 (7 * 64 + 2)) .ins any
      (.insertField i0 (rf 2 4 1 4 (7 * 64 + 2))) (fun t => t.g 0 0 4 == 0xFFFFFBCF) = true := by decide +kernel

theorem test_lui : runs (at0 (mf 4 5 8 1 2)) (mf 4 5 8 1 2) .lui any (.lui i0 (mf 4 5 8 1 2)) (fun t => t.g 0 0 5 == 0x81002000) = true := by
  decide +kernel

theorem test_auipc : runs (at0 (mf 5 5 0 0 1)) (mf 5 5 0 0 1) .auipc any (.auipc i0 (mf 5 5 0 0 1)) (fun t => t.g 0 0 5 == 0x1000) = true := by
  decide +kernel

/-- Offset -1 word. -/
theorem test_jal :
    runs (at0 (BitVec.ofNat 32 (9 * 2 ^ 26 + 1 * 2 ^ 21 + 0x1FFFFF))) (BitVec.ofNat 32 (9 * 2 ^ 26 + 1 * 2 ^ 21 + 0x1FFFFF)) .jal any
      (.jal i0 (BitVec.ofNat 32 (9 * 2 ^ 26 + 1 * 2 ^ 21 + 0x1FFFFF)))
      (fun t => t.rd (.TH_PC 0 0) == 0xFFFFFFFC && t.g 0 0 1 == 4) = true := by decide +kernel

/-- Gd is the base register: the target comes first. -/
theorem test_jalr :
    runs ((at0 (mf 10 1 1 0 3)).wr (.G 0 0 1) 0x100) (mf 10 1 1 0 3) .jalr any (.jalr i0 (mf 10 1 1 0 3))
      (fun t => t.rd (.TH_PC 0 0) == 0x100 && t.g 0 0 1 == 4) = true := by decide +kernel

theorem test_branch_taken :
    runs ((at0 (BitVec.ofNat 32 (13 * 2 ^ 26 + 1 * 2 ^ 21 + 2 * 2 ^ 16 + 4))).wr (.G 0 0 1) 0xFFFFFFFF)
      (BitVec.ofNat 32 (13 * 2 ^ 26 + 1 * 2 ^ 21 + 2 * 2 ^ 16 + 4)) .branch
      (fun s => (s.g 0 0 1).toInt < (s.g 0 0 2).toInt) (.branch i0 (BitVec.ofNat 32 (13 * 2 ^ 26 + 1 * 2 ^ 21 + 2 * 2 ^ 16 + 4)))
      (fun t => t.rd (.TH_PC 0 0) == 16) = true := by decide +kernel

theorem test_branch_not_taken :
    runs (at0 (BitVec.ofNat 32 (12 * 2 ^ 26 + 1 * 2 ^ 21 + 2 * 2 ^ 16 + 4))) (BitVec.ofNat 32 (12 * 2 ^ 26 + 1 * 2 ^ 21 + 2 * 2 ^ 16 + 4)) .branch
      (fun s => s.g 0 0 1 == s.g 0 0 2) (.branch i0 (BitVec.ofNat 32 (12 * 2 ^ 26 + 1 * 2 ^ 21 + 2 * 2 ^ 16 + 4)))
      (fun t => t.rd (.TH_PC 0 0) == 4) = true := by decide +kernel

theorem test_loop_sets_up :
    runs ((at0 (BitVec.ofNat 32 (17 * 2 ^ 26 + 1 * 2 ^ 21 + 5))).wr (.G 0 0 1) 3) (BitVec.ofNat 32 (17 * 2 ^ 26 + 1 * 2 ^ 21 + 5)) .loop
      any (.hwLoop i0 (BitVec.ofNat 32 (17 * 2 ^ 26 + 1 * 2 ^ 21 + 5)))
      (fun t => t.rd (.LCOUNT 0 0) == 3 && t.rd (.LEND 0 0) == 20 && t.rd (.LCTL 0 0) == 0x80000000 && t.rd (.TH_PC 0 0) == 4) = true := by
  decide +kernel

theorem test_loop_skips :
    runs (at0 (BitVec.ofNat 32 (17 * 2 ^ 26 + 1 * 2 ^ 21 + 5))) (BitVec.ofNat 32 (17 * 2 ^ 26 + 1 * 2 ^ 21 + 5)) .loop any
      (.hwLoop i0 (BitVec.ofNat 32 (17 * 2 ^ 26 + 1 * 2 ^ 21 + 5))) (fun t => t.rd (.TH_PC 0 0) == 24) = true := by decide +kernel

/-- A LOOP with a count of 0 at the end of an active loop: with one iteration left, and with two. -/
theorem test_loop_skips_at_end :
    (let w : Word := BitVec.ofNat 32 (17 * 2 ^ 26 + 1 * 2 ^ 21 + 5)
     let s := fun (c : Word) => (((at0 w).wr (.LCTL 0 0) 0x80000000).wr (.LCOUNT 0 0) c).wr (.LSTART 0 0) 0x40
     runs (s 1) w .loop (fun s => s.atLoopEnd 0 0) (.hwLoop i0 w)
         (fun t => t.rd (.TH_PC 0 0) == 24 && t.rd (.LCOUNT 0 0) == 0 && t.rd (.LCTL 0 0) == 0)
       && runs (s 2) w .loop (fun s => s.atLoopEnd 0 0) (.hwLoop i0 w) (fun t => t.rd (.TH_PC 0 0) == 0x40 && t.rd (.LCOUNT 0 0) == 1)) = true := by
  decide +kernel

/-- The last instruction of a body whose count is 2 goes back (R126). -/
theorem test_loop_back :
    runs (((at0 (mf 3 1 1 0 1)).wr (.LCTL 0 0) 0x80000000).wr (.LCOUNT 0 0) 2 |>.wr (.LSTART 0 0) 0x40) (mf 3 1 1 0 1) .intImm any
      (.integerImmediateOp i0 (mf 3 1 1 0 1)) (fun t => t.rd (.TH_PC 0 0) == 0x40 && t.rd (.LCOUNT 0 0) == 1) = true := by decide +kernel

/-! ### Loads, stores, atomics, CSRs and bit instructions -/

/-- LD.B of 0x80 at address 3: sign-extended. -/
theorem test_load_byte :
    runs (((at0 (mf 6 4 1 0 3)).wr (.G 0 0 1) 0x100).putWord (spBase 0 + 0x100) 0x80112233) (mf 6 4 1 0 3) .load
      (fun s => s.mAddr 0 0 (mf 6 4 1 0 3) == 0x103 && s.memIsReady (spBase 0 + 0x103) && s.watch 0 0 .load 0x103 1 == none && s.ecc == [])
      (.load i0 (mf 6 4 1 0 3) ⟨[], false, false⟩) (fun t => t.g 0 0 4 == 0xFFFFFF80 && (t.thread 0 0).readyAt == 6) = true := by decide +kernel

/-- LD.D: Gd the low word, Gd+1 the high one. -/
theorem test_load_pair :
    runs (((at0 (mf 6 4 0 3 8)).putWord (spBase 0 + 8) 5).putWord (spBase 0 + 12) 6) (mf 6 4 0 3 8) .load
      (fun s => s.mAddr 0 0 (mf 6 4 0 3 8) % 8 == 0) (.load i0 (mf 6 4 0 3 8) ⟨[], false, false⟩) (fun t => t.g 0 0 4 == 5 && t.g 0 0 5 == 6) = true := by
  decide +kernel

/-- ST.B at address 0x101. -/
theorem test_store_byte :
    runs ((at0 (mf 7 2 1 0 1)).wr (.G 0 0 1) 0x100 |>.wr (.G 0 0 2) 0x1CD) (mf 7 2 1 0 1) .store
      (fun s => s.inOrder && s.ecc == [] && s.writeBacks == [] && s.clk.running && !s.clk.held && s.memIsReady (spBase 0 + 0x101))
      (.store i0 (mf 7 2 1 0 1)) (fun t => t.memWord (spBase 0 + 0x100) == 0xCD00 && t.rd (.TH_PC 0 0) == 4) = true := by decide +kernel

/-- A split ST.W at 0x102. -/
theorem test_store_split :
    runs ((at0 (mf 7 2 1 2 2)).wr (.G 0 0 1) 0x100 |>.wr (.G 0 0 2) 0x11223344) (mf 7 2 1 2 2) .store
      (fun s => (splitParts (s.mAddr 0 0 (mf 7 2 1 2 2)) 4).length == 2) (.store i0 (mf 7 2 1 2 2))
      (fun t => t.memWord (spBase 0 + 0x100) == 0x33440000 && t.memWord (spBase 0 + 0x104) == 0x1122) = true := by decide +kernel

theorem test_amoadd_wraps :
    runs (((at0 (rf 8 3 1 2 0)).wr (.G 0 0 1) 0x200 |>.wr (.G 0 0 2) 2).putWord (spBase 0 + 0x200) 0xFFFFFFFF) (rf 8 3 1 2 0) .amoadd
      (fun s => s.inOrder && s.watch 0 0 .amo 0x200 4 == none) (.amoadd i0 (rf 8 3 1 2 0))
      (fun t => t.g 0 0 3 == 0xFFFFFFFF && t.memWord (spBase 0 + 0x200) == 1) = true := by decide +kernel

theorem test_amoswap :
    runs (((at0 (rf 8 3 1 2 1)).wr (.G 0 0 1) 0x200 |>.wr (.G 0 0 2) 2).putWord (spBase 0 + 0x200) 7) (rf 8 3 1 2 1) .amoswap any
      (.amoswap i0 (rf 8 3 1 2 1)) (fun t => t.g 0 0 3 == 7 && t.memWord (spBase 0 + 0x200) == 2) = true := by decide +kernel

theorem test_cas_fails :
    runs (((at0 (rf 8 3 1 2 2)).wr (.G 0 0 1) 0x200 |>.wr (.G 0 0 2) 2 |>.wr (.G 0 0 3) 8).putWord (spBase 0 + 0x200) 7) (rf 8 3 1 2 2) .cas any
      (.cas i0 (rf 8 3 1 2 2)) (fun t => t.g 0 0 3 == 7 && t.memWord (spBase 0 + 0x200) == 7) = true := by decide +kernel

/-- The tile is stopped by a fault of thread 0 at PC 0 with this cause, detail and address. -/
def stopped (cause detail : Nat) (a : Word) (t : State) : Bool :=
  (List.range 16).all (fun m => t.thState 0 m == 5) && t.rd (.TL_FREC 0 0) == BitVec.ofNat 32 (2 ^ 31 + cause * 256 + detail)
    && t.rd (.TL_FREC 0 1) == 0 && t.rd (.TL_FREC 0 2) == a && t.flag (.TL_STAT 0) 1

theorem test_unmapped_load :
    runs ((at0 (mf 6 4 1 2 0)).wr (.G 0 0 1) 0x20000000) (mf 6 4 1 2 0) .load
      (fun s => !s.flag (.TL_FREC 0 0) 31 && rgnOf (s.mAddr 0 0 (mf 6 4 1 2 0)) == .unmapped)
      (.load i0 (mf 6 4 1 2 0) ⟨[], false, false⟩) (stopped 2 1 0x20000000) = true := by decide +kernel

theorem test_rom_store :
    runs ((at0 (mf 7 4 1 2 0)).wr (.G 0 0 1) 0x0F800000) (mf 7 4 1 2 0) .store
      (fun s => rgnOf (s.mAddr 0 0 (mf 7 4 1 2 0)) == .rom) (.store i0 (mf 7 4 1 2 0)) (stopped 2 1 0x0F800000) = true := by decide +kernel

theorem test_amo_unaligned_and_window :
    (runs ((at0 (rf 8 3 1 2 0)).wr (.G 0 0 1) 0x201) (rf 8 3 1 2 0) .amoadd any (.amoadd i0 (rf 8 3 1 2 0)) (stopped 6 0 0x201)
      && runs ((at0 (rf 8 3 1 2 0)).wr (.G 0 0 1) 0x04000000) (rf 8 3 1 2 0) .amoadd
          (fun s => s.groupsOf 0 0 == [] && rgnOf 0x04000000 != .scratch && rgnOf 0x04000000 != .shared)
          (.amoadd i0 (rf 8 3 1 2 0)) (stopped 2 1 0x04000000)) = true := by decide +kernel

theorem test_fence :
    runs (at0 (mf 63 0 0 2 0)) (mf 63 0 0 2 0) .fence (fun s => (s.tile 0).sb.isEmpty) (.fence i0 (mf 63 0 0 2 0))
      (fun t => t.rd (.TH_PC 0 0) == 4) = true := by decide +kernel

/-- With an entry of its own in the store buffer FENCE changes nothing. -/
theorem test_fence_waits :
    (let s := (at0 (mf 63 0 0 2 0)).setTile 0 { (at0 0).tile 0 with sb := [⟨0, 0x100, [1], 0, 0, 0x04000000⟩] }
     gives (exec (.fence i0 (mf 63 0 0 2 0)) s) (fun t => t == s)) = true := by decide +kernel

theorem test_iflush :
    runs (at0 (mf 63 0 0 3 0)) (mf 63 0 0 3 0) .iflush (fun s => (s.tile 0).sb.isEmpty) (.iflush i0 (mf 63 0 0 3 0))
      (fun t => (t.tile 0).icache == [] && (t.thread 0 0).readyAt == 20) = true := by decide +kernel

/-- IFLUSH.D of the line of G1 takes its data word alone. -/
theorem test_iflush_line :
    (let s := (at0 (mf 63 0 1 3 1)).wr (.G 0 0 1) 0x04000040
     runs (s.setTile 0 { s.tile 0 with icache := [(0, 0x04000040, 1)], dcache := [(0, 0x04000040, 1), (0, 0x04000080, 2)] }) (mf 63 0 1 3 1) .iflush any (.iflush i0 (mf 63 0 1 3 1))
      (fun t => (t.tile 0).icache.length == 1 && (t.tile 0).dcache == [(0, 0x04000080, 2)] && (t.thread 0 0).readyAt == 4)) = true := by decide +kernel

/-- A write of TL_HWROUTE with an entry in the store buffer waits, and so does a host-window store of a FIXED thread. -/
theorem test_store_waits :
    (let r := (at0 (mf 7 2 1 2 0x1C)).wr (.G 0 0 1) 0x0F000000 |>.wr (.G 0 0 2) 1
     let h := (((at0 (mf 7 2 1 2 0)).wr (.G 0 0 1) 0x04000000).wr (.TH_HWIN 0 0 0) 1).setField (.TH_CTL 0 0) 0 2 1
     runs (r.setTile 0 { r.tile 0 with sb := [⟨1, 0x100, [1], 0, 0, 0x04000000⟩] }) (mf 7 2 1 2 0x1C) .store
         (fun s => s.mAddr 0 0 (mf 7 2 1 2 0x1C) == 0x0F00001C) (.store i0 (mf 7 2 1 2 0x1C)) (fun t => (t.thread 0 0).wait == .hwRoute && t.rd (.TH_PC 0 0) == 0)
       && runs (h.setTile 0 { h.tile 0 with activeMap := List.replicate 16 (1, 0) }) (mf 7 2 1 2 0) .store (fun s => s.thClass 0 0 == 1 && rgnOf 0x04000000 == .host 0)
         (.store i0 (mf 7 2 1 2 0)) (fun t => (match (t.thread 0 0).wait with | .hostStore l => l.length == 1 | _ => false) && t.rd (.TH_PC 0 0) == 0)) = true := by
  decide +kernel

/-- TLID of thread 0 of tile 0, and a number that R107 does not hold. -/
theorem test_csrrd :
    (runs ((at0 (mf 63 4 0 0 0x040)).wr (.BITST 0 0) 0x10001) (mf 63 4 0 0 0x040) .csrrd any (.csrrd i0 (mf 63 4 0 0 0x040))
        (fun t => t.g 0 0 4 == 0x10001)
      && runs (at0 (mf 63 4 0 0 0x007)) (mf 63 4 0 0 0x007) .csrrd any (.csrrd i0 (mf 63 4 0 0 0x007)) (stopped 1 0 0)) = true := by decide +kernel

/-- W1C bits of EVPEND, and the address bits 1:0 of EPC0. -/
theorem test_csrwr :
    (runs (((at0 (mf 63 0 1 1 0x010)).wr (.G 0 0 1) 3).wr (.TH_EVPEND 0 0) 6) (mf 63 0 1 1 0x010) .csrwr any (.csrwr i0 (mf 63 0 1 1 0x010))
        (fun t => t.rd (.TH_EVPEND 0 0) == 4)
      && runs ((at0 (mf 63 0 1 1 0x002)).wr (.G 0 0 1) 0x107) (mf 63 0 1 1 0x002) .csrwr any (.csrwr i0 (mf 63 0 1 1 0x002))
        (fun t => t.rd (.TH_EPC 0 0 0) == 0x104)) = true := by decide +kernel

/-! ### Bit instructions -/

/-- An image of one page for each of I, F, Q, P and M, at 1 MiB of shared memory; thread 0 of tile 0 owns Q word 0. -/
def image (s : State) : State := (s.wr .SC_IMGBASE 0x100000).wr .SC_IMGSIZE 0x40201

/-- The word of an X-format instruction: space, bit number. -/
def xf (o sp b : Nat) : Word := BitVec.ofNat 32 (o * 2 ^ 26 + sp * 2 ^ 24 + b)

/-- Bit 5 of word 0 of M is 1 and ACC is 0: ACC and the bit after each instruction, in the table's order. -/
theorem test_bit_ops :
    ([(BitOp.bld, true, true), (.bldn, false, true), (.band, false, true), (.bandn, false, true), (.bor, true, true), (.born, false, true),
      (.bxor, true, true), (.bst, false, false), (.bset, false, true), (.brst, false, true), (.btog, false, true)].zipIdx).all (fun x =>
      let w := xf (0x20 + x.2) 2 5
      runs ((image (at0 w)).putWord (smBase + 0x104000) 0x20) w (.bitOp x.1.1)
        (fun s => s.bitNumber 0 0 w == 5 && decide (5 < 8 * s.viewSize .M) && s.memIsReady (smBase + 0x104000)
          && !s.flag (.DB_WP 0 0 1) 31 && s.inOrder && s.copies == [] && s.resolve .M 0 == 0x104000)
        (Spec.bitCmd x.1.1 i0 w)
        (fun t => t.flag (.BITST 0 0) 0 == x.1.2.1 && t.memWord (smBase + 0x104000) == (if x.1.2.2 then 0x20 else 0))) = true := by decide +kernel

/-- The history bit of an edge lies in H: BRISE and BFALL with ACC 1 and the bit 0. -/
theorem test_edges :
    [(BitOp.brise, true), (.bfall, false)].all (fun x =>
      let w := xf (if x.1 == .brise then 0x2B else 0x2C) 3 31
      runs (((image (at0 w)).wr .SC_IMGSIZE 0x4040201).wr (.BITST 0 0) 1) w (.bitOp x.1) any (Spec.bitCmd x.1 i0 w)
        (fun t => t.flag (.BITST 0 0) 0 == x.2 && t.memWord (smBase + 0x105000) == 0x80000000)) = true := by decide +kernel

/-- The first bit beyond a view of 4,096 bytes, and a write in I: PROT. A write of a word of Q that nobody owns: OWNER. -/
theorem test_bit_checks :
    (let past := xf 0x20 2 32768
     let inI := xf 0x27 0 0
     let inQ := xf 0x27 1 0
     runs (image (at0 past)) past (.bitOp .bld) (fun s => decide (8 * s.viewSize .M ≤ s.bitNumber 0 0 past) && s.allIdle) (.bld i0 past)
         (fun t => t.field (.TL_FREC 0 0) 8 8 == 2 && t.field (.TL_FREC 0 0) 0 8 == 1)
       && runs (image (at0 inI)) inI (.bitOp .bst) any (.bst i0 inI) (fun t => t.field (.TL_FREC 0 0) 8 8 == 2)
       && runs (image (at0 inQ)) inQ (.bitOp .bst) (fun s => !s.ownsWord 0 0 0) (.bst i0 inQ) (fun t => t.field (.TL_FREC 0 0) 8 8 == 5)) = true := by
  decide +kernel

/-- A push at depth 8 sets OVF; a pop of the empty stack gives 0 and sets UNF. -/
theorem test_stack_ends :
    (runs ((at0 (xf 0x3A 0 0)).wr (.BITST 0 0) 0x80001) (xf 0x3A 0 0) .bpush (fun s => decide (s.field (.BITST 0 0) 16 4 ≤ 8)) (.bpush i0 (xf 0x3A 0 0))
        (fun t => t.rd (.BITST 0 0) == 0x1080101)
      && runs ((at0 (xf 0x3A 0 1)).wr (.BITST 0 0) 1) (xf 0x3A 0 1) .bpop any (.bpop i0 (xf 0x3A 0 1)) (fun t => t.rd (.BITST 0 0) == 0x2000000)) = true := by
  decide +kernel

/-- ACC 1 over a stack of one 0: BANDS, BORS, BNOT, BSETA, BCLRA. -/
theorem test_acc_ops :
    ([(Row.bands, (0 : Word)), (.bors, 1), (.bnot, 0x10000), (.bseta, 0x10001), (.bclra, 0x10000)].zipIdx).all (fun x =>
      let w := xf 0x3A 0 (2 + x.2)
      runs ((at0 w).wr (.BITST 0 0) 0x10001) w x.1.1 any (Spec.accCmd x.1.1 i0 w) (fun t => t.rd (.BITST 0 0) == x.1.2)) = true := by decide +kernel

/-- G2 in bits 23:19. -/
theorem test_acc_moves :
    (runs (((at0 (xf 0x3B 0 0x100000)).wr (.BITST 0 0) 1).wr (.G 0 0 2) 0xFF) (xf 0x3B 0 0x100000) .bmovg any (.bmovg i0 (xf 0x3B 0 0x100000))
        (fun t => t.g 0 0 2 == 1)
      && runs ((at0 (xf 0x3B 0 0x100001)).wr (.G 0 0 2) 0xFF) (xf 0x3B 0 0x100001) .bmova any (.bmova i0 (xf 0x3B 0 0x100001))
        (fun t => t.rd (.BITST 0 0) == 1)) = true := by decide +kernel

/-! ### System instructions, events and channels -/

/-- A pending, enabled input lets WFE go on; without one the thread waits. -/
theorem test_wfe :
    (runs (((at0 (mf 60 4 0 0 0)).wr (.TH_EVPEND 0 0) 0x30).wr (.TH_EVWE 0 0) 0x10) (mf 60 4 0 0 0) .wfe any (.wfe i0 (mf 60 4 0 0 0))
        (fun t => t.g 0 0 4 == 0x10 && t.rd (.TH_EVPEND 0 0) == 0x20 && t.rd (.TH_PC 0 0) == 4)
      && runs (at0 (mf 60 4 0 0 0)) (mf 60 4 0 0 0) .wfe any (.wfe i0 (mf 60 4 0 0 0))
        (fun t => t.thState 0 0 == 2 && (t.thread 0 0).wait == .wfe 4 && t.rd (.TH_PC 0 0) == 0)) = true := by decide +kernel

/-- An input enabled for interrupts alone lets WFE go on too, and stays pending. -/
theorem test_wfe_interrupt :
    runs (((at0 (mf 60 4 0 0 0)).wr (.TH_EVPEND 0 0) 0x30).wr (.TH_EVIE 0 0) 0x10) (mf 60 4 0 0 0) .wfe any (.wfe i0 (mf 60 4 0 0 0))
      (fun t => t.g 0 0 4 == 0 && t.rd (.TH_EVPEND 0 0) == 0x30 && t.rd (.TH_PC 0 0) == 4) = true := by decide +kernel

/-- EVSEND to a tile that the build lacks. -/
theorem test_evsend_absent :
    runs ({ at0 (mf 60 4 0 1 0x723) with build := ⟨0, true, 16⟩ }) (mf 60 4 0 1 0x723) .evsend (fun s => !s.hasTile 7) (.evsend i0 (mf 60 4 0 1 0x723))
      (fun t => t.g 0 0 4 == 1 && (t.tile 7).evsends == []) = true := by decide +kernel

/-- EVSEND to input 3 of thread 2 of tile 1. -/
theorem test_evsend :
    runs (at0 (mf 60 4 0 1 0x123)) (mf 60 4 0 1 0x123) .evsend (fun s => s.hasTile 1) (.evsend i0 (mf 60 4 0 1 0x123))
      (fun t => t.g 0 0 4 == 0 && (t.tile 1).evsends == [(0, 0, 1, 2, 3)]) = true := by decide +kernel

theorem test_trap :
    runs ((at0 (mf 60 0 0 2 0x55)).wr (.TH_VBASE 0 0) 0x400) (mf 60 0 0 2 0x55) .trap (fun s => decide (s.depth 0 0 < 2)) (.trap i0 (mf 60 0 0 2 0x55))
      (fun t => t.rd (.TH_PC 0 0) == 0x600 && t.rd (.TH_EPC 0 0 0) == 4 && t.field (.TH_STAT 0 0) 16 8 == 1 && t.field (.TH_STAT 0 0) 24 8 == 0x55
        && t.depth 0 0 == 1) = true := by decide +kernel

/-- BREAK as an exception, and as a halt. -/
theorem test_break :
    (runs (at0 (mf 60 0 0 3 0)) (mf 60 0 0 3 0) .brk (fun s => !s.flag .DB_CTL 0) (.brk i0 (mf 60 0 0 3 0))
        (fun t => t.rd (.TH_PC 0 0) == 0x200 && t.rd (.TH_EPC 0 0 0) == 0 && t.field (.TH_STAT 0 0) 16 8 == 2)
      && runs ((at0 (mf 60 0 0 3 0)).wr .DB_CTL 1) (mf 60 0 0 3 0) .brk (fun s => s.flag .DB_CTL 0) (.brk i0 (mf 60 0 0 3 0))
        (fun t => t.thState 0 0 == 4 && t.field (.DB_HSTAT 0 0) 29 3 == 3)) = true := by decide +kernel

theorem test_rete :
    runs (((at0 (mf 60 0 0 4 0)).wr (.TH_EPC 0 0 0) 0x80).setField (.TH_STAT 0 0) 4 2 1) (mf 60 0 0 4 0) .rete (fun s => decide (1 ≤ s.depth 0 0))
      (.rete i0 (mf 60 0 0 4 0)) (fun t => t.rd (.TH_PC 0 0) == 0x80 && t.depth 0 0 == 0 && t.flag (.TH_CTL 0 0) 4) = true := by decide +kernel

/-- The lowest enabled input, 5, of a thread in WFE. -/
theorem test_interrupt :
    (let s := ((((base.wr (.TH_PC 0 0) 0x40).setThState 0 0 2).setWait 0 0 (.wfe 3)).setFlag (.TH_CTL 0 0) 4 true
        |>.wr (.TH_EVPEND 0 0) 0x220).wr (.TH_EVIE 0 0) 0x220
     s.hasThread 0 0 && s.coresRun && s.quiet 0 0 && s.interruptible 0 0 && s.depth 0 0 == 0
       && gives (exec (.interruptEntry ⟨0, 0⟩ 0) s) (fun t => t.rd (.TH_PC 0 0) == 0x50 && t.rd (.TH_EPC 0 0 0) == 0x40
            && t.rd (.TH_EVPEND 0 0) == 0x200 && t.field (.TH_STAT 0 0) 16 8 == 0x45 && t.thState 0 0 == 1)) = true := by decide +kernel

/-- HALT discards the partial message of the reservation. -/
theorem test_halt :
    runs (((at0 (mf 60 0 0 5 0)).setChan (.tile 0 0) ⟨some (0, 0), [7], []⟩).setFlag (.TH_STAT 0 0) 9 true) (mf 60 0 0 5 0) .halt
      (fun s => s.groupsOf 0 0 == []) (.haltThread i0 (mf 60 0 0 5 0))
      (fun t => t.thState 0 0 == 0 && t.rd (.TH_PC 0 0) == 4 && t.chan (.tile 0 0) == ⟨none, [], []⟩) = true := by decide +kernel

/-- SCANEND outside a group goes on; a FIXED member waits for its release. -/
theorem test_scanend :
    (let member := (((at0 (mf 60 0 0 6 0)).wr (.SC_MEMBER 2 0) 1).setField (.TH_CTL 0 0) 0 2 1).setGState 2 2
     let member := member.setTile 0 { member.tile 0 with activeMap := (1, 0) :: List.replicate 15 (0, 0) }
     runs (at0 (mf 60 0 0 6 0)) (mf 60 0 0 6 0) .scanend any (.scanend i0 (mf 60 0 0 6 0)) (fun t => t.rd (.TH_PC 0 0) == 4 && t.thState 0 0 == 1)
       && runs member (mf 60 0 0 6 0) .scanend (fun s => s.thClass 0 0 == 1 && s.groupsOf 0 0 == [2] && (s.group 2).late == .none)
         (.scanend i0 (mf 60 0 0 6 0))
         (fun t => t.thState 0 0 == 2 && (t.thread 0 0).wait == .release && t.rd (.TH_PC 0 0) == 4 && (t.group 2).done == [(0, 0)])) = true := by decide +kernel

/-- SCANEND of a member that has left its STOPPING group goes on. -/
theorem test_scanend_left :
    (let m := (((at0 (mf 60 0 0 6 0)).wr (.SC_MEMBER 2 0) 1).setField (.TH_CTL 0 0) 0 2 1).setGState 2 3
     let m := (m.setTile 0 { m.tile 0 with activeMap := (1, 0) :: List.replicate 15 (0, 0) }).setGroup 2 { m.group 2 with left := [(0, 0)] }
     runs m (mf 60 0 0 6 0) .scanend (fun s => s.groupsOf 0 0 == [2]) (.scanend i0 (mf 60 0 0 6 0)) (fun t => t.rd (.TH_PC 0 0) == 4 && t.thState 0 0 == 1)) = true := by
  decide +kernel

/-- TSET of G3, the PC and the class of thread 1; code 1 for a thread that is not HELD. -/
theorem test_tset :
    ([((0x031 : Nat), (0 : Word), Reg.G 0 1 3, (0x57 : Word)), (0x201, 0, .TH_PC 0 1, 0x54), (0x231, 4, .TH_CTL 0 1, 0)].zipIdx.all (fun x =>
      let w := mf 60 4 (if x.2 = 2 then 0 else 1) 7 x.1.1
      runs ((at0 w).wr (.G 0 0 1) 0x57) w .tset (fun s => s.thState 0 1 == 0) (.tset i0 w) (fun t => t.rd x.1.2.2.1 == x.1.2.2.2 || x.2 == 2))
     && runs ((at0 (mf 60 4 1 7 0x031)).setThState 0 1 1) (mf 60 4 1 7 0x031) .tset any (.tset i0 (mf 60 4 1 7 0x031)) (fun t => t.g 0 0 4 == 1)) = true := by
  decide +kernel

/-- TRELEASE of thread 1, and of thread 2, which is FIXED without an entry. -/
theorem test_trelease :
    (runs (at0 (mf 60 4 0 8 1)) (mf 60 4 0 8 1) .trelease (fun s => s.thState 0 1 == 0 && s.thClass 0 1 == 0) (.trelease i0 (mf 60 4 0 8 1))
        (fun t => t.thState 0 1 == 1 && t.g 0 0 4 == 0 && (t.thread 0 1).readyAt == 5)
      && runs ((at0 (mf 60 4 0 8 2)).setField (.TH_CTL 0 2) 0 2 1) (mf 60 4 0 8 2) .trelease any (.trelease i0 (mf 60 4 0 8 2))
        (fun t => t.thState 0 2 == 0 && t.g 0 0 4 == 2)) = true := by decide +kernel

/-- TRELEASE of thread 2, which is URGENT without an entry, and of a thread that is not HELD. -/
theorem test_trelease_refused :
    (runs ((at0 (mf 60 4 0 8 2)).setField (.TH_CTL 0 2) 0 2 2) (mf 60 4 0 8 2) .trelease any (.trelease i0 (mf 60 4 0 8 2)) (fun t => t.thState 0 2 == 0 && t.g 0 0 4 == 3)
      && runs ((at0 (mf 60 4 0 8 2)).setThState 0 2 1) (mf 60 4 0 8 2) .trelease any (.trelease i0 (mf 60 4 0 8 2)) (fun t => t.g 0 0 4 == 1)) = true := by decide +kernel

/-- Thread 1 may not: PROT, detail 0x04. -/
theorem test_setup_by_other :
    (let w := mf 60 4 1 7 0x032
     let s := (((base.wr (.TH_PC 0 1) 0).setThState 0 1 1).putWord (spBase 0) w).setThState 0 0 0
     (match s.begins ⟨0, 1, 0, 0⟩ w .tset with | some s' => s'.quiet 0 1 | none => false)
       && gives (exec (.tset ⟨0, 1, 0, 0⟩ w) s) (fun t => t.thState 0 0 == 5 && t.field (.TL_FREC 0 0) 8 8 == 2 && t.field (.TL_FREC 0 0) 0 8 == 4)) = true := by
  decide +kernel

theorem test_events :
    (gives (exec (.eventInput 1 3 31) base) (fun t => t.rd (.TH_EVPEND 1 3) == 0x80000000)
      && gives (exec (.evsendDelivery ⟨1, false⟩) (base.setTile 1 { base.tile 1 with evsends := [(0, 0, 1, 2, 3)] }))
        (fun t => t.rd (.TH_EVPEND 1 2) == 0x800 && (t.tile 1).evsends == []) && base.coresRun) = true := by decide +kernel

theorem test_wfe_wake :
    (let s := (((base.setThState 0 0 2).setWait 0 0 (.wfe 31)).wr (.TH_EVPEND 0 0) 3 |>.wr (.TH_EVWE 0 0) 1).wr (.TH_PC 0 0) 0x40
     s.intDue 0 0 == none && s.quiet 0 0
       && gives (exec (.wfeWake ⟨0, 0⟩ 0) s) (fun t => t.thState 0 0 == 1 && t.g 0 0 31 == 1 && t.rd (.TH_EVPEND 0 0) == 2 && t.rd (.TH_PC 0 0) == 0x44)) = true := by
  decide +kernel

/-- CHOPEN of block channel 63, and with its space reserved by another. -/
theorem test_chopen :
    (runs (at0 (mf 61 0 0 0 0x7F)) (mf 61 0 0 0 0x7F) .chopen (fun s => s.reserved 0 0 == none && s.chanWaiters (.block 63) false == [])
        (.chopen i0 (mf 61 0 0 0 0x7F)) (fun t => (t.chan (.block 63)).owner == some (0, 0))
      && runs ((at0 (mf 61 0 0 0 0x7F)).setChan (.block 63) ⟨some (0, 1), [], []⟩) (mf 61 0 0 0 0x7F) .chopen any (.chopen i0 (mf 61 0 0 0 0x7F))
        (fun t => t.thState 0 0 == 3 && (t.thread 0 0).wait == .chopen true 63)) = true := by decide +kernel

theorem test_chput :
    runs (((at0 (mf 61 0 1 1 0)).setChan (.tile 0 4) ⟨some (0, 0), [1, 2, 3], []⟩).wr (.G 0 0 1) 9) (mf 61 0 1 1 0) .chput
      (fun s => s.reserved 0 0 == some (.tile 0 4)) (.chput i0 (mf 61 0 1 1 0)) (fun t => (t.chan (.tile 0 4)).part == [1, 2, 3, 9]) = true := by decide +kernel

theorem test_chclose :
    runs ((at0 (mf 61 0 0 2 0)).setChan (.tile 0 4) ⟨some (0, 0), [1], []⟩) (mf 61 0 0 2 0) .chclose any (.chclose i0 (mf 61 0 0 2 0))
      (fun t => (t.chan (.tile 0 4)).owner == none && (t.chan (.tile 0 4)).part == [] && (t.chan (.tile 0 4)).msgs.map (·.words) == [[1, 0, 0, 0]]
        && (t.chan (.tile 0 4)).msgs.all (fun m => m.sender == some (0, 0) && m.seenBy 0 && !m.seenBy 1)) = true := by decide +kernel

/-- CHGET into G28 to G31, and of an empty channel. -/
theorem test_chget :
    (runs ((at0 (mf 61 28 0 3 31)).setChan (.tile 0 31) ⟨none, [], [⟨[1, 2, 3, 4], none, 0, true⟩]⟩) (mf 61 28 0 3 31) .chget
        (fun s => s.chanWaiters (.tile 0 31) true == []) (.chget i0 (mf 61 28 0 3 31)) (fun t => t.g 0 0 28 == 1 && t.g 0 0 31 == 4)
      && runs ((at0 (mf 61 28 0 3 127)).setChan (.block 63) ⟨none, [], [⟨[5, 6, 7, 8], some (1, 0), 9, false⟩, ⟨[1, 2, 3, 4], some (0, 1), 9, false⟩]⟩)
        (mf 61 28 0 3 127) .chget (fun s => s.getWaiters (.block 63) == []) (.chget i0 (mf 61 28 0 3 127))
        (fun t => t.g 0 0 28 == 1 && (t.chan (.block 63)).msgs.map (·.words) == [[5, 6, 7, 8]])
      && runs (at0 (mf 61 28 0 3 31)) (mf 61 28 0 3 31) .chget any (.chget i0 (mf 61 28 0 3 31))
        (fun t => t.thState 0 0 == 3 && (t.thread 0 0).wait == .chget false 31 28)) = true := by decide +kernel

/-- Thread 3 of tile 0 waits in CHGET: a message serves it; and in CHOPEN: the free space. -/
theorem test_channel_served :
    (let get := ((base.setThState 0 3 3).setWait 0 3 (.chget false 0 4)).setChan (.tile 0 0) ⟨none, [], [⟨[1, 2, 3, 4], none, 0, true⟩]⟩
     let opn := (base.setThState 0 3 3).setWait 0 3 (.chopen true 0)
     get.chanWaiters (chanOf false 0 0) true == [(0, 3)] && get.quiet 0 3 && opn.chanWaiters (chanOf true 0 0) false == [(0, 3)]
       && gives (exec (.channelWaitServed false ⟨0, 0⟩ 0) get) (fun t => t.thState 0 3 == 1 && t.g 0 3 7 == 4 && (t.chan (.tile 0 0)).msgs == [])
       && gives (exec (.channelWaitServed true ⟨0, 0⟩ 0) opn) (fun t => t.thState 0 3 == 1 && (t.chan (.block 0)).owner == some (0, 3))) = true := by decide +kernel

theorem test_chwait_timeout :
    (let s := ((base.setThState 0 3 3).setWait 0 3 (.chget false 0 4)).setField (.TH_CTL 0 3) 8 5 1
     s.quiet 0 3 && decide (s.depth 0 3 < 2) && decide (s.chanLimit 0 3 ≤ 100000)
       && gives (exec (.chwaitTimeout ⟨0, 100000⟩ 3) s) (fun t => t.thState 0 3 == 1 && t.field (.TH_STAT 0 3) 16 8 == 5 && t.rd (.TH_PC 0 3) == 0x200)) = true := by
  decide +kernel

/-! ### Aperture by threads, and the LVU -/

/-- APREQ of 3 grains, and while a request waits. -/
theorem test_apreq :
    (runs (at0 (mf 62 4 0 2 3)) (mf 62 4 0 2 3) .apreq (fun s => !s.apHolds (.thread 0 0)) (.apreq i0 (mf 62 4 0 2 3))
        (fun t => t.g 0 0 4 == 0 && t.apWait == [⟨.thread 0 0, 3⟩] && (t.thread 0 0).readyAt == 8)
      && runs { at0 (mf 62 4 0 2 3) with apWait := [⟨.thread 0 0, 1⟩] } (mf 62 4 0 2 3) .apreq any (.apreq i0 (mf 62 4 0 2 3))
        (fun t => t.g 0 0 4 == 1 && t.apWait == [⟨.thread 0 0, 1⟩])) = true := by decide +kernel

theorem test_aprel :
    (runs { at0 (mf 62 4 0 3 0) with apHeld := [(.thread 0 0, 3)] } (mf 62 4 0 3 0) .aprel any (.aprel i0 (mf 62 4 0 3 0))
        (fun t => t.g 0 0 4 == 0 && t.apHeld == [])
      && runs (at0 (mf 62 4 0 3 0)) (mf 62 4 0 3 0) .aprel any (.aprel i0 (mf 62 4 0 3 0)) (fun t => t.g 0 0 4 == 1)) = true := by decide +kernel

/-- VBIND with PIN of context 3: FREE, BOUND to another, OFF, and by a thread that holds one. -/
theorem test_vbind :
    (let w := mf 62 4 0 0 0xB
     runs ((at0 w).wr (.LV_CSTAT 0 3) 3) w .vbind (fun s => s.build.lvu && s.ready 2 8 && s.boundCtx 0 0 == none) (.vbind i0 w)
         (fun t => t.g 0 0 4 == 3 && t.rd (.LV_CSTAT 0 3) == 0x14)
       && runs ((at0 w).wr (.LV_CSTAT 0 3) 0x104) w .vbind any (.vbind i0 w) (fun t => t.g 0 0 4 == 0x80000001)
       && runs (at0 w) w .vbind (fun s => s.ctxState 0 3 == 0) (.vbind i0 w)
         (fun t => t.ctxState 0 3 == 2 && (t.ctx 0 3).await == some (0, true, 4) && (t.thread 0 0).wait == .vbind 3 && t.rd (.TH_PC 0 0) == 0)
       && runs ((at0 w).wr (.LV_CSTAT 0 1) 4) w .vbind any (.vbind i0 w) (fun t => t.g 0 0 4 == 0x80000003)) = true := by decide +kernel

/-- VFREE with SCRUB, and of the pinned context of a running member. -/
theorem test_vfree :
    (let w := mf 62 0 0 1 0
     let pin := ((((at0 w).wr (.LV_CSTAT 0 0) 0x14).wr (.SC_MEMBER 0 0) 1).setGState 0 2)
     runs ((((at0 w).wr (.LV_CSTAT 0 0) 4).wr (.LV_CTL 0) 0x10100).setCtx 0 0 { ctxReset with v := [(1, 5)] }) w .vfree
         (fun s => s.boundCtx 0 0 == some 0) (.vfree i0 w)
         (fun t => t.ctxState 0 0 == 3 && (t.ctx 0 0).v == [] && (t.thread 0 0).readyAt == 260)
       && runs pin w .vfree (fun s => s.liveMember 0 0 && s.flag (.LV_CSTAT 0 0) 4) (.vfree i0 w)
         (fun t => t.ctxState 0 0 == 4 && t.rd (.LV_STAT 0) == 1)) = true := by decide +kernel

theorem test_ctx_idle_and_down :
    (let idle := (base.wr (.LV_CSTAT 0 1) 3).wr (.LV_IDLE 0) 2
     let down := (base.wr (.LV_CSTAT 0 1) 5).setCtx 0 1 { ctxReset with v := [(1, 5)] }
     base.hasCtx 0 1
       && gives (exec (.lvIdlePowerDown 0 1) idle) (fun t => t.ctxState 0 1 == 5 && t.now == 3200)
       && gives (exec (.lvuContextDownEnd 0 1) down) (fun t => t.ctxState 0 1 == 0 && (t.ctx 0 1).v == [])
       && gives (exec (.lvuContextDownEnd 0 1) (down.wr (.LV_CTL 0) 2)) (fun t => t.ctxState 0 1 == 1 && (t.ctx 0 1).v == [(1, 5)])) = true := by decide +kernel

theorem test_ctx_ramp :
    gives (exec (.lvuRampEnd 0 1) { base.wr (.LV_CSTAT 0 1) 2 with apHeld := [(.lvuWake 0 1, 8)] })
      (fun t => t.apHeld == [] && (t.ctx 0 1).restoring && t.ctxState 0 1 == 2) = true := by decide +kernel

/-- The restore of a wake from OFF that thread 0 awaits with PIN, its number into G4. -/
theorem test_ctx_restore :
    (let s := ((base.wr (.LV_CSTAT 0 1) 2).setCtx 0 1 { ctxReset with v := [(1, 5)], restoring := true, await := some (0, true, 4) }).setWait 0 0 (.vbind 1)
     s.quiet 0 0 && gives (exec (.lvuRestoreEnd ⟨0, 0⟩ 1) s) (fun t => t.rd (.LV_CSTAT 0 1) == 0x14 && (t.ctx 0 1).v == [] && t.g 0 0 4 == 1
       && (t.thread 0 0).wait == .none)
       && gives (exec (.lvuRestoreEnd ⟨0, 0⟩ 1) (s.setCtx 0 1 { ctxReset with v := [(1, 5)], restoring := true, retained := true }))
         (fun t => t.ctxState 0 1 == 3 && (t.ctx 0 1).v == [(1, 5)])) = true := by decide +kernel

/-- The host port. -/
def host : Src := .port 0 true

/-- A write of `v` to `r` by the host port is admitted, as are the further hypotheses, and the command gives a state of which `p` holds. -/
def writes (s : State) (r : Reg) (v : Word) (h : Bool) (c : Instr) (p : State → Bool) : Bool := s.admits host r v && h && gives (exec c s) p

/-- The host port is refused with STATE. -/
def refused (t : State) : Bool := mget t.resp ⟨.decerr, none⟩ 0 == ⟨.refused, some 8⟩

theorem test_lv_ctl :
    (writes base (.LV_CTL 0) 0x1010F ((base.pd 16).phase == .off) (.lvCtlWrite host 0 0x1010F)
        (fun t => t.rd (.LV_CTL 0) == 0x1010F && (t.pd 16).phase == .rampUp)
      && writes ((base.wr (.LV_CTL 0) 0x10000).wr (.LV_CSTAT 0 2) 4) (.LV_CTL 0) 0 true (.lvCtlWrite host 0 0)
        (fun t => refused t && t.rd (.LV_CTL 0) == 0x10000)) = true := by decide +kernel

/-- Context 0 is bound to thread 0, which is at an instruction `w`. -/
def lv (w : Word) (x : Ctx) : State := ((at0 w).wr (.LV_CSTAT 0 0) 4).setCtx 0 0 x

/-- SEW 64: VL is cut to 32. -/
theorem test_vsetvl :
    runs ((lv (mf 24 4 1 4 0) ctxReset).wr (.G 0 0 1) 33) (mf 24 4 1 4 0) .vsetvl (fun s => s.boundCtx 0 0 == some 0) (.vsetvl i0 (mf 24 4 1 4 0))
      (fun t => t.g 0 0 4 == 32 && (t.ctx 0 0).vl == 32 && (t.ctx 0 0).sew == 4) = true := by decide +kernel

/-- Field 5, and imm12 1, are ILLEGAL. -/
theorem test_vsetvl_illegal :
    [mf 24 4 1 5 0, mf 24 4 1 4 1].all (fun w =>
      let s := lv w ctxReset
      s.hasThread 0 0 && s.mayIssue i0 && opcode w == 0x18 && (decide (4 < fI w) || imm12 w != 0)
        && (match s.fetch 0 0 w with | (s', .run) => s'.unbroken 0 0 && (s'.boundCtx 0 0).isSome && !s'.flag (.TL_FREC 0 0) 31 | _ => false)
        && gives (exec (.vsetvl i0 w) s) (stopped 1 0 0)) = true := by decide +kernel

/-- VADD at SEW 8 over 2 elements wraps within each; the third stays. -/
theorem test_vadd :
    runs (lv (rf 25 3 1 2 0x10) { ctxReset with v := [(1, 0x01FF), (2, 0x010101), (3, 0x770000)], vl := 2, sew := 1 }) (rf 25 3 1 2 0x10) .vint any
      (.vectorIntegerOp i0 (rf 25 3 1 2 0x10)) (fun t => (t.ctx 0 0).vreg 3 == 0x770200) = true := by decide +kernel

/-- VPOPC with VL 0 leaves Gd; VMSLT under a mask writes bit 1 alone. -/
theorem test_vint_ends :
    (runs ((lv (rf 25 4 1 0 0x40) { ctxReset with sew := 1 }).wr (.G 0 0 4) 7) (rf 25 4 1 0 0x40) .vint any (.vectorIntegerOp i0 (rf 25 4 1 0 0x40))
        (fun t => t.g 0 0 4 == 7)
      && runs (lv (rf 25 3 1 2 0x422) { ctxReset with v := [(0, 2), (1, 0xFFFF), (3, 0xFF)], vl := 2, sew := 1 }) (rf 25 3 1 2 0x422) .vint any
        (.vectorIntegerOp i0 (rf 25 3 1 2 0x422)) (fun t => (t.ctx 0 0).vreg 3 == 0xFF)
      && runs (lv (rf 25 3 1 2 0x422) { ctxReset with v := [(0, 2), (3, 0xFF)], vl := 2, sew := 1 }) (rf 25 3 1 2 0x422) .vint any
        (.vectorIntegerOp i0 (rf 25 3 1 2 0x422)) (fun t => (t.ctx 0 0).vreg 3 == 0xFD)) = true := by decide +kernel

/-- 127 + 1 at SEW 8 saturates. -/
theorem test_vsadd :
    runs (lv (rf 26 3 1 2 0) { ctxReset with v := [(1, 0x7F), (2, 1)], vl := 1, sew := 1 }) (rf 26 3 1 2 0) .vfix any
      (.vectorFixedPointOp i0 (rf 26 3 1 2 0)) (fun t => (t.ctx 0 0).vreg 3 == 0x7F && (t.ctx 0 0).vsat) = true := by decide +kernel

/-- VSSRA of -3 by 1 to nearest, ties up, is -1; VQMUL at SEW 8 is ILLEGAL. -/
theorem test_vfix_ends :
    (runs (lv (rf 26 3 1 2 0x19) { ctxReset with v := [(1, 0xFD), (2, 1)], vl := 1, sew := 1, vxrm := 1 }) (rf 26 3 1 2 0x19) .vfix any
        (.vectorFixedPointOp i0 (rf 26 3 1 2 0x19)) (fun t => (t.ctx 0 0).vreg 3 == 0xFF && !(t.ctx 0 0).vsat)
      && runs (lv (rf 26 3 1 2 0x10) { ctxReset with vl := 1, sew := 1 }) (rf 26 3 1 2 0x10) .vfix any
        (.vectorFixedPointOp i0 (rf 26 3 1 2 0x10)) (fun t => t.thState 0 0 == 5 && t.field (.TL_FREC 0 0) 8 8 == 1)) = true := by decide +kernel

/-- 1.0 + 2.0 in binary32; 1.0 / 0.0; an operand that is not boxed is a quiet NaN. -/
theorem test_fadd :
    (let one := 0xFFFFFFFF3F800000
     let w := rf 30 3 1 2 0
     let div := rf 30 3 1 2 3
     runs (lv w { ctxReset with v := [(1, one), (2, 0xFFFFFFFF40000000)] }) w .sfp any (.scalarFpOp i0 w)
         (fun t => (t.ctx 0 0).vreg 3 == 0xFFFFFFFF40400000 && (t.ctx 0 0).fcsr == 0)
       && runs (lv div { ctxReset with v := [(1, one), (2, 0xFFFFFFFF00000000)] }) div .sfp any (.scalarFpOp i0 div)
         (fun t => (t.ctx 0 0).vreg 3 == 0xFFFFFFFF7F800000 && (t.ctx 0 0).fcsr != 0)
       && runs (lv w { ctxReset with v := [(1, 0x3F800000), (2, one)] }) w .sfp any (.scalarFpOp i0 w)
         (fun t => (t.ctx 0 0).vreg 3 == 0xFFFFFFFF7FC00000)) = true := by decide +kernel

/-- FLT, FCVT.W of -2.5 to nearest even, FCVT of an integer, FMV both ways. -/
theorem test_fmoves :
    ([(rf 30 4 1 2 0x11, (1 : Word)), (rf 30 4 1 2 0x18, 0xFFFFFFFE), (rf 30 4 1 2 0x1C, 0xC0200000)].all (fun x =>
      runs (lv x.1 { ctxReset with v := [(1, 0xFFFFFFFFC0200000), (2, 0xFFFFFFFF3F800000)] }) x.1 .sfp any (.scalarFpOp i0 x.1)
        (fun t => t.g 0 0 4 == x.2))
     && runs ((lv (rf 30 3 1 0 0x19) ctxReset).wr (.G 0 0 1) 0xFFFFFFFF) (rf 30 3 1 0 0x19) .sfp any (.scalarFpOp i0 (rf 30 3 1 0 0x19))
        (fun t => (t.ctx 0 0).vreg 3 == 0xFFFFFFFFBF800000)) = true := by decide +kernel

/-- 1/3 in binary32, rounded down: the result is below the exact value. -/
theorem test_round_down : (b32.round 2 false 1 0).bits = 0x3F800000 ∧ (b32.arith 2 3 0x3F800000 0x40400000 0).bits = 0x3EAAAAAA := by decide +kernel

/-- VFADD at SEW 32 under a mask; at SEW 16 it is ILLEGAL. -/
theorem test_vfadd :
    (let w := rf 31 3 1 2 0x400
     runs (lv w { ctxReset with v := [(0, 2), (1, 0x3F8000003F800000), (2, 0x4000000040000000), (3, 7)], vl := 2, sew := 3 }) w .vfp any
         (.vectorFpOp i0 w) (fun t => (t.ctx 0 0).vreg 3 == 0x4040000000000007)
       && runs (lv w { ctxReset with vl := 1, sew := 2 }) w .vfp any (.vectorFpOp i0 w) (fun t => t.thState 0 0 == 5)) = true := by decide +kernel

/-- VFLT and VFCVT.X of -2.5. -/
theorem test_vf_others :
    (runs (lv (rf 31 3 1 2 0x11) { ctxReset with v := [(1, 0xC0200000), (2, 0)], vl := 1, sew := 3 }) (rf 31 3 1 2 0x11) .vfp any
        (.vectorFpOp i0 (rf 31 3 1 2 0x11)) (fun t => (t.ctx 0 0).vreg 3 == 1)
      && runs (lv (rf 31 3 1 0 0x18) { ctxReset with v := [(1, 0xC0200000)], vl := 1, sew := 3 }) (rf 31 3 1 0 0x18) .vfp any
        (.vectorFpOp i0 (rf 31 3 1 0 0x18)) (fun t => (t.ctx 0 0).vreg 3 == 0xFFFFFFFE)) = true := by decide +kernel

/-- Unit-stride at SEW 16 from 0x100, and with the base misaligned at SEW 32: exception 0x06. -/
theorem test_vload :
    (let w := rf 27 3 1 0 0
     let x := { ctxReset with v := [(3, 0x99990000)], vl := 1, sew := 2 }
     runs (((lv w x).wr (.G 0 0 1) 0x100).putWord (spBase 0 + 0x100) 0xBEEF1234) w .vload
         (fun s => Spec.padOk s 0 0 .load (Spec.elemAddr s 0 0 x w 16 0) 2) (.vectorLoad i0 w ⟨[], false, false⟩)
         (fun t => (t.ctx 0 0).vreg 3 == 0x99991234)
       && runs ((lv w { x with sew := 3 }).wr (.G 0 0 1) 0x102) w .vload (fun s => decide (s.depth 0 0 < 2)) (.vectorLoad i0 w ⟨[], false, false⟩)
         (fun t => t.field (.TH_STAT 0 0) 16 8 == 6 && (t.ctx 0 0).vfcause == 2 && (t.ctx 0 0).vfaddr == 0x102)) = true := by decide +kernel

/-- The scalar F form of 4 bytes; SEW 1 over 32 bits under a mask. -/
theorem test_vload_forms :
    (let f := rf 27 3 1 2 4
     let m := rf 27 3 1 0 0x400
     runs (((lv f ctxReset).wr (.G 0 0 1) 0x100 |>.wr (.G 0 0 2) 4).putWord (spBase 0 + 0x104) 0x3F800000) f .vload (fun _ => Spec.scalarF f)
         (.vectorLoad i0 f ⟨[], false, false⟩) (fun t => (t.ctx 0 0).vreg 3 == 0xFFFFFFFF3F800000)
       && runs (((lv m { ctxReset with v := [(0, 0xF0)], vl := 32 }).wr (.G 0 0 1) 0x100).putWord (spBase 0 + 0x100) 0xAA) m .vload any
         (.vectorLoad i0 m ⟨[], false, false⟩) (fun t => (t.ctx 0 0).vreg 3 == 0xA0)) = true := by decide +kernel

/-- VGATHER at SEW 32: byte offsets from V2; with VL 0 nothing changes. -/
theorem test_vgather :
    (let w := rf 28 3 1 2 0
     runs (((lv w { ctxReset with v := [(2, 0x800000004)], vl := 2, sew := 3 }).putWord (spBase 0 + 4) 5).putWord (spBase 0 + 8) 6) w .vgather any
         (.vectorGather i0 w ⟨[], false, false⟩) (fun t => (t.ctx 0 0).vreg 3 == 0x600000005)
       && runs (lv w { ctxReset with v := [(3, 1)], sew := 3 }) w .vgather any (.vectorGather i0 w ⟨[], false, false⟩)
         (fun t => (t.ctx 0 0).vreg 3 == 1 && (t.thread 0 0).readyAt == 4)) = true := by decide +kernel

/-- Strided by 2 bytes at SEW 16; the scalar F form of 8 bytes. -/
theorem test_vstore :
    (let w := rf 27 3 1 2 3
     let f := rf 27 3 1 2 13
     runs ((lv w { ctxReset with v := [(3, 0x22221111)], vl := 2, sew := 2 }).wr (.G 0 0 1) 0x100 |>.wr (.G 0 0 2) 4) w .vstore (fun s => s.inOrder) (.vectorStore i0 ⟨w, ⟨[], false, false⟩⟩)
         (fun t => t.memWord (spBase 0 + 0x100) == 0x1111 && t.memWord (spBase 0 + 0x104) == 0x2222)
       && runs ((lv f { ctxReset with v := [(3, 0x1122334455667788)] }).wr (.G 0 0 1) 0x100) f .vstore (fun _ => Spec.scalarF f) (.vectorStore i0 ⟨f, ⟨[], false, false⟩⟩)
         (fun t => t.memWord (spBase 0 + 0x100) == 0x55667788 && t.memWord (spBase 0 + 0x104) == 0x11223344)) = true := by decide +kernel

/-- SEW 1 over 32 bits under a mask; a misaligned store leaves memory. -/
theorem test_vstore_forms :
    (let w := rf 27 3 1 0 0x401
     let u := rf 27 3 1 0 1
     runs (((lv w { ctxReset with v := [(0, 0xF0), (3, 0xAA)], vl := 32 }).wr (.G 0 0 1) 0x100).putWord (spBase 0 + 0x100) 0x5F) w .vstore any (.vectorStore i0 ⟨w, ⟨[], false, false⟩⟩)
         (fun t => t.memWord (spBase 0 + 0x100) == 0xAF)
       && runs ((lv u { ctxReset with v := [(3, 5)], vl := 1, sew := 3 }).wr (.G 0 0 1) 0x101) u .vstore any (.vectorStore i0 ⟨u, ⟨[], false, false⟩⟩)
         (fun t => t.field (.TH_STAT 0 0) 16 8 == 6 && t.memWord (spBase 0 + 0x100) == 0)) = true := by decide +kernel

/-- Two elements of one address: the last one stays. -/
theorem test_vscatter :
    (let w := rf 28 3 1 2 1
     runs ((lv w { ctxReset with v := [(2, 0x800000008), (3, 0x600000005)], vl := 2, sew := 3 }).wr (.G 0 0 1) 0x100) w .vscatter any (.vectorScatter i0 w)
       (fun t => t.memWord (spBase 0 + 0x108) == 6)) = true := by decide +kernel

/-! ### Resets, clocks, power domains and memories -/

/-- Thread 0 of tile 0 executes the boot ROM, and TIMERS and GZ are ready. -/
def booted (t : State) : Bool :=
  !t.clk.held && t.thState 0 0 == 1 && t.rd (.TH_PC 0 0) == 0x0F800000 && t.thState 0 15 == 0 && t.ready 3 4 && t.ready 3 5

theorem test_porst :
    (gives (exec .porstNAssert (base.wr .TB_LO 5)) (fun t => t.clk.porst && !t.clk.running && t.now == 0 && t.blk == 1 && t.rd (.BLK_READY 0) == 0)
      && (let s := { base with clk := { base.clk with porst := true, clkAck := true, held := true } }
          !s.clk.sysrst && (s.pd 1).phase == .on && (s.pd 8).phase == .on && gives (exec .porstNDeassert s) booted)
      && gives (exec .porstNDeassert { base with clk := { base.clk with porst := true, clkAck := false, held := true } }) (fun t => t.clk.held)) = true := by
  decide +kernel

/-- An AO register keeps its value, and AP_TILEEN its request field. -/
theorem test_sysrst :
    (let s := ((base.wr .AP_WAKEEN 3).wr .AP_TILEEN 3).wr .AP_CFG 7
     s.blk != 0 && gives (exec .sysrstNAssert s) (fun t => t.clk.held && t.rd .AP_WAKEEN == 3 && t.rd .AP_TILEEN == 3 && t.rd .AP_CFG == 0x3FF
       && t.flag .BLK_RSTCAUSE 1)
       && gives (exec .sysrstNDeassert { base with clk := { base.clk with sysrst := true, held := true, running := true } }) booted) = true := by decide +kernel

/-- Back from LFCLK at 1601: rounded up to 1640. -/
theorem test_clk_ack :
    (let s := { (base.setFlag .TB_STAT 0 true).wr .TB_LO 1601 with clk := { base.clk with clkAck := false, running := false } }
     s.clk.clkReq && !s.clk.porst && !s.clk.held
       && gives (exec .clkAckRise s) (fun t => t.clk.running && t.now == 1640 && !t.flag .TB_STAT 0)
       && gives (exec .clkAckFall base) (fun t => !t.clk.running && !t.clk.clkAck)) = true := by decide +kernel

/-- Domain 23, the LVU of tile 7, through its handshakes. -/
theorem test_domain_up :
    (let d := base.pd 23
     base.hasDomain 23
       && gives (exec (.pdAckRise 23) (base.setPd 23 { d with phase := .rampUp, want := true })) (fun t => (t.pd 23).phase == .inReset && t.flag .BLK_PDSTAT 23)
       && gives (exec (.domainResetRelease 23) (base.setPd 23 { d with phase := .inReset, want := true, lost := true }))
         (fun t => (t.pd 23).phase == .on && !(t.pd 23).lost && t.ready 2 15)) = true := by decide +kernel

theorem test_domain_down :
    (let d := base.pd 9
     gives (exec (.domainDrainEnd 9) (base.setPd 9 { d with phase := .draining, req := true })) (fun t => (t.pd 9).phase == .rampDown && !(t.pd 9).req)
       && gives (exec (.pdAckFall 9) (base.setPd 9 { d with phase := .rampDown, want := true })) (fun t => (t.pd 9).phase == .rampUp && (t.pd 9).req)
       && gives (exec (.pdAckFall 9) (base.setPd 9 { d with phase := .rampDown, want := false })) (fun t => (t.pd 9).phase == .off)) = true := by decide +kernel

theorem test_domain_lost :
    (let d := base.pd 8
     gives (exec (.pdAckLost 8) (base.setPd 8 { d with phase := .on, req := true }))
         (fun t => (t.pd 8).phase == .rampUp && (t.pd 8).lost && !t.ready 2 0 && t.flag .BLK_RSTCAUSE 2)
       && gives (exec (.pdTimeout 9) (base.setPd 9 { d with phase := .rampUp }))
         (fun t => t.flag .BLK_PDSTAT 31 && t.latched 122 && (t.pd 9).phase == .rampUp)) = true := by decide +kernel

/-- With the divided clocks running, and stopped. -/
theorem test_budget :
    (gives (exec (.pwrBudgetAccept 1023) base) (fun t => t.budget == 1023 && t.rd .AP_STAT == base.rd .AP_STAT)
      && (let s := { base with clk := { base.clk with running := false } }
          gives (exec (.pwrBudgetAccept 1023) s) (· == s))) = true := by decide +kernel

/-- MAIN's reset is released last; SYSRST_N in OFF; a CLK_ACK with the timebase in TMRCLK mode. -/
theorem test_resets_apart :
    (let s := { base with clk := { base.clk with running := true, held := true } }.setPd 1 { base.pd 1 with phase := .inReset }
     let o := base.setField .BLK_STATE 0 4 0
     let c := { base.wr .TB_LO 1601 with clk := { base.clk with clkAck := false } }
     gives (exec (.domainResetRelease 1) s) booted
       && gives (exec .sysrstNAssert o) (· == { o with clk := { o.clk with sysrst := true } })
       && gives (exec .clkAckRise c) (fun t => t.clk.running && t.now == 1601)) = true := by decide +kernel

/-- In the reset of a domain: the power-down asked for meanwhile, the block held, and a lost bank whose grant is still held. -/
theorem test_domain_reset :
    (let x := base.pd 7
     gives (exec (.domainResetRelease 9) (base.setPd 9 { x with phase := .inReset, want := false })) (fun t => (t.pd 9).phase == .draining)
       && gives (exec (.domainResetRelease 9) { base.setPd 9 { x with phase := .inReset } with clk := { base.clk with held := true } })
         (fun t => (t.pd 9).phase == .due)
       && gives (exec (.domainResetRelease 7) { base.setPd 7 { x with phase := .inReset, want := true, lost := true } with apHeld := [(.bank 24, 2)] })
         (fun t => (t.pd 7).phase == .on && t.clears == [.bank 24] && t.apWaits (.bank 31))) = true := by decide +kernel

/-- Two bytes of bank 31 and one beyond it. -/
theorem test_memory_clear :
    (let s := { (base.setPd 7 { base.pd 7 with phase := .on }).wr (.BLK_READY 0) 0 with clears := [.bank 31], mem := [(smBase + 0x7C0000, 1), (smBase + 0x7FFFFF, 2), (spBase 0, 3)] }
     s.inOrder && gives (exec (.memoryClearEnd (.bank 31)) s) (fun t => t.mem == [(spBase 0, 3)] && t.clears == [] && t.ready 0 31)) = true := by decide +kernel

theorem test_kept_memory :
    (let s := { base.setPd 7 { base.pd 7 with phase := .on } with mem := [(smBase + 0x7C0000, 1)] }.wr (.BLK_READY 0) 0
     gives (exec (.keptMemoryReady (.bank 31)) s) (fun t => t.ready 0 31 && t.mem == s.mem)
       && gives (exec (.bankRetentionReturn (.bank 31)) { base with opened := [.bank 30, .bank 31] }) (fun t => t.opened == [.bank 30])) = true := by decide +kernel

/-- Bank 4 may be cleared; bank 3 holds code. -/
theorem test_clrreq :
    (let s := base.setPd 4 { base.pd 4 with phase := .on }
     writes s .SM_CLRREQ 0x10 (!s.clrReqRefused 0x10) (.smClrreqWrite host 0x10)
        (fun t => t.rd .SM_CLRREQ == 0x10 && t.apWait == [⟨.bank 4, 2⟩])
      && writes base .SM_CLRREQ 0x18 true (.smClrreqWrite host 0x18) (fun t => refused t && t.flag .SM_PDSTAT 0 && t.rd .SM_CLRREQ == 0)) = true := by decide +kernel

theorem test_pdctl :
    (writes base .SM_PDCTL 8 (!base.pdCtlRefused 8 && (base.pd 7).phase == .off) (.smPdctlWrite host 8) (fun t => t.field .SM_PDCTL 0 4 == 8 && (t.pd 7).phase == .rampUp)
      && writes (base.wr .SM_PDCTL 1) .SM_PDCTL 0 true (.smPdctlWrite host 0) (fun t => refused t && t.rd .SM_PDCTL == 1)) = true := by decide +kernel

/-- The last word of shared memory, bytes 0 and 3: owed by the latest DMA write of bank 31, and not. -/
theorem test_collision_replay :
    (let s := { base.setPd 7 { base.pd 7 with phase := .on } with dmaLast := [(31, smBase + 0x7FFFFC, [0x11, 0x22, 0x33, 0x44])] }
     s.bankServed (smBase + 0x7FFFFC) && s.inOrder && s.viewOf (smBase + 0x7FFFFC) == none && s.viewOf (smBase + 0x7FFFFF) == none
       && gives (exec (.collisionReplay (smBase + 0x7FFFFC) 0x44332211 0b1001) s)
         (fun t => t.memWord (smBase + 0x7FFFFC) == 0x44000011 && t.rd .SM_COLLCNT == 1)
       && gives (exec (.collisionReplay (smBase + 0x7FFFFC) 0x45332211 0b1001) s) (· == s)) = true := by decide +kernel

theorem test_ecc_write_back :
    gives (exec (.eccWriteBack (spBase 7)) { base with writeBacks := [spBase 7], ecc := [(spBase 7, .correctable)] })
      (fun t => t.writeBacks == [] && t.ecc == []) = true := by decide +kernel

/-! ### Accesses of the host ports -/

/-- Thread 0 of tile 0, storing to the setup space. -/
def th0 : Src := .thread 0 0 false

/-- The same write, by thread 0 of tile 0, which is ACTIVE. -/
def stores (s : State) (r : Reg) (v : Word) (h : Bool) (c : Instr) (p : State → Bool) : Bool :=
  s.admits th0 r v && s.thState 0 0 == 1 && h && gives (exec c s) p

/-- What a port was last answered. -/
def answered (t : State) (p : Nat) (r : Response) : Bool := mget t.resp ⟨.decerr, none⟩ p == r

/-- RW bits only, a W1C bit, and the last register of a family. -/
theorem test_register_write :
    (writes base (.TL_DLGRACE 7) 0xFFFFFFFF true (.registerWrite host ((regOffset (.TL_DLGRACE 7)).getD 0) 0xFFFFFFFF)
        (fun t => t.rd (.TL_DLGRACE 7) == 0xFFFFFF && answered t 0 ⟨.okay, none⟩)
      && writes base (.LV_IDLE 7) 5 true (.registerWrite host ((regOffset (.LV_IDLE 7)).getD 0) 5) (fun t => t.rd (.LV_IDLE 7) == 5)) = true := by
  decide +kernel

/-- A port without rights to the page; the record of the first refusal stays, and MULTI sets. -/
theorem test_register_write_refused :
    (let s := base.wr (.HP_WRMASK 1 0) 0
     let o := (regOffset .AP_WAKEEN).getD 0
     s.writeCheck (.port 1 true) o 7 == .refused .rights
       && gives (exec (.registerWrite (.port 1 true) o 7) s) (fun t => t.rd .AP_WAKEEN == s.rd .AP_WAKEEN && t.flag (.HP_REFSTAT 1) 31
         && !t.flag (.HP_REFSTAT 1) 30 && t.field (.HP_REFSTAT 1) 0 8 == Cause.rights.code && t.rd (.HP_REFADDR 1) == 0x2014)
       && gives (exec (.registerWrite (.port 1 true) o 7) (s.setFlag (.HP_REFSTAT 1) 31 true)) (fun t => t.flag (.HP_REFSTAT 1) 30
         && t.rd (.HP_REFADDR 1) == 0)) = true := by decide +kernel

theorem test_register_read :
    (let o := (regOffset (.TL_DLGRACE 7)).getD 0
     base.decodeFor (.port 1 false) o == .reg (.TL_DLGRACE 7) && base.readCheck (.port 1 false) o == .ok
       && gives (exec (.subordinateRead 1 false o) base) (fun t => answered t 1 ⟨.okay, some (if o / 4 % 2 = 1 then 0x400000000000 else 0x4000)⟩)) = true := by
  decide +kernel

/-- The last doubleword of the last scratchpad: a read, and a write of bytes 1 and 7. -/
theorem test_scratchpad_access :
    (let a := spBase 7 + 0x7FFF8
     let s := base.putWord a 0x04030201
     base.hasTile 7 && s.memIsReady a && s.inOrder && s.allIdle
       && gives (exec (.subordinateRead 0 false a) s) (fun t => answered t 0 ⟨.okay, some 0x04030201⟩)
       && gives (exec (.subordinateWrite 0 false a ⟨0x8877665544332211, none⟩ 0x82) s)
         (fun t => t.memWord a == 0x04032201 && t.memWord (a + 4) == 0x88000000 && answered t 0 ⟨.okay, none⟩ && t.regs == s.regs)) = true := by decide +kernel

/-- A read of a tile that is not ready; and both ports write a register in one cycle: port A's write is the later where bit 2 of the offset is 0. -/
theorem test_ports_together :
    (let s := base.wr (.BLK_READY 2) 0
     let o := (regOffset (.TL_DLGRACE 7)).getD 0
     s.readCheck (.port 1 false) o == .refused .notready
       && gives (exec (.subordinateRead 1 false o) s) (fun t => answered t 1 ⟨.refused, some (BitVec.ofNat 64 Cause.notready.code)⟩
         && t.field (.HP_REFSTAT 1) 0 8 == Cause.notready.code && t.rd (.HP_REFADDR 1) == BitVec.ofNat 32 (o / 8 * 8))
       && base.admits (.port 0 false) (.TM_PMHI 0) 2 && base.admits (.port 1 false) (.TM_PMHI 0) 5 && regOffset (.TM_PMHI 0) == some 0x6020
       && (base.wr (.TM_PMHI 0) 5).admits (.port 0 false) (.TM_PMHI 0) 2
       && gives (exec (.subordinateWrite 0 false 0x6020 ⟨2, (some ⟨false, 5, 0x0F⟩)⟩ 0x0F) base)
         (fun t => t.rd (.TM_PMHI 0) == 2 && answered t 0 ⟨.okay, none⟩ && answered t 1 ⟨.okay, none⟩)
       && regOffset (.CN_MAPID 0) == some 0x30014 && (base.wr (.CN_MAPID 0) 2).admits (.port 1 false) (.CN_MAPID 0) 5
       && gives (exec (.subordinateWrite 0 false 0x30014 ⟨0x200000000, (some ⟨false, 0x500000000, 0xF0⟩)⟩ 0xF0) base)
         (fun t => t.rd (.CN_MAPID 0) == 5)) = true := by decide +kernel

theorem test_hole_and_partial :
    (base.decodeFor (.port 0 false) 0x50000 == .decerr
      && gives (exec (.subordinateRead 0 false 0x50000) base) (fun t => answered t 0 ⟨.decerr, some 0⟩)
      && base.decodeFor host 0x2010 == .reg .AP_WAKEEN
      && gives (exec (.subordinateWrite 0 true 0x2010 ⟨0xFF, none⟩ 0x01) base)
        (fun t => answered t 0 ⟨.refused, some (BitVec.ofNat 64 Cause.partialStrobe.code)⟩ && t.rd .AP_WAKEEN == base.rd .AP_WAKEEN)) = true := by decide +kernel

theorem test_blk_state_req :
    (stores ((base.setField .BLK_STATE 0 4 3)) .BLK_STATE 0x10000 true (.blkStateReqBoot th0) (fun t => t.blk == 1 && t.field .BLK_STATE 4 4 == 3)
      && stores base .BLK_STATE 0x30000 (base.blk == 1) (.blkStateReqTest th0) (fun t => t.blk == 3 && t.field .BLK_STATE 4 4 == 1)
      && writes (base.setField .BLK_STATE 0 4 4) .BLK_STATE 0x20000 true (.blkStateReqRun host) (fun t => t.blk == 2)
      && writes base .BLK_STATE 0x20000 true (.blkStateReqRun host) (fun t => refused t && t.blk == 1)) = true := by decide +kernel

theorem test_bootdone :
    (stores base .BLK_BOOTDONE 0x5EA10000 base.lockOpen (.blkBootdoneWrite th0 0x5EA10000)
        (fun t => t.flag .BLK_BOOTDONE 0 && t.blk == 2 && t.field .BLK_STATE 4 4 == 1 && !t.lockOpen)
      && writes base .BLK_BOOTDONE 0x5EA10000 true (.blkBootdoneWrite host 0x5EA10000) (fun t => refused t && t.blk == 1)) = true := by decide +kernel

/-- Word 0 with its mark, the last word, and outside BOOT. -/
theorem test_bootptr :
    (writes base (.BLK_BOOTPTR 0) 0x1001 true (.blkBootptrWrite host 0 0x1001) (fun t => t.rd (.BLK_BOOTPTR 0) == 0x1001 && t.rd (.TH_EVPEND 0 0) == 0x800)
      && writes base (.BLK_BOOTPTR 1) 7 true (.blkBootptrWrite host 1 7) (fun t => t.rd (.BLK_BOOTPTR 1) == 7 && t.rd (.TH_EVPEND 0 0) == 0)
      && writes (base.setField .BLK_STATE 0 4 2) (.BLK_BOOTPTR 0) 1 true (.blkBootptrWrite host 0 1) (fun t => refused t && t.rd (.BLK_BOOTPTR 0) == 0)) = true := by
  decide +kernel

/-- Semaphore 31: free, held by the other port, and released. -/
theorem test_semaphore :
    (let p : Src := .port 1 false
     let s := { base with build := ⟨0, true, 16⟩ }
     let held := base.wr (.HP_SEM 31) 0x101
     let mine := s.wr (.HP_SEM 31) 0x201
     base.admits p (.HP_SEM 31) 1 && gives (exec (.hpSemAcquire 1 ⟨31, false⟩) base) (fun t => t.rd (.HP_SEM 31) == 0x201 && answered t 1 ⟨.okay, none⟩)
       && held.admits p (.HP_SEM 31) 1 && gives (exec (.hpSemAcquire 1 ⟨31, false⟩) held)
         (fun t => t.rd (.HP_SEM 31) == 0x101 && answered t 1 ⟨.refused, some (BitVec.ofNat 64 Cause.semaphore.code)⟩)
       && mine.admits p (.HP_SEM 31) 0 && gives (exec (.hpSemRelease 1 31) mine)
         (fun t => t.rd (.HP_SEM 31) == 0 && t.flag (.TH_EVPEND 0 15) 20 && answered t 1 ⟨.okay, none⟩)) = true := by decide +kernel

/-- Both ports acquire in one cycle: an even number, and an odd one; an acquisition of one's own; a release of another's. -/
theorem test_semaphore_ties :
    (let p : Src := .port 1 false
     let mine := base.wr (.HP_SEM 31) 0x201
     base.admits (.port 0 false) (.HP_SEM 31) 1 && base.admits p (.HP_SEM 30) 1
       && gives (exec (.hpSemAcquire 0 ⟨30, true⟩) base) (fun t => t.rd (.HP_SEM 30) == 0x101 && answered t 0 ⟨.okay, none⟩
         && answered t 1 ⟨.refused, some (BitVec.ofNat 64 Cause.semaphore.code)⟩)
       && gives (exec (.hpSemAcquire 0 ⟨31, true⟩) base) (fun t => t.rd (.HP_SEM 31) == 0x201 && answered t 1 ⟨.okay, none⟩)
       && mine.admits p (.HP_SEM 31) 1 && gives (exec (.hpSemAcquire 1 ⟨31, false⟩) mine) (fun t => t.regs == mine.regs && answered t 1 ⟨.okay, none⟩)
       && mine.admits (.port 0 false) (.HP_SEM 31) 0
       && gives (exec (.hpSemRelease 0 31) mine) (fun t => t.rd (.HP_SEM 31) == 0x201 && !answered t 0 ⟨.okay, none⟩)
       && base.admits th0 .HP_SEMBRK 1
       && gives (exec (.hpSembrk th0 1) (base.wr (.HP_SEM 0) 0x101)) (fun t => t.thState 0 0 == 5 && t.rd (.HP_SEM 0) == 0x101)) = true := by
  decide +kernel

/-- Requests turned away: from a port, in another state, and a second BLK_BOOTDONE. -/
theorem test_blk_state_refused :
    (writes (base.setField .BLK_STATE 0 4 3) .BLK_STATE 0x10000 true (.blkStateReqBoot host) (fun t => refused t && t.blk == 3)
      && stores base .BLK_STATE 0x10000 (base.blk != 3) (.blkStateReqBoot th0) (fun t => t.thState 0 0 == 5 && t.blk == 1)
      && writes base .BLK_STATE 0x30000 true (.blkStateReqTest host) (fun t => refused t && t.blk == 1)
      && stores (base.setFlag .BLK_BOOTDONE 0 true) .BLK_BOOTDONE 0x5EA10000 true (.blkBootdoneWrite th0 0x5EA10000)
        (fun t => t.thState 0 0 == 5 && t.blk == 1)
      && stores base .BLK_BOOTDONE 0x5EA00000 true (.blkBootdoneWrite th0 0x5EA00000) (fun t => t.thState 0 0 == 5 && t.blk == 1)) = true := by
  decide +kernel

theorem test_sembrk :
    writes ((({ base with build := ⟨0, true, 16⟩ }).wr (.HP_SEM 31) 0x101).wr (.HP_SEM 0) 0x201) .HP_SEMBRK 0x80000002 true (.hpSembrk host 0x80000002)
      (fun t => t.rd (.HP_SEM 31) == 0 && t.rd (.HP_SEM 0) == 0x201 && t.flag (.TH_EVPEND 0 15) 20) = true := by decide +kernel

/-- The mailbox of port 1 with its backing at the start of shared memory. -/
theorem test_mailbox :
    (let s := base.wr .HP_TZ2CFG 2
     s.admits (.port 1 false) (.MB 1 63) 0xAABBCCDD && s.viewOf (smBase + 512 + 511) == none && s.memIsReady (smBase + 512 + 252)
       && gives (exec (.tz2MailboxWrite 1 63 0xAABBCCDD) s)
         (fun t => t.memWord (smBase + 512 + 252) == 0xAABBCCDD && t.memWord (smBase + 512 + 508) == 1 && t.rd (.MBCOUNT 1 63) == 1)) = true := by decide +kernel

/-- Burst mode asked for again while its grains are still held. -/
theorem test_burst_again :
    (let s := { base.setPort 1 { base.port 1 with leaving := true } with apHeld := [(.burst 1, 4)] }
     writes s (.HP_CTL 1) 1 (s.apHolds (.burst 1)) (.burstModeRequest host 1)
       (fun t => t.flag (.HP_CTL 1) 0 && t.flag (.HP_CTL 1) 1 && !(t.port 1).leaving && t.apHolds (.burst 1))) = true := by decide +kernel

theorem test_burst :
    (writes base (.HP_CTL 1) 1 (!base.apHolds (.burst 1)) (.burstModeRequest host 1) (fun t => t.flag (.HP_CTL 1) 0 && t.apWait == [⟨.burst 1, 4⟩])
      && writes { base.wr (.HP_CTL 1) 3 with apHeld := [(.burst 1, 4)] } (.HP_CTL 1) 0 true (.burstModeLeave host 1)
        (fun t => !t.flag (.HP_CTL 1) 0 && !t.flag (.HP_CTL 1) 1 && t.apHeld == [])) = true := by decide +kernel
/-! ### Debug -/

/-- Thread 15 of tile 0 in a TH_STAT state. -/
def th15 (v : Nat) : State := base.wr (.TH_STAT 0 15) (BitVec.ofNat 32 v)

theorem test_thalt :
    (writes ((th15 1).wr (.TH_PC 0 15) 0x40) (.DB_THALT 0) 0x8000 (base.ready 2 0) (.dbThalt host 0 0x8000)
        (fun t => t.thState 0 15 == 4 && t.field (.DB_HSTAT 0 15) 29 3 == 1 && t.rd (.TH_PC 0 15) == 0x40 && t.thState 0 0 == 1)
      && writes ((th15 2).setWait 0 15 (.wfe 3)) (.DB_THALT 0) 0x8000 true (.dbThalt host 0 0x8000)
        (fun t => t.thState 0 15 == 4 && (t.thread 0 15).wait == .none)) = true := by decide +kernel

theorem test_tres_tstep :
    (let h := (th15 4).setThread 0 15 { threadReset with haltedFrom := 2 }
     writes h (.DB_TRES 0) 0x8000 true (.dbTres host 0 0x8000) (fun t => t.thState 0 15 == 1)
       && writes (th15 4) (.DB_TRES 0) 0x8000 true (.dbTres host 0 0x8000) (fun t => t.thState 0 15 == 0)
       && writes (th15 2) (.DB_TRES 0) 0x8000 true (.dbTres host 0 0x8000) (fun t => refused t && t.thState 0 15 == 2)
       && writes h (.DB_TSTEP 0) 0x8000 true (.dbTstep host 0 0x8000) (fun t => t.thState 0 15 == 1 && (t.thread 0 15).stepping)
       && writes (th15 1) (.DB_TSTEP 0) 0x8000 true (.dbTstep host 0 0x8000) (fun t => refused t && t.threads == [])) = true := by decide +kernel

/-- A thread that waits for its own host store stops after it; one that waits for its release waits again. -/
theorem test_halt_while_waiting :
    (let st := (th15 2).setWait 0 15 (.hostStore [(1, 0x40, 0x04000040, none)])
     let rel := (th15 4).setThread 0 15 { threadReset with haltedFrom := 2, wait := .release }
     writes st (.DB_THALT 0) 0x8000 (st.thread 0 15).wait.completes (.dbThalt host 0 0x8000)
         (fun t => t.thState 0 15 == 2 && (t.thread 0 15).haltReq && t.regs == st.regs)
       && writes ((th15 2).setWait 0 15 .release) (.DB_THALT 0) 0x8000 true (.dbThalt host 0 0x8000)
         (fun t => t.thState 0 15 == 4 && (t.thread 0 15).wait == .release)
       && writes rel (.DB_TRES 0) 0x8000 true (.dbTres host 0 0x8000) (fun t => t.thState 0 15 == 2 && (t.thread 0 15).wait == .release)
       && writes rel (.DB_TSTEP 0) 0x8000 true (.dbTstep host 0 0x8000) (fun t => t.thState 0 15 == 2 && (t.thread 0 15).stepping)) = true := by
  decide +kernel

/-- A STOPPED thread stays; threads halted by the tile go on. -/
theorem test_tile_halt :
    (writes (th15 5) (.DB_TILE 0) 1 (base.ready 2 0) (.dbTileHalt host 0)
        (fun t => t.thState 0 0 == 4 && t.field (.DB_HSTAT 0 0) 29 3 == 6 && (t.thread 0 0).byTile && t.thState 0 14 == 4 && t.thState 0 15 == 5)
      && writes ((th15 4).setThread 0 15 { threadReset with haltedFrom := 1, byTile := true }) (.DB_TILE 0) 2 true (.dbTileResume host 0)
        (fun t => t.thState 0 15 == 1 && t.thState 0 14 == 0 && t.thState 0 0 == 1)) = true := by decide +kernel

theorem test_blk_halt :
    (let h := base.setField .BLK_STATE 0 4 7
     writes base .DB_BLK 1 (base.blk == 1) (.dbBlkHalt host) (fun t => t.flag .DB_BLK 3)
       && writes h .DB_BLK 1 true (.dbBlkHalt host) (fun t => refused t && t.rd .DB_BLK == h.rd .DB_BLK)
       && gives (exec .blockHaltComplete (base.wr .DB_BLK 8)) (fun t => t.blk == 7 && t.field .BLK_STATE 4 4 == 1 && t.rd .DB_BLK == 4)
       && (let s := (base.wr .DB_BLK 8).setPort 0 { portMReset with out := [⟨false, 0, 0, 1, [], .summary, none⟩] }
           gives (exec .blockHaltComplete s) (fun t => decide (t = s)))) = true := by decide +kernel

theorem test_blk_resume :
    (let h := (((base.setField .BLK_STATE 0 4 7).setField .BLK_STATE 4 4 2).wr .DB_BLK 4).setGState 7 2
     writes h .DB_BLK 2 (!h.gIdle 7) (.dbBlkResume host)
         (fun t => t.blk == 2 && !t.flag .DB_BLK 2 && t.flag (.SC_DETLOST 7) 11 && t.flag (.SC_DETLOST 7) 1)
       && writes base .DB_BLK 2 true (.dbBlkResume host) (fun t => refused t && t.blk == 1)) = true := by decide +kernel

/-- The partial message of thread 15 in channel 7 of tile 0. -/
theorem test_chabort :
    (let s := (th15 4).setChan (.tile 0 7) ⟨some (0, 15), [1, 2], [⟨[1, 2, 3, 4], none, 0, true⟩]⟩
     s.reserved 0 15 == some (.tile 0 7)
       && writes s .DB_CHABORT 15 true (.dbChabort host 15)
         (fun t => t.flag (.TH_STAT 0 15) 8 && (t.chan (.tile 0 7)) == ⟨none, [], [⟨[1, 2, 3, 4], none, 0, true⟩]⟩)
       && writes (th15 1) .DB_CHABORT 15 true (.dbChabort host 15) (fun t => refused t)) = true := by decide +kernel

/-- G31 of thread 0 of tile 0. -/
theorem test_debug_state :
    (let s := (base.wr (.TH_STAT 0 0) 4).wr (.G 0 0 31) 9
     let o := 0x39080 + 4 * 31
     s.dbOpen && s.dbSel == (0, 0)
       && writes s (.DB_GREG 31) 5 true (.debugStateAccess host o true 5) (fun t => t.g 0 0 31 == 5 && answered t 0 ⟨.okay, none⟩)
       && writes s (.DB_GREG 0) 5 true (.debugStateAccess host 0x39080 true 5) (fun t => t.g 0 0 0 == 0 && t.regs == s.regs)
       && writes base (.DB_GREG 31) 5 (!base.dbOpen) (.debugStateAccess host o true 5) (fun t => refused t && t.g 0 0 31 == 0)
       && s.readCheck .tap o == .ok && s.decodeFor .tap o == .reg (.DB_GREG 31)
       && gives (exec (.debugStateAccess .tap o false 0) s) (fun t => answered t 2 ⟨.okay, some 9⟩)) = true := by decide +kernel

/-- BITST with SP above 8; DB_VDATA with no bound context; the page with SEC 0; and read by thread 0 of tile 0, which stops. -/
theorem test_debug_state_forms :
    (let s := base.wr (.TH_STAT 0 0) 4
     let o := 0x39080 + 4 * 31
     writes s .DB_BITST 0xFFFFFFFF true (.debugStateAccess host ((regOffset .DB_BITST).getD 0) true 0xFFFFFFFF)
         (fun t => t.rd (.BITST 0 0) == 0x0308FF01)
       && writes s .DB_VDATA 1 (s.boundCtx 0 0 == none) (.debugStateAccess host ((regOffset .DB_VDATA).getD 0) true 1) (fun t => refused t && t.ctxs == [])
       && gives (exec (.debugStateAccess (.port 1 false) o false 0) s) (fun t => !answered t 1 ⟨.okay, some 0⟩ && t.field (.HP_REFSTAT 1) 0 8 == Cause.secure.code)
       && gives (exec (.debugStateAccess host o false 0) s) (answered · 0 ⟨.okay, some 0⟩)
       && gives (exec (.debugStateAccess th0 o false 0) base) (fun t => t.thState 0 15 == 5 && t.rd (.TL_FREC 0 0) == 0x80000201)) = true := by
  decide +kernel

theorem test_tap :
    (let at' := fun (st : TapSt) (ir : Nat) => { base with tap := { tapReset with st := st, ir := ir, sh := 3, data := 7, result := 1 } }
     gives (exec .trstNAssert (at' .shDr 8)) (fun t => t.tap.st == .reset && t.tap.ir == 1)
       && gives (exec (.tapTckEdge true false) (at' .selIr 8)) (fun t => t.tap.st == .reset && t.tap.ir == 1)
       && gives (exec (.tapTckEdge true false) (at' .ex1Ir 1)) (fun t => t.tap.st == .updIr && t.tap.ir == 3)
       && gives (exec (.tapTckEdge false false) (at' .capDr 1)) (fun t => t.tap.sh == 0x35A3338B)
       && gives (exec (.tapTckEdge false false) (at' .capDr 8)) (fun t => t.tap.sh == 0x700000001)
       && gives (exec (.tapTckEdge false true) (at' .shDr 8)) (fun t => t.tap.sh == 0x8000000000000001)
       && gives (exec (.tapTckEdge true false) (at' .ex2Dr 8)) (fun t => t.tap.acc == some (true, 0, 0) && t.tap.result == 3)) = true := by decide +kernel

theorem test_dbgacc :
    (let o := (regOffset (.LV_IDLE 7)).getD 0
     let s := fun (w : Bool) (o : Nat) => { base with tap := { tapReset with acc := some (w, o, 5), result := 3 } }
     (s false o).readCheck .tap o == .ok && (s true o).admits .tap (.LV_IDLE 7) 5 && base.decodeFor .tap 0x50000 == .decerr
       && gives (exec .dbgaccUpdate (s false o)) (fun t => t.tap.acc == none && t.tap.result == 0 && t.tap.data == base.rd (.LV_IDLE 7))
       && gives (exec .dbgaccUpdate (s true o)) (fun t => t.tap.result == 0 && t.rd (.LV_IDLE 7) == 5)
       && gives (exec .dbgaccUpdate (s true 0x50000)) (fun t => t.tap.result == 2 && t.tap.data == 0)
       && base.decodeFor .tap 0x50004 == .decerr && gives (exec .dbgaccUpdate base) (· == base)
       && gives (exec .dbgaccUpdate ((s false o).wr (.BLK_READY 2) 0)) (fun t => t.tap.result == 1 && t.tap.cause == Cause.notready.code)) = true := by decide +kernel
/-! ### Tiles -/

/-- The reset map, and one with four FIXED entries in a row. -/
theorem test_mapload :
    (let s := (((base.wr (.TL_SLOTMAP 7 15) 0x41).wr (.TL_SLOTMAP 7 0) 0x42).wr (.TL_SLOTMAP 7 1) 0x43).wr (.TL_SLOTMAP 7 2) 0x44
     writes base (.TL_CTL 7) 0x40 (base.mapFailure 7 == 0) (.tlCtlMapload host 7)
         (fun t => (t.tile 7).pendingMap == some (List.replicate 16 (0, 0)) && t.flag (.TL_STAT 7) 2)
       && writes s (.TL_CTL 7) 0x40 true (.tlCtlMapload host 7)
         (fun t => (t.tile 7).pendingMap == none && t.flag (.TL_STAT 7) 31 && t.field (.TL_STAT 7) 28 3 == 1)
       && (let m := base.setTile 7 { base.tile 7 with pendingMap := some [(1, 2)], lastCycle := some 16 }
           gives (exec (.slotMapActivate ⟨7, 16⟩) m) (· == m) && gives (exec (.slotMapActivate ⟨7, 33⟩) m) (· == m)
             && gives (exec (.slotMapActivate ⟨7, 32⟩) m) (fun t => (t.tile 7).activeMap == [(1, 2)]))
       && gives (exec (.slotMapActivate ⟨7, 16⟩) (base.setTile 7 { base.tile 7 with pendingMap := some [(1, 2)] }))
         (fun t => (t.tile 7).activeMap == [(1, 2)] && (t.tile 7).pendingMap == none)) = true := by decide +kernel

theorem test_tile_start :
    (writes (base.wr (.TL_RESETPC 7) 0x80) (.TL_CTL 7) 0x20 (base.thState 7 0 == 0) (.tlCtlStart host 7)
        (fun t => t.thState 7 0 == 1 && t.rd (.TH_PC 7 0) == 0x80)
      && writes (base.wr (.TH_STAT 7 0) 5) (.TL_CTL 7) 0x20 true (.tlCtlStart host 7) (fun t => t.thState 7 0 == 5 && t.rd (.TH_PC 7 0) == 0)) = true := by
  decide +kernel

theorem test_tile_detm :
    (let s := base.setTile 7 { base.tile 7 with icache := [(0, 0, 1)], dcache := [(0, 0, 1)], btb := [(0, 4)] }
     writes s (.TL_CTL 7) 1 true (.tlCtlDetmWrite host 7 true) (fun t => t.flag (.TL_CTL 7) 0 && (t.tile 7).icache == [] && (t.tile 7).dcache == [] && (t.tile 7).btb == [])
       && writes s (.TL_CTL 7) 0 true (.tlCtlDetmWrite host 7 false) (fun t => !t.flag (.TL_CTL 7) 0 && (t.tile 7).icache == [(0, 0, 1)])) = true := by decide +kernel

theorem test_tile_reset :
    (let s := ((({ base with mem := [(spBase 7, 3)] }.wr (.G 7 15 31) 1).wr (.TH_STAT 7 15) 2).wr (.TH_WPERM 7 15) 5).setChan (.tile 7 7) ⟨some (7, 15), [1], []⟩
     writes s (.TL_CTL 7) 0x80 ((List.range 8).all (fun g => s.gState g != 3)) (.tlCtlTrst host 7)
       (fun t => t.g 7 15 31 == 0 && t.thState 7 15 == 0 && t.rd (.TH_WPERM 7 15) == 5 && t.mem == s.mem && t.chan (.tile 7 7) == ⟨none, [], []⟩)
       && base.admits th0 (.TL_CTL 0) 0x80 && gives (exec (.tlCtlTrst th0 0) (base.wr (.G 0 15 31) 1)) (fun t => t.thState 0 0 == 5 && t.g 0 15 31 == 1)) = true := by
  decide +kernel

theorem test_hwroute :
    (let busy := base.setTile 7 { base.tile 7 with sb := [⟨0, 0, [1], 0, 0, 0⟩] }
     writes base (.TL_HWROUTE 7) 1 true (.tlHwrouteWrite host 7 1) (fun t => t.rd (.TL_HWROUTE 7) == 1 && (t.tile 7).hwRoute == none)
       && writes busy (.TL_HWROUTE 7) 1 true (.tlHwrouteWrite host 7 1) (fun t => t.rd (.TL_HWROUTE 7) == 0 && (t.tile 7).hwRoute == some 1)
       && gives (exec (.tlHwrouteApply ⟨7, 0⟩) (base.setTile 7 { base.tile 7 with hwRoute := some 1 })) (fun t => t.rd (.TL_HWROUTE 7) == 1 && (t.tile 7).hwRoute == none)
       && gives (exec (.tlHwrouteApply ⟨7, 9⟩) (((busy.setTile 7 { base.tile 7 with hwRoute := some 1 }).wr (.TH_STAT 7 0) 2).setWait 7 0 .hwRoute))
         (fun t => t.rd (.TL_HWROUTE 7) == 1 && t.thState 7 0 == 1 && (t.thread 7 0).wait == .none && t.rd (.TH_PC 7 0) == 4)
       && (let b := busy.setTile 7 { busy.tile 7 with hwRoute := some 1 }
           gives (exec (.tlHwrouteApply ⟨7, 0⟩) b) (· == b))) = true := by
  decide +kernel

/-- Window 3 of thread 15 loses its line, thread 14 and window 2 keep theirs; HWINHI takes all. -/
theorem test_hwin :
    (let s := base.setTile 0 { base.tile 0 with dcache := [(15, 0x04C00000, 1), (14, 0x04C00000, 2), (15, 0x04BFFFFC, 3)] }
     writes s (.TH_HWIN 0 15 3) 0xFFFFFFFF true (.thHwinWrite host 0 15 3 0xFFFFFFFF)
         (fun t => t.rd (.TH_HWIN 0 15 3) == 0xFFFFFC03 && (t.tile 0).dcache == [(14, 0x04C00000, 2), (15, 0x04BFFFFC, 3)])
       && writes s (.TH_HWINHI 0 15) 5 true (.thHwinWrite host 0 15 4 5)
         (fun t => t.rd (.TH_HWINHI 0 15) == 5 && (t.tile 0).dcache == [(14, 0x04C00000, 2)])) = true := by decide +kernel

theorem test_th_registers :
    (writes base (.TH_PC 0 15) 0x43 (base.thState 0 15 == 0) (.thRegisterWrite host 0 15 2 0x43) (fun t => t.rd (.TH_PC 0 15) == 0x40)
      && writes base (.TH_PC 0 0) 0x43 (base.thState 0 0 == 1) (.thRegisterWrite host 0 0 2 0x43) (fun t => refused t && t.rd (.TH_PC 0 0) == 0x0F800000)
      && writes base (.TH_CTL 0 15) 1 (base.groupsOf 0 15 == []) (.thRegisterWrite host 0 15 0 1) (fun t => t.thClass 0 15 == 1)
      && writes base (.TH_CTL 0 15) 3 true (.thRegisterWrite host 0 15 0 3) (fun t => refused t && t.thClass 0 15 == 0)
      && writes base (.TH_CTL 0 0) 0x10 (base.thClass 0 0 == 0) (.thRegisterWrite host 0 0 0 0x10) (fun t => t.rd (.TH_CTL 0 0) == 0x10)
      && writes base (.TH_EPC 0 15 1) 8 true (.thRegisterWrite host 0 15 9 8) (fun t => t.rd (.TH_EPC 0 15 1) == 8)) = true := by decide +kernel

/-- The first of two entries of tile 0, through port B, identifier 63. -/
theorem test_store_buffer_drain :
    (let e : SbEntry := ⟨1, 0x40, [1, 2, 3, 4], 15, 0x20, 0x04000040⟩
     let s := (base.setTile 0 { base.tile 0 with sb := [e, ⟨1, 0x44, [5], 0, 0, 0⟩] }).setPort 1 { portMReset with out := [⟨true, 63, 0x40, 4, [1, 2, 3, 4], .store 0, none⟩] }
     s.entryTxn 0 e == some 63
       && gives (exec (.storeBufferDrain 0 ⟨false, 0⟩) s) (fun t => (t.tile 0).sb == [⟨1, 0x44, [5], 0, 0, 0⟩] && t.thState 0 0 == 1)
       && gives (exec (.storeBufferDrain 0 ⟨true, 0⟩) s) (fun t => (t.tile 0).sb.length == 1 && t.thState 0 0 == 5 && t.field (.TL_FREC 0 0) 8 8 == 4
         && t.field (.TL_FREC 0 0) 16 4 == 15 && t.rd (.TL_FREC 0 1) == 0x20)
       && gives (exec (.storeBufferDrain 0 ⟨true, 9⟩) base) (· == base)) = true := by decide +kernel

/-- A second ERR in a stopped tile: on the edge of the fault and of a lower thread, on a later one. -/
theorem test_store_buffer_again :
    (let e : SbEntry := ⟨1, 0x40, [1, 2, 3, 4], 3, 0x20, 0x04000040⟩
     let s := (((base.setTile 0 { base.tile 0 with sb := [e], faultAt := some 9 }).setPort 1 { portMReset with out := [⟨true, 63, 0x40, 4, [1, 2, 3, 4], .store 0, none⟩] }).setFlag
       (.TL_STAT 0) 1 true).wr (.TL_FREC 0 0) 0x800F0401
     gives (exec (.storeBufferDrain 0 ⟨true, 9⟩) s) (fun t => t.flag (.TL_FREC 0 0) 30 && t.field (.TL_FREC 0 0) 16 4 == 3)
       && gives (exec (.storeBufferDrain 0 ⟨true, 10⟩) s) (fun t => t.rd (.TL_FREC 0 0) == 0xA00F0401)
       && gives (exec (.managerWriteResponse 1 63 ⟨false, 10⟩) s) (fun t => (t.tile 0).sb == [] && t.regs == s.regs)) = true := by decide +kernel

theorem test_manager_responses :
    (let out := fun (w : Bool) (u : TxnUse) => base.setPort 1 { portMReset with out := [⟨w, 63, 0x40, 4, [], u, none⟩] }
     let st := ((out true (.threadStore 0 15)).wr (.TH_STAT 0 15) 2).setWait 0 15 (.hostStore [(1, 0x40, 0x04000040, none)])
     st.quiet 0 15 && (st.mgrFind 1 63 true).isSome
       && gives (exec (.managerWriteResponse 1 63 ⟨false, 0⟩) st) (fun t => t.thState 0 15 == 1 && (t.thread 0 15).wait == .none && t.rd (.TH_PC 0 15) == 4)
       && gives (exec (.managerWriteResponse 1 63 ⟨true, 0⟩) st) (fun t => t.thState 0 0 == 5 && t.field (.TL_FREC 0 0) 16 4 == 15 && t.rd (.TL_FREC 0 2) == 0x04000040)
       && gives (exec (.managerWriteResponse 1 63 ⟨false, 0⟩) (st.setWait 0 15 (.hostStore [(1, 0x44, 0x04000044, none), (1, 0x40, 0x04000040, none)])))
         (fun t => t.thState 0 15 == 2 && (t.thread 0 15).wait == .hostStore [(1, 0x44, 0x04000044, none)])
       && gives (exec (.managerWriteResponse 1 63 ⟨true, 0⟩) (out true (.word7 255))) (fun t => t.flag (.RG_CQSTAT 1 0) 30)
       && gives (exec (.managerReadResponse 1 63 true) (out false (.doorbells 3 7))) (fun t => t.flag (.RG_PSTAT 1) 31
         && (t.poll 1).seen[3]? == if 3 < (base.poll 1).seen.length then some 7 else none)
       && (let f := (out false (.fetch 255)).wr (.RG_CFG 1 255) 1
           f.readHead 1 (.fetch 255) == f.mgrFind 1 63 false && (f.ring 1 255).stop == none
             && gives (exec (.managerReadResponse 1 63 true) f) (fun t => t.flag (.RG_STAT 1 255) 30 && t.field (.RG_STAT 1 255) 16 7 == 0x11))
       && gives (exec (.managerWriteResponse 1 63 ⟨true, 0⟩) (out true (.entry 31 255))) (fun t => t.flag (.RG_CQSTAT 1 31) 30)
       && gives (exec (.managerWriteResponse 1 63 ⟨false, 0⟩) (out true (.message none))) (fun t => (t.port 1).out == [])
       && gives (exec (.managerReadResponse 1 63 true) (out false .summary)) (fun t => t.flag (.RG_PSTAT 1) 31)
       && gives (exec (.managerReadResponse 1 63 false) (out false (.ringData 255))) (fun t => t.mgrFind 1 63 false == none)) = true := by decide +kernel

/-- Thread 0 of tile 0 waits on channel events alone. -/
theorem test_deadlock :
    (let s := ((base.wr (.TH_STAT 0 0) 2).setWait 0 0 (.wfe 1)).wr (.TH_EVWE 0 0) 0xFF00
     s.coresRun && s.field (.TL_DLGRACE 0) 0 24 != 0 && (s.tile 0).dlArmed
       && gives (exec (.deadlockDetected 0) s) (fun t => t.flag (.TL_STAT 0) 0 && !(t.tile 0).dlArmed && t.latched 1)) = true := by decide +kernel
/-! ### The scan sequencer and edits -/

/-- One tile in RUN, thread 15 the member of group 7 with program entries from 64. -/
def grp : State :=
  ((({ base with build := ⟨0, true, 16⟩ }.setField .BLK_STATE 0 4 2).wr (.SC_MEMBER 7 0) 0x8000).wr (.SC_PBASE 7) 1)

/-- The same with group 7 in a state. -/
def grpIn (v : Nat) (x : Group) : State := (grp.setGState 7 v).setGroup 7 x

/-- The grid is judged at its limits. -/
theorem test_run_start :
    (writes grp (.SC_GCTL 7) 1 (grp.gState 7 == 0) (.scGctlRunStart host 7 false)
        (fun t => t.gState 7 == 1 && t.flag (.SC_GCTL 7) 0 && !t.flag (.SC_GCTL 7) 1 && (t.group 7).checking && (t.group 7).verdict != 1)
      && writes (grp.wr (.SC_PERIOD 7) 399) (.SC_GCTL 7) 3 true (.scGctlRunStart host 7 true)
        (fun t => t.flag (.SC_GCTL 7) 1 && (t.group 7).verdict == 1)) = true := by decide +kernel

theorem test_start_checks :
    (gives (exec (.scanStartChecksEnd 7) (grpIn 1 { groupReset with checking := true, verdict := 4 }))
        (fun t => t.gState 7 == 0 && t.field (.SC_GSTAT 7) 12 4 == 4 && t.flag (.SC_GSTAT 7) 4)
      && (let s := grpIn 1 { groupReset with checking := true }
          s.ownersOk 7 && s.seqRuns && gives (exec (.scanStartChecksEnd 7) s) (fun t => t.gState 7 == 1 && !(t.group 7).checking && (t.group 7).pend == 1600000
            && t.thState 0 15 == 2 && (t.thread 0 15).wait == .release && t.thState 0 0 == 1))) = true := by decide +kernel

theorem test_run_stop :
    (let s := ((grpIn 2 { groupReset with scan := some 5 }).wr (.TH_STAT 0 15) 2).setWait 0 15 .release
     writes s (.SC_GCTL 7) 0 true (.scGctlRunStop host 7 false)
         (fun t => t.gState 7 == 3 && t.thState 0 15 == 0 && t.rd (.TH_PC 0 15) == 124 && (t.group 7).scan == some 5)
       && gives (exec (.stopCopiesEnd 7) (grpIn 3 { groupReset with stopCopies := true })) (fun t => t.gState 7 == 0 && !(t.group 7).stopCopies)) = true := by decide +kernel

/-- The second freeze of a group with the reset grid: 40,000 units of 25 ns, kept as 1,600,000. -/
theorem test_freeze :
    (let s := grpIn 1 { groupReset with pend := 1600000, half := true }
     s.seqRuns && !s.seqHeld 7 && !s.mirrored 7 && s.freezeDue 7 && !s.commitDue 7
       && gives (exec (.scanFreeze 7 0) s) (fun t => t.gState 7 == 2 && t.rd (.SC_SCANNO 7) == 1 && t.rd (.SC_TFREEZE 7 0) == 1600000 && t.now == 1600000
         && (t.group 7).frozen == some 1 && (t.group 7).iSwap && t.flag (.TH_EVPEND 0 15) 16)) = true := by decide +kernel

theorem test_release :
    (let s := ((grpIn 2 { groupReset with frozen := some 1, pend := 1600000 + 40 * grp.field (.SC_FREEZELAT 7) 0 16 }).wr (.TH_STAT 0 15) 2).setWait 0 15 .release
     s.releaseDue 7 && gives (exec (.scanRelease 7) s) (fun t => (t.group 7).scan == some 1 && (t.group 7).frozen == none && t.thState 0 15 == 1 && t.rd (.TH_PC 0 15) == 124)) = true := by
  decide +kernel

theorem test_commit :
    (let s := grpIn 2 { groupReset with scan := some 1, done := [(0, 15)], begun := true, pend := grp.commitAt 7 1, pubs := 6 }
     let late := grpIn 2 { groupReset with scan := some 1, begun := true, pend := grp.commitAt 7 1 }
     s.commitDue 7 && gives (exec (.scanCommit 7) s) (fun t => (t.group 7).scan == none && (t.group 7).qSwap && (t.group 7).pubs == 7 && (t.group 7).pubScan == some 1
         && t.flag (.TH_EVPEND 0 15) 17)
       && gives (exec (.scanCommit 7) late) (fun t => (t.group 7).scan == some 1 && (t.group 7).late == .hold && t.gState 7 == 5
         && t.field (.SC_GSTAT 7) 16 16 == 1 && t.flag (.SC_GSTAT 7) 5 && t.flag (.SC_DETLOST 7) 0 && t.latched 71)) = true := by decide +kernel

/-- Line 1 of a two-line input view, from its I location to its F location, the last of nine lines; without freeze samples, and with. -/
theorem test_copy :
    (let s := { grp.wr .SC_IMGSIZE 2 with copies := [⟨.input, 7, [1], false, 1000, 9, 0⟩], fDirty := [1], mem := [(smBase + 0x40, 9)] }
     s.inOrder && s.seqRuns && gives (exec (.copyEngineCopyEnd 8) s) (fun t => t.copies == [] && memGet t.mem (smBase + s.viewBase .F + 64) == 9
       && t.rd (.SC_CPYTIME 7) == 0x20002 && t.copyFree == 1004 && t.fDirty == [])
       && gives (exec (.copyEngineCopyEnd 8) { s with copies := [⟨.input, 7, [1], false, 1000, 9, 9⟩] }) (fun t => t.rd (.SC_CPYTIME 7) == 0xA000A && t.copyFree == 1020)
       && gives (exec (.copyEngineCopyEnd 0) grp) (· == grp)) = true := by decide +kernel

/-- The start checks that fail on the accepting edge with 2, 3 and 4, and pass; a stop while they run; nothing happens to an IDLE group. -/
theorem test_run_edges :
    (let v := fun (s : State) => match exec (.scGctlRunStart host 7 false) s with | .next t => (t.group 7).verdict | _ => 9
     let s := (grp.wr .SC_IMGSIZE 1).wr (.SC_ISLICE 7) 0x10000
     v s == (if !s.slicesOk 7 then 3 else if !s.membersOk 7 then 4 else 0) && v grp == 2
       && (let c := grpIn 1 { groupReset with checking := true }
           writes c (.SC_GCTL 7) 0 true (.scGctlRunStop host 7 false) (fun t => t.gState 7 == 0)
             && writes grp (.SC_GCTL 7) 2 true (.scGctlRunStop host 7 true) (fun t => t.gState 7 == 0 && t.flag (.SC_GCTL 7) 1)
             && gives (exec (.scanFreeze 7 0) c) (· == c) && gives (exec (.scanRelease 7) grp) (· == grp) && gives (exec (.scanCommit 7) c) (· == c))) = true := by
  decide +kernel

/-- An armed group, with no member released yet, is stopped. -/
theorem test_run_stop_armed :
    (let s := ((grpIn 1 groupReset).wr (.TH_STAT 0 15) 2).setWait 0 15 .release
     writes s (.SC_GCTL 7) 0 true (.scGctlRunStop host 7 false) (fun t => (t.gState 7 == 0 || t.gState 7 == 3) && t.thState 0 15 == 0)) = true := by decide +kernel

/-- SKIP under overrun; and a hold that goes on. -/
theorem test_overrun_policies :
    (let late := fun (p : LatePolicy) => grpIn 5 { groupReset with scan := some 1, begun := true, pend := grp.commitAt 7 1, late := p }
     gives (exec (.scanCommit 7) ((late .none).wr .SC_OVRPOL 0x80)) (fun t => (t.group 7).late == .skip && t.gState 7 == 5)
       && gives (exec (.scanCommit 7) ((late .hold).wr .SC_OVRPOL 0x80)) (fun t => (t.group 7).late == .hold && (t.group 7).scan == some 1)) = true := by
  decide +kernel

theorem test_image_layout :
    (let v : Word := 32 * 2 ^ 26 + 128 * 2 ^ 18 + 256 * 2 ^ 9 + 256
     writes grp .SC_IMGSIZE 0x801 grp.allIdle (.scImglayoutWrite host true 0x801) (fun t => t.rd .SC_IMGSIZE == 0x801)
       && writes grp .SC_IMGBASE 0x1000 grp.allIdle (.scImglayoutWrite host false 0x1000) (fun t => t.rd .SC_IMGBASE == 0x1000)
       && writes grp .SC_IMGSIZE (v + 1) true (.scImglayoutWrite host true (v + 1)) (fun t => refused t && t.flag .SC_STAT 0 && t.rd .SC_IMGSIZE == 0)) = true := by
  decide +kernel

theorem test_owners :
    (let s := grp.wr .SC_OWNPTR 0x3FFFF
     writes s .SC_OWNDATA 0x8F (s.fill == none) (.scOwndataWrite host 0x8F) (fun t => t.rd .SC_OWNPTR == 0 && t.ownAt 0x3FFFF == 0x8F)
       && writes (grp.wr .SC_IMGSIZE 0x200) .SC_OWNFILL 0x8F000010 true (.scOwnfillWrite host 0x8F000010)
         (fun t => t.flag .SC_STAT 2 && t.fill == some (0x8F, 16))
       && writes grp .SC_OWNFILL 0x8F000000 true (.scOwnfillWrite host 0x8F000000) (fun t => refused t && t.flag .SC_STAT 1)
       && gives (exec .scOwnfillEnd { grp.setFlag .SC_STAT 2 true with fill := some (0x8F, 3) })
         (fun t => t.fill == none && !t.flag .SC_STAT 2 && t.rd .SC_OWNPTR == 3 && t.ownAt 2 == 0x8F && t.ownAt 3 == 0)
       && writes { s with fill := some (0, 1) } .SC_OWNDATA 0x8F true (.scOwndataWrite host 0x8F) (fun t => refused t && t.flag .SC_STAT 1 && t.own == [])
       && writes { s with fill := some (0, 1) } .SC_OWNFILL 0x8F000001 true (.scOwnfillWrite host 0x8F000001) (fun t => refused t && t.fill == some (0, 1))
       && writes s .SC_OWNFILL 0x8F000001 (s.viewSize .Q < 4 * (0x3FFFF + 1)) (.scOwnfillWrite host 0x8F000001) (fun t => refused t && t.fill == none)
       && (let q := ((grpIn 2 groupReset).wr .SC_IMGSIZE 0x200).wr (.SC_QSLICE 7) 0x10000
           writes q .SC_OWNDATA 0x8F (q.inQSlice 7 0) (.scOwndataWrite host 0x8F) (fun t => refused t && t.flag .SC_STAT 1 && t.own == []))) = true := by decide +kernel

theorem test_edit_arm :
    (let s := (grp.setEditState 7 2).wr (.SC_EDITID 7) 0x50001
     let run := ((grpIn 2 { groupReset with latest := 5 }).setEditState 7 2).wr (.SC_EDITTGT 7 0) 6
     writes s (.SC_EDITCTL 7) 1 true (.editArm host 7)
         (fun t => t.editState 7 == 3 && t.field (.SC_GCTL 7) 8 1 == 1 && t.field (.SC_EDITID 7) 0 16 == 5 && (t.edit 7).applying && t.flag (.TH_EVPEND 0 15) 22)
       && writes run (.SC_EDITCTL 7) 1 (applierTime (run.edit 7).bytes < 20 * run.field (.SC_FREEZELAT 7) 0 16) (.editArm host 7) (fun t => t.editState 7 == 3)
       && writes (run.wr (.SC_EDITTGT 7 0) 5) (.SC_EDITCTL 7) 1 true (.editArm host 7)
         (fun t => refused t && t.editState 7 == 2 && t.field (.SC_EDITSTAT 7) 12 4 == 7)
       && writes (run.wr (.SC_FREEZELAT 7) 0) (.SC_EDITCTL 7) 1 true (.editArm host 7)
         (fun t => refused t && t.editState 7 == 2 && t.field (.SC_EDITSTAT 7) 12 4 == 8)
       && writes grp (.SC_EDITCTL 7) 1 true (.editArm host 7) (fun t => refused t && t.field (.SC_EDITSTAT 7) 12 4 == 9)
       && writes (run.setGState 7 3) (.SC_EDITCTL 7) 1 true (.editArm host 7) (fun t => refused t && t.field (.SC_EDITSTAT 7) 12 4 == 9)) = true := by decide +kernel

theorem test_edit_cancel_target :
    (writes (grp.setEditState 7 3) (.SC_EDITCTL 7) 2 true (.editCancel host 7) (fun t => t.editState 7 == 2)
      && writes (grp.setEditState 7 5) (.SC_EDITTGT 7 1) 9 true (.scEdittgtWrite host 7 1 9) (fun t => t.rd (.SC_EDITTGT 7 1) == 9 && t.editState 7 == 2)
      && writes (grp.setEditState 7 3) (.SC_EDITTGT 7 1) 9 true (.scEdittgtWrite host 7 1 9) (fun t => refused t && t.rd (.SC_EDITTGT 7 1) == 0)) = true := by
  decide +kernel

/-- The package: one record, G31 of thread 15 of tile 7 under mask 0xFF. -/
theorem test_edit_applier :
    (let p := (List.replicate 64 0).set 24 1 ++ leBytes 4 (3 * 2 ^ 30 + 7 * 2 ^ 27 + 15 * 2 ^ 23 + 31) ++ leBytes 4 0xFF ++ leBytes 4 0xABCD ++ leBytes 4 0
     gives (exec (.editApplierEnd 7) (({ grp with build := ⟨3, true, 16⟩ }.wr (.G 7 15 31) 0x1122).setEdit 7 ⟨p, none, true⟩))
       (fun t => t.editState 7 == 4 && !(t.edit 7).applying && t.g 7 15 31 == 0x11CD)
       && gives (exec (.editApplierEnd 7) grp) (· == grp)) = true := by decide +kernel
/-! ### Rings, doorbells and descriptors -/

/-- Ring 255 of port 1, enabled, of a type and with 16 slots at host address 0x1000, on queue 63, which is enabled with 16 entries; it has
fetched the descriptors `l`. -/
def ring (ty : Nat) (l : List Desc) : State :=
  ((((base.wr (.RG_CFG 1 255) (BitVec.ofNat 32 (0x80003F07 + ty * 2 ^ 24 + 4 * 2 ^ 16))).wr (.RG_CQCFG 1 63) 0x80040000).wr (.RG_BASE 1 255 0) 0x1000).wr
    (.RG_PI 1 255) 1).setRing 1 255 { ringReset with fetchPos := 1, pref := l }

/-- A descriptor in slot 0 with a length and word 3. -/
def desc (len w3 : Nat) : Desc := ⟨0, [0x2000, 0, BitVec.ofNat 32 len, BitVec.ofNat 32 w3, 0, 0, 0, 0], some 0, 0, false, 0, 0, none, 0⟩

/-- The same, whose buffer has been asked for. -/
def asked (len w3 : Nat) : Desc := { desc len w3 with begun := true, asked := len }

/-- The front descriptor of ring 255 of port 1 has completed: word 7 is sent, CI is 1, and the queue has one entry more. -/
def completed (err len : Nat) (t : State) : Bool :=
  t.rgCi 1 255 == 1 && (t.ring 1 255).pref.isEmpty && t.field (.RG_CQSTAT 1 63) 0 17 == 1
    && ((t.port 1).out ++ (t.port 1).wait).any (fun x => x.write && x.use == .word7 255 && x.addr == 0x101C && x.data == leBytes 4 (2 ^ 31 + err * 2 ^ 24 + len))

/-- A transaction of port 1 with a use and an address. -/
def sends (t : State) (w : Bool) (u : TxnUse) (a : Nat) : Bool := ((t.port 1).out ++ (t.port 1).wait).any (fun x => x.write == w && x.use == u && x.addr == a)

/-- Port 1 has a read of a use outstanding. -/
def reading (s : State) (u : TxnUse) (n : Nat := 64) : State := s.setPort 1 { portMReset with out := [⟨false, 63, 0x2000, n, [], u, none⟩] }

/-- Ring 255 of port 1 of a type, whose one descriptor has asked for its buffer, which is to come. -/
def due (ty len w3 : Nat) : State := reading (ring ty [asked len w3]) (.ringData 255) len

/-- The front descriptor of ring 255 of port 1 has asked for its whole buffer. -/
def askedAll (len : Nat) (t : State) : Bool :=
  ((t.ring 1 255).pref.head?.any (fun d => d.begun && d.asked == len)) && ((t.port 1).out ++ (t.port 1).wait).any (fun x => !x.write && x.use == .ringData 255 && x.addr == 0x2000)

/-- Empty; with all of 16 descriptors posted; and with 8 entries. -/
theorem test_ring_enable :
    (let s := (((base.wr (.RG_CQCFG 1 63) 0x80040000).wr (.RG_BASE 1 255 0) 0x1000).wr (.RG_STAT 1 255) 0x80000000).wr (.RG_BASE 1 255 1) 0
     let posted := s.wr (.RG_PI 1 255) 16
     writes s (.RG_CFG 1 255) 0x80043F07 (!s.rgOn 1 255 && !s.ringBad 1 255 0x80043F07) (.ringEnable host 1 255 0x00043F07)
         (fun t => t.rd (.RG_CFG 1 255) == 0x80043F07 && (t.ring 1 255).fetchPos == 0 && t.ports == s.ports)
       && writes posted (.RG_CFG 1 255) 0x80043F07 (posted.ringsRun && !posted.cqHolds 1 63) (.ringEnable host 1 255 0x00043F07)
         (fun t => (t.ring 1 255).asked == 16 && !t.flag (.RG_STAT 1 255) 31 && sends t false (.fetch 255) 0x1000)
       && writes s (.RG_CFG 1 255) 0x80033F07 true (.ringEnable host 1 255 0x00033F07) (fun t => refused t && t.rd (.RG_CFG 1 255) == s.rd (.RG_CFG 1 255))) = true := by decide +kernel

theorem test_ring_disable :
    (writes (ring 0 []) (.RG_CFG 1 255) 0x00043F07 ((ring 0 []).rgOn 1 255) (.ringDisable host 1 255)
        (fun t => t.rd (.RG_CFG 1 255) == 0x00043F07 && t.flag (.RG_STAT 1 255) 31)
      && gives (exec (.ringIdle 1 255) base) (fun t => t.flag (.RG_STAT 1 255) 31)
      && gives (exec (.ringIdle 1 255) (ring 0 [])) (fun t => decide (t = ring 0 []))) = true := by decide +kernel

theorem test_cq :
    (writes base (.RG_CQCFG 1 63) 0x80040000 (!base.cqMapped 1 63) (.cqEnable host 1 63 0x00040000) (fun t => t.rd (.RG_CQCFG 1 63) == 0x80040000)
      && writes (base.wr (.RG_CQCFG 1 63) 0x80040000) (.RG_CQCFG 1 63) 0x80100000 true (.cqEnable host 1 63 0x00100000)
        (fun t => refused t && t.rd (.RG_CQCFG 1 63) == 0x80040000)
      && writes (base.wr (.RG_CQCFG 1 63) 0x80040000) (.RG_CQCFG 1 63) 0x00040000 true (.cqDisable host 1 63) (fun t => t.rd (.RG_CQCFG 1 63) == 0x00040000)) = true := by
  decide +kernel

/-- RG_PCTL: EN, MAX 2 (16 cycles), MIN 16. -/
theorem test_poll :
    (let s := (base.wr (.RG_PCTL 1) 0x40005).wr (.RG_SUMADDR 1 0) 0x3000
     let doze := (s.setField .BLK_STATE 0 4 5).wr .AP_WAKEEN 0x200
     gives (exec (.doorbellPoll 1) s) (fun t => sends t false .summary 0x3000)
       && gives (exec (.doorbellPoll 1) (s.setPort 1 { portMReset with wait := [⟨false, 0, 0x3000, 64, [], .summary, none⟩] })) (fun t => (t.port 1).wait.length == 1)
       && gives (exec (.doorbellPoll 1) base) (fun t => decide (t = base))
       && gives (exec (.dbKickEdge 1) s) (fun t => (t.poll 1).interval == 16 && sends t false .summary 0x3000)
       && gives (exec (.dbKickEdge 1) (reading s .summary)) (fun t => (t.poll 1).again)
       && gives (exec (.dbKickEdge 1) (s.setField .BLK_STATE 0 4 5)) (fun t => t.wakes == [])
       && gives (exec (.dbKickEdge 1) base) (fun t => decide (t = base))
       && gives (exec (.dbKickEdge 1) doze) (fun t => t.wakes == [.kick 1])) = true := by decide +kernel

/-- Nothing has changed; halfword 19 has; and ERR. -/
theorem test_summary :
    (let s := (reading ((base.wr (.RG_PCTL 1) 0x40005).wr (.RG_DBBASE 1 0) 0x4000) .summary).setPoll 1 { pollReset with first := false, interval := 6 }
     let hw : List (BitVec 16) := List.replicate 20 0
     s.fullGroups 1 == [] && !s.portActive 1
       && gives (exec (.summaryLineArrival 1 hw false) s) (fun t => (t.poll 1).interval == 12)
       && gives (exec (.summaryLineArrival 1 (hw.set 19 1) false) s) (fun t => (t.poll 1).interval == 16 && sends t false (.doorbells 19 0) 0x44C0)
       && gives (exec (.summaryLineArrival 1 hw false) base) (fun t => decide (t = base))
       && gives (exec (.summaryLineArrival 1 hw true) s) (fun t => t.flag (.RG_PSTAT 1) 31)) = true := by decide +kernel

/-- The last line of each kind; ring 255 takes its index from software. -/
theorem test_doorbells :
    (let ws : List Word := (List.range 16).map (fun i => BitVec.ofNat 32 (i + 1))
     let off := base.wr (.RG_CFG 1 255) 0x40000000
     (List.range 16).all (fun i => !off.rgOn 1 (240 + i) && !base.cqMapped 1 (48 + i))
       && gives (exec (.doorbellLineArrival 1 15 ws false) (reading off (.doorbells 15 7))) (fun t => t.rgPi 1 240 == 1 && t.rgPi 1 254 == 15 && t.rgPi 1 255 == 0)
       && gives (exec (.doorbellLineArrival 1 19 ws false) (reading base (.doorbells 19 7))) (fun t => (t.cq 1 63).cidx == 16)
       && gives (exec (.doorbellLineArrival 1 19 ws true) (reading base (.doorbells 19 7))) (fun t => t.flag (.RG_PSTAT 1) 31 && (t.poll 1).seen[19]? == some 7)
       && gives (exec (.doorbellLineArrival 1 19 ws false) base) (fun t => decide (t = base))
       && gives (exec (.doorbellLineArrival 1 15 (ws.set 15 17) false) (reading ((ring 0 []).setRing 1 255 ringReset) (.doorbells 15 0)))
         (fun t => t.flag (.RG_STAT 1 255) 30 && t.field (.RG_STAT 1 255) 16 7 == 0x10 && t.rgPi 1 255 == 17)) = true := by decide +kernel

theorem test_legacy_doorbell :
    (let o := 0x110000 + 4 * 255
     let s := base.wr (.RG_CFG 1 255) 0x40000000
     s.decodeFor host o == .legacy 1 1020 && s.writeCheck host o 9 == .ok
       && gives (exec (.legacyDoorbellWrite host 1 1020 0x20009) s) (fun t => t.rgPi 1 255 == 9 && answered t 0 ⟨.okay, none⟩)
       && (let c := base.wr (.RG_CQCFG 1 63) 0x40000000
           gives (exec (.legacyDoorbellWrite host 1 0x4FC 9) c) (fun t => (t.cq 1 63).cidx == 9)
             && gives (exec (.legacyDoorbellWrite host 1 0x4FC 9) base) (fun t => refused t && (t.cq 1 63).cidx == 0))
       && gives (exec (.legacyDoorbellWrite host 1 1020 9) base) (fun t => refused t && t.rgPi 1 255 == 0)) = true := by decide +kernel

theorem test_vector_unmask :
    (let s := ((base.wr (.RG_VECCTL 1 63) 3).wr (.RG_VECADDR 1 63 0) 0x5000).wr (.RG_VECDATA 1 63) 7
     writes s (.RG_VECCTL 1 63) 0 true (.vectorUnmask host 1 63) (fun t => t.field (.RG_VECCTL 1 63) 0 2 == 0 && sends t true (.message none) 0x5000)) = true := by decide +kernel

/-- ERR; one that passes its checks; one with unknown flags. -/
theorem test_descriptor_arrival :
    (let s := reading ((ring 5 []).setRing 1 255 { ringReset with asked := 1 }) (.fetch 255) 32
     let ws := (desc 80 0).words
     s.descCheck 1 255 { desc 80 0 with deadline := none } == 0
       && gives (exec (.descriptorArrival 1 255 [] true) s) (fun t => t.flag (.RG_STAT 1 255) 30 && t.field (.RG_STAT 1 255) 16 7 == 0x11)
       && gives (exec (.descriptorArrival 1 255 ws false) s) (fun t => (t.ring 1 255).pref.map (·.words) == [ws] && (t.ring 1 255).pref.all (fun d => d.bad == 0 && !d.begun && d.asked == 0) && (t.ring 1 255).fetchPos == 1)
       && gives (exec (.descriptorArrival 1 255 (desc 0x20000050 0).words false) s) (completed 7 0)) = true := by decide +kernel

/-- The last 4 bytes of views of 4 KiB. -/
theorem test_img_descriptors :
    (let s := { (due 0 4 4092).wr .SC_IMGSIZE 0x201 with mem := [(smBase + 0x2000 + 4092, 5)] }
     let o := { (ring 1 [desc 4 4092]).wr .SC_IMGSIZE 0x201 with mem := [(smBase + 0x2000 + 4092, 5)] }
     s.inOrder && s.allIdle && s.frontOf 1 255 0 == some (asked 4 4092) && s.readIssued 1 (.ringData 255) == 4 && !s.cqHolds 1 63 && s.viewSize .F == 4096 && s.viewBase .Q == 0x2000
       && s.memIsReady (smBase + s.viewBase .F + 4092) && s.viewBase .H + s.viewSize .H ≤ 0x800000
       && gives (exec (.imgInDescriptor 1 255 [1, 2, 3, 4] false) s)
         (fun t => completed 0 4 t && memBytes t.mem (smBase + s.viewBase .I + 4092) 4 == [1, 2, 3, 4])
       && gives (exec (.imgInDescriptor 1 255 [] true) s) (fun t => completed 1 0 t && t.mem == s.mem)
       && gives (exec (.imgInDescriptor 1 255 [] false) ((ring 0 [desc 4 4092]).wr .SC_IMGSIZE 0x201)) (askedAll 4)
       && gives (exec (.imgOutDescriptor 1 255 ⟨1, (some 3)⟩) (o.setGroup 7 { groupReset with pubs := 1 })) (completed 1 3)
       && gives (exec (.imgOutDescriptor 1 255 ⟨1, none⟩) (o.setGroup 7 { groupReset with pubs := 1 }))
         (fun t => completed 0 4 t && ((t.port 1).out ++ (t.port 1).wait).any (fun x => x.use == .ringData 255 && x.data == [5, 0, 0, 0]))
       && gives (exec (.imgOutDescriptor 1 255 ⟨1, none⟩) o) (fun t => decide (t = o))) = true := by decide +kernel

/-- A tagged IMG_IN that waits for freeze 9, and a tagged IMG_OUT whose scan 3 has passed. -/
theorem test_tagged_descriptors :
    (let d := { asked 4 4 with words := [0x2000, 0, 0x10000004, 4, 9, 0, 0, 0], deadline := some 9 }
     let w := (due 0 4 4).setRing 1 255 { ringReset with fetchPos := 1, pref := [d] }
     let i := (w.setGState 7 2).setGroup 7 { groupReset with latest := 7 }
     let o := (ring 1 [{ d with begun := false, asked := 0, deadline := some 3 }]).setGroup 7 { groupReset with pubs := 9, pubScan := some 4 }
     d.tagv && (o.frontOf 1 255 1).isSome && i.frontOf 1 255 0 == some d
       && (match exec (.imgInDescriptor 1 255 [1, 2, 3, 4] false) i with | .next t => t == i | _ => false)
       && gives (exec (.imgOutDescriptor 1 255 ⟨1, none⟩) o) (completed 0xA 0)) = true := by decide +kernel

/-- An unbroken run of the RX segment that fills the descriptor. -/
theorem test_stream_rx_full :
    (let rx := (((ring 3 [desc 8 0]).wr (.RG_TARGET 1 255) 255).wr (.FE_SEG 7 31) 0x80000).setEngine 7 31 { engineReset with rxSeg := [false, false, true] }
     gives (exec (.streamRxDescriptor 1 255 none) rx) (fun t => completed 0 8 t && (t.engine 7 31).rxSeg == [true])) = true := by decide +kernel

/-- Engine 31 of tile 7 with 256 words at the start of its scratchpad; the write and the read wrap. -/
theorem test_stream_descriptors :
    (let tx := (((due 2 8 0).wr (.RG_TARGET 1 255) 255).wr (.FE_SEG 7 31) 0x80000).setEngine 7 31 { engineReset with txWr := 255 }
     let rx := (((ring 3 [desc 12 0]).wr (.RG_TARGET 1 255) 255).wr (.FE_SEG 7 31) 0x80000).setEngine 7 31 { engineReset with rxSeg := [false, true], rxRd := 255 }
     tx.frontOf 1 255 2 == some (asked 8 0) && tx.readIssued 1 (.ringData 255) == 8 && tx.segWords 7 31 true == 256 && tx.segFree 7 31 == 256
       && (tx.dmaWriteRefusal (tx.segBase 7 31 true + 1020) 4 == none)
       && gives (exec (.streamTxDescriptor 1 255 [1, 2, 3, 4, 5, 6, 7, 8] false) tx) (fun t => completed 0 8 t && (t.engine 7 31).txSeg == 2
         && memBytes t.mem (spBase 7) 4 == [5, 6, 7, 8] && memBytes t.mem (spBase 7 + 1020) 4 == [1, 2, 3, 4])
       && rx.segWords 7 31 false == 256
       && gives (exec (.streamTxDescriptor 1 255 [] true) tx) (completed 1 0)
       && gives (exec (.streamTxDescriptor 1 255 [] false) ((((ring 2 [desc 8 0]).wr (.RG_TARGET 1 255) 255).wr (.FE_SEG 7 31) 0x80000).wr (.RG_FLOW 1 255) 0x100000)) (askedAll 8)
       && gives (exec (.streamRxDescriptor 1 255 (some 4)) rx) (fun t => completed 1 4 t && (t.engine 7 31).rxSeg == [])
       && gives (exec (.streamRxDescriptor 1 255 none) rx) (fun t => completed 0 8 t && (t.engine 7 31).rxSeg == [] && sends t true (.ringData 255) 0x2000)) = true := by
  decide +kernel

/-- Object 2047 of controller 15, one data byte; and a record for it. -/
theorem test_msg_descriptors :
    (let tx := (((due 4 20 2047).wr (.RG_TARGET 1 255) 15).wr (.CN_CTL 15) 0).putWord (objAddr 2047 1) 0xFC000000
     let rec' := leBytes 4 0x7FF ++ leBytes 4 0 ++ leBytes 4 0x100 ++ leBytes 4 0 ++ [9, 0, 0, 0]
     let rx := ((ring 5 [desc 80 0]).wr (.RG_TARGET 1 255) 15).setCan 15 { canReset with records := [([1, 2, 3, 4], [0])] }
     tx.canOn 15 && tx.inOrder && tx.txRefusal 15 2047 0x7FF (tx.objWord 2047 1) 0x100 == none
       && gives (exec (.msgTxDescriptor 1 255 rec' false) tx) (fun t => completed 0 20 t && (t.can 15).pend == [2047] && t.objWord 2047 0 == 0x7FF
         && t.objWord 2047 2 == 0x104 && t.objWord 2047 4 == 9)
       && gives (exec (.msgTxDescriptor 1 255 (rec'.set 9 5) false) tx) (completed 6 0)
       && gives (exec (.msgTxDescriptor 1 255 rec' false) (tx.wr (.BLK_READY 2) 0x7FFFFFFF)) (completed 2 0)
       && gives (exec (.msgTxDescriptor 1 255 rec' false) (tx.putWord (objAddr 2047 1) 0)) (completed 5 0)
       && gives (exec (.msgTxDescriptor 1 255 [] true) tx) (completed 1 0)
       && gives (exec (.msgTxDescriptor 1 255 [] false) ((ring 4 [desc 20 2047]).wr (.RG_TARGET 1 255) 15)) (askedAll 20)
       && (let w := tx.setCan 15 { canReset with pend := [2047] }
           gives (exec (.msgTxDescriptor 1 255 rec' false) w) (fun t => decide (t = w)))
       && !rx.msgRxRing 0 15
       && gives (exec (.msgRxDescriptor 1 255 (some 2)) rx) (completed 1 2)
       && (let n := rx.setCan 15 { canReset with records := [([1, 2, 3, 4], [1])] }
           gives (exec (.msgRxDescriptor 1 255 none) n) (fun t => decide (t = n)))
       && gives (exec (.msgRxDescriptor 1 255 none) rx) (fun t => completed 0 4 t && (t.can 15).records == [] && sends t true (.ringData 255) 0x2000)) = true := by
  decide +kernel

/-- A whole package of group 7 for tile 0, with one ownership record. -/
def pack : List Byte :=
  let p := leBytes 4 0x54444945 ++ [7, 1, 0, 0] ++ leBytes 8 9 ++ leBytes 4 5 ++ leBytes 4 64 ++ leBytes 4 0 ++ leBytes 4 1 ++ List.replicate 96 0
    ++ leBytes 4 0x8F000000
  p.take 32 ++ leBytes 4 (crc32 p).toNat ++ p.drop 36

set_option maxRecDepth 100000 in
theorem test_package :
    (let d := { asked 132 7 with words := [0x2000, 0, 0x03000084, 7, 0, 0, 0, 0] }
     let s := ((((reading (ring 6 [d]) (.ringData 255) 132).wr (.SC_MEMBER 7 0) 0x8000).wr (.SC_PBSIZE 7) 2).wr (.SC_QSLICE 7) 0x10000).wr .SC_IMGSIZE 0x200
     pkgSize pack == 132 && s.headFailure 7 pack == none && s.pkgFailure 7 pack == none && !s.pkgBlocked 7 pack 0
       && gives (exec (.mgmtEditDescriptor 1 255 pack false) s) (fun t => completed 0 132 t && t.editState 7 == 2 && t.rd (.SC_EDITTGT 7 0) == 9)
       && gives (exec (.editApplierEnd 7) (s.setEdit 7 ⟨pack, none, true⟩)) (fun t => t.editState 7 == 4 && t.ownAt 0 == 0x8F && t.ownAt 1 == 0)) = true := by
  decide +kernel

/-- 17 descriptors posted in a ring of 16; a begun descriptor of a ring that is disabled; and a ring with a read outstanding. -/
theorem test_ring_edges :
    (let s := ((((base.wr (.RG_CQCFG 1 63) 0x80040000).wr (.RG_BASE 1 255 0) 0x1000).wr (.RG_STAT 1 255) 0x80000000).wr (.RG_BASE 1 255 1) 0).wr (.RG_PI 1 255) 17
     let b := ring 0 [{ desc 8 0 with begun := true, moved := 4 }]
     let r := (reading (ring 0 []) (.ringData 255)).wr (.RG_CFG 1 255) 0x00043F07
     writes s (.RG_CFG 1 255) 0x80043F07 true (.ringEnable host 1 255 0x00043F07) (fun t => t.flag (.RG_STAT 1 255) 30 && t.field (.RG_STAT 1 255) 16 7 == 0x10)
       && writes b (.RG_CFG 1 255) 0x00043F07 true (.ringDisable host 1 255) (fun t => completed 0xC 4 t && !t.flag (.RG_STAT 1 255) 31)
       && r.rgBusy 1 255 && gives (exec (.ringIdle 1 255) r) (fun t => decide (t = r))) = true := by decide +kernel

/-- Group 7: the first bytes of a package, and while its edit is armed; 4 bytes that wrap in a mailbox of 1 KiB. -/
theorem test_mgmt_descriptors :
    (let d := { asked 4 7 with words := [0x2000, 0, 0x01000004, 7, 0, 0, 0, 0] }
     let e := { asked 4 7 with words := [0x2000, 0, 0x03000004, 7, 0, 0, 0, 0] }
     let ring := fun (n : Nat) (l : List Desc) => reading (ring n l) (.ringData 255) 4
     let m := ((ring 6 [asked 4 0x10000000]).wr .UP_MBOX 0x01000000).wr .UP_MBOXWR 1022
     d.sop && !d.eop && e.eop && (ring 6 [d]).frontOf 1 255 6 == some d && (ring 6 [d]).readIssued 1 (.ringData 255) == 4
       && gives (exec (.mgmtEditDescriptor 1 255 [0x45, 0x49, 0x44, 0x54] false) (ring 6 [e])) (fun t => completed 0xB 4 t && t.editState 7 == 6 && t.field (.SC_EDITSTAT 7) 12 4 == 1)
       && (let f := (ring 6 [asked 4 7]).setRing 1 255 { (ring 6 [asked 4 7]).ring 1 255 with pkgRefused := true }
           gives (exec (.mgmtEditDescriptor 1 255 [] false) f) (completed 0xB 0))
       && (let w := m.wr .UP_MBOXRD 0
           gives (exec (.mgmtMessageDescriptor 1 255 [1, 2, 3, 4] false) w) (fun t => decide (t = w)))
       && gives (exec (.mgmtMessageDescriptor 1 255 [] true) (m.wr .UP_MBOXRD 1022)) (fun t => completed 1 0 t && t.rd .UP_MBOXWR == 1022)
       && gives (exec (.mgmtEditDescriptor 1 255 [0x45, 0x49, 0x44, 0x54] false) (ring 6 [d])) (fun t => completed 0 4 t && t.editState 7 == 1
         && (t.edit 7).bytes == [0x45, 0x49, 0x44, 0x54])
       && gives (exec (.mgmtEditDescriptor 1 255 [0x45, 0x49, 0x44, 0x54] false) ((ring 6 [d]).setEditState 7 3))
         (fun t => completed 0xB 4 t && t.editState 7 == 3 && t.field (.SC_EDITSTAT 7) 12 4 == 0xB)
       && m.mboxFree == 2 && (m.wr .UP_MBOXRD 1022).mboxFree == 1024
       && gives (exec (.mgmtMessageDescriptor 1 255 [1, 2, 3, 4] false) (m.wr .UP_MBOXRD 1022))
         (fun t => completed 0 4 t && t.rd .UP_MBOXWR == 1026 && memBytes t.mem smBase 2 == [3, 4] && memBytes t.mem (smBase + 1022) 2 == [1, 2])) = true := by decide +kernel
/-! ### Facet engines -/

/-- An engine instruction (R311). -/
def ew (op d a b : Nat) : Word := BitVec.ofNat 32 (op * 2 ^ 28 + d * 2 ^ 24 + a * 2 ^ 16 + b)

/-- Engine 31 of tile 7 with 8 signals, shift width 2, LSB first, stands at address 15, which holds `w`. -/
def eng (w : Word) (x : Engine) : State :=
  ((((base.wr (.FE_CTL 7 31) 1).wr (.FE_STAT 7 31) 0xF1000000).wr (.FE_PINS 7 31) 8).wr (.FE_CFG 7 31) 0x40000000).setEngine 7 31
    { x with prog := [(15, w)] }

/-- The same in RUN. -/
def engRun (w : Word) (x : Engine) : State := (eng w x).setField .BLK_STATE 0 4 2

/-- An instruction with opcode `op` begins on its next tick. -/
def begins (s : State) (op : Nat) : Bool :=
  s.hasEngine 7 31 && s.eTicks 7 31 && (s.engine 7 31).work == .fresh && !s.swapPend 7 31 && eValid (s.eInsn 7 31 15) (s.eShw 7 31)
    && eOp (s.eInsn 7 31 15) == op

/-- The instruction has ended without a delay and the next one stands at `pc`. -/
def done (pc : Nat) (t : State) : Bool := (t.engine 7 31).work == .fresh && t.field (.FE_STAT 7 31) 28 4 == pc && t.field (.FE_STAT 7 31) 24 3 == 1

/-- The command runs the instruction and gives a state of which `p` holds. -/
def ticks (s : State) (op : Nat) (c : Instr) (p : State → Bool) : Bool := begins s op && gives (exec c s) p

/-- NOP with a delay of 15, and the ticks of a delay. -/
theorem test_eng_nop :
    (ticks (eng (ew 0 15 0 0) engineReset) 0 (.engNop 7 31 0) (fun t => (t.engine 7 31).work == .delay 15 && t.field (.FE_STAT 7 31) 28 4 == 15
        && t.field (.FE_STAT 7 31) 24 3 == 4)
      && ticks (eng (ew 0 0 0 0) engineReset) 0 (.engNop 7 31 0) (done 0)
      && gives (exec (.engineTick 7 31 0) (eng 0 { engineReset with work := .delay 2 })) (fun t => (t.engine 7 31).work == .delay 1)
      && gives (exec (.engineTick 7 31 0) (eng 0 { engineReset with work := .delay 1, npc := 3 })) (done 3)
      && gives (exec (.engineTick 7 31 0) base) (fun t => decide (t = base))) = true := by decide +kernel

/-- The last of the ticks, LSB first out of 0b110; the first of two, MSB first. -/
theorem test_eng_shifts :
    (let x := { engineReset with shr := 6, pinout := 0xFF }
     let m := fun (w : Word) => (eng w { x with shr := 0x80000001 }).wr (.FE_CFG 7 31) 0x60000000
     ticks (eng (ew 1 0 0 0) x) 1 (.engSho 7 31 0) (fun t => done 0 t && (t.engine 7 31).pinout == 0xFE && (t.engine 7 31).shr == 1)
       && ticks (m (ew 1 0 1 0)) 1 (.engSho 7 31 0) (fun t => (t.engine 7 31).work == .shifting 1 && (t.engine 7 31).pinout == 0xFE && (t.engine 7 31).shr == 4)
       && ticks (eng (ew 2 0 0 0) x) 2 (.engShi 7 31 3) (fun t => done 0 t && (t.engine 7 31).pinout == 0xFF && (t.engine 7 31).shr == 0xC0000001)
       && ticks (m (ew 3 0 0 0)) 3 (.engShx 7 31 3) (fun t => done 0 t && (t.engine 7 31).pinout == 0xFE && (t.engine 7 31).shr == 7)) = true := by decide +kernel

theorem test_eng_pull :
    (ticks (eng (ew 4 0 0 0) { engineReset with tx := [5, 6] }) 4 (.engPull 7 31 0) (fun t => done 0 t && (t.engine 7 31).shr == 5 && (t.engine 7 31).tx == [6])
      && ticks ((engRun (ew 4 0 0 0) engineReset).wr (.FE_IDLEPAT 7 31) 9) 4 (.engPull 7 31 0)
        (fun t => done 0 t && (t.engine 7 31).shr == 9 && t.flag (.FE_STAT 7 31) 2)
      && ticks (eng (ew 4 0 0 0) engineReset) 4 (.engPull 7 31 0) (fun t => (t.engine 7 31).work == .stalled && t.field (.FE_STAT 7 31) 24 3 == 3)
      && gives (exec (.engineStallEnd 7 31 0) (eng (ew 4 0 0 0) { engineReset with work := .stalled, tx := [5] })) (fun t => done 0 t && (t.engine 7 31).shr == 5)
      && gives (exec (.engineStallEnd 7 31 0) (eng (ew 4 0 0 0) { engineReset with work := .stalled })) (fun t => (t.engine 7 31).work == .stalled)) = true := by
  decide +kernel

theorem test_eng_push :
    (let full := { engineReset with shr := 5, rx := List.replicate 8 (0, false) }
     ticks (eng (ew 5 0 3 0) { engineReset with shr := 5 }) 5 (.engPush 7 31 0) (fun t => done 0 t && (t.engine 7 31).shr == 0 && (t.engine 7 31).rx == [(5, true)])
       && ticks (engRun (ew 5 0 0 0) full) 5 (.engPush 7 31 0) (fun t => done 0 t && t.flag (.FE_STAT 7 31) 3 && (t.engine 7 31).rx == full.rx)
       && ticks (eng (ew 5 0 0 0) full) 5 (.engPush 7 31 0) (fun t => (t.engine 7 31).work == .stalled && (t.engine 7 31).rx == full.rx)) = true := by decide +kernel

/-- Falling edge of signal 7, and events. -/
theorem test_eng_wait :
    (let x := { engineReset with sample := 0x80 }
     let ev := eng (ew 6 0 32 0) engineReset
     ticks (eng (ew 6 0 31 0) x) 6 (.engWait 7 31 0x7F) (done 0)
       && ticks (eng (ew 6 0 31 0) x) 6 (.engWait 7 31 0x80) (fun t => (t.engine 7 31).work == .waiting && t.field (.FE_STAT 7 31) 24 3 == 2)
       && ticks { ev with gz := { ev.gz with cnt := [(767, 2)] } } 6 (.engWait 7 31 0) (fun t => done 0 t && mget t.gz.cnt 0 767 == 1)
       && ticks ev 6 (.engWait 7 31 0) (fun t => (t.engine 7 31).work == .waiting)) = true := by decide +kernel

theorem test_eng_waitc :
    (let s := fun (a : Nat) => ((eng (ew 7 0 a 0) { engineReset with shr := 0x15 }).wr (.FE_CMP 7 31) 0x25).wr (.FE_CMPMASK 7 31) 0x0F
     ticks (s 0) 7 (.engWaitc 7 31 0) (done 0)
       && ticks (s 3) 7 (.engWaitc 7 31 2) (fun t => (t.engine 7 31).work == .waiting && (t.engine 7 31).shr == 0x80000005)) = true := by decide +kernel

theorem test_eng_pin_registers :
    (let x := { engineReset with pinout := 0xF0, pinoe := 0x0F }
     ticks (eng (ew 8 0 0x81 0x01) x) 8 (.engSetp 7 31 0) (fun t => done 0 t && (t.engine 7 31).pinout == 0x71 && (t.engine 7 31).pinoe == 0x0F)
       && ticks ((eng (ew 9 0 0x81 0x80) x).wr (.FE_PINS 7 31) 7) 9 (.engDir 7 31 0) (fun t => done 0 t && (t.engine 7 31).pinoe == 0x0E)
       && ticks (eng (ew 0xC 0 6 0) x) 0xC (.engClk 7 31 0) (fun t => done 0 t && (t.engine 7 31).clkMode == 2 && (t.engine 7 31).clkIdle)) = true := by decide +kernel

/-- Condition 0b101 on signal 7, and 0b111 without an event. -/
theorem test_eng_jmp :
    (ticks ((eng (ew 0xA 0 5 9) engineReset).wr (.FE_CFG 7 31) 0x40700000) 0xA (.engJmp 7 31 0x80) (done 9)
      && ticks (eng (ew 0xA 0 7 9) engineReset) 0xA (.engJmp 7 31 0) (done 0)) = true := by decide +kernel

theorem test_eng_djnz :
    (ticks (eng (ew 0xB 0 1 9) { engineReset with c0 := 7, c1 := 2 }) 0xB (.engDjnz 7 31 0) (fun t => done 9 t && (t.engine 7 31).c1 == 1 && (t.engine 7 31).c0 == 7)
      && ticks ((eng (ew 0xB 0 0 9) { engineReset with c0 := 1 }).wr (.FE_CNT 7 31) 0) 0xB (.engDjnz 7 31 0) (fun t => done 0 t && (t.engine 7 31).c0 == 65536)) = true := by decide +kernel

theorem test_eng_evt :
    ticks (eng (ew 0xD 0 0 0) engineReset) 0xD (.engEvt 7 31 0) (done 0) = true := by decide +kernel

/-- Ticks that go on: the last of a shift, a wait whose level has come, a comparison that holds; and a stall of a PUSH that ends. -/
theorem test_eng_goes_on :
    (let x := { engineReset with shr := 6, pinout := 0xFF }
     gives (exec (.engineTick 7 31 0) (eng (ew 1 0 1 0) { x with work := .shifting 1 })) (fun t => done 0 t && (t.engine 7 31).shr == 1)
       && gives (exec (.engineTick 7 31 0x80) (eng (ew 6 0 15 0) { x with work := .waiting })) (done 0)
       && gives (exec (.engineTick 7 31 0) (eng (ew 6 0 32 0) { x with work := .waiting })) (fun t => (t.engine 7 31).work == .waiting)
       && gives (exec (.engineTick 7 31 0) (eng (ew 7 0 1 0) { x with work := .waiting })) (fun t => (t.engine 7 31).work == .waiting)
       && gives (exec (.engineStallEnd 7 31 0) (eng (ew 5 0 2 0) { x with work := .stalled })) (fun t => done 0 t && (t.engine 7 31).rx == [(6, false)])) = true := by
  decide +kernel

/-- The clock output: mode 0b01 in a shift tick and in another; mode 0b10; with an external clock, whose falling edge alone is selected. -/
theorem test_eng_clock :
    (let x := fun (m : Nat) => { engineReset with clkMode := m }
     let ext := (eng (ew 0 0 0 0) { engineReset with clkMode := 2, sample := 0x80 }).wr (.FE_CLK 7 31) 0xDC000000
     ticks (eng (ew 1 0 0 0) (x 1)) 1 (.engSho 7 31 0) (fun t => (t.engine 7 31).clkOut)
       && ticks (eng (ew 0 0 0 0) (x 1)) 0 (.engNop 7 31 0) (fun t => !(t.engine 7 31).clkOut)
       && ticks (eng (ew 0 0 0 0) (x 2)) 0 (.engNop 7 31 0) (fun t => (t.engine 7 31).clkOut)
       && ext.extEdge 7 31 0 && !ext.extEdge 7 31 0x80
       && ticks ext 0 (.engNop 7 31 0) (fun t => done 0 t && !(t.engine 7 31).clkOut)
       && gives (exec (.engNop 7 31 0x80) ext) (fun t => decide (t = ext))
       && gives (exec (.engSho 7 31 0) ext) (fun t => decide (t = ext))) = true := by decide +kernel

theorem test_eng_invalid :
    (let s := eng (ew 0xE 0 0 0) engineReset
     s.eTicks 7 31 && gives (exec (.engineTick 7 31 0) s) (fun t => (t.engine 7 31).work == .stopped && t.field (.FE_STAT 7 31) 24 3 == 5
       && t.flag (.FE_STAT 7 31) 6 && t.latched 58)) = true := by decide +kernel

/-- A segment of 256 words that TX and RX share, 128 each, at its ends. -/
theorem test_stream_mover :
    (let s := fun (x : Engine) => (base.setEngine 7 31 x).wr (.FE_SEG 7 31) 0x20080000
     let r := s { engineReset with rx := [(5, true)], rxWr := 127 }
     let x := (s { engineReset with txSeg := 1, txRd := 127 }).putWord (spBase 7 + 508) 9
     r.segWords 7 31 false == 128 && r.dmaWriteRefusal (r.segBase 7 31 false + 508) 4 == none
       && gives (exec (.streamMoverTurn 7 31) r) (fun t => t.memWord (spBase 7 + 1020) == 5 && (t.engine 7 31).rx == [] && (t.engine 7 31).rxSeg == [true]
         && (t.engine 7 31).rxWr == 0)
       && gives (exec (.streamMoverTurn 7 31) x) (fun t => (t.engine 7 31).tx == [9] && (t.engine 7 31).txSeg == 0 && (t.engine 7 31).txRd == 0)) = true := by decide +kernel

/-- A refused segment write keeps its word; a group that is not ready moves nothing; the last word of an image window, with the count. -/
theorem test_stream_mover_forms :
    (let r := (base.setEngine 7 31 { engineReset with rx := [(5, true)] }).wr (.FE_SEG 7 31) 0x20080000
     let off := r.wr (.BLK_READY 2) 0
     let win := ((base.setEngine 7 31 { engineReset with rx := [(5, true)], winCount := 254 }).wr (.FE_SEG 7 31) 0x80080000).wr .SC_IMGSIZE 1
     win.segPlaced (win.rd (.FE_SEG 7 31)) && win.segSize 7 31 == 256 && win.dmaWriteRefusal (win.segBase 7 31 false + 1020) 4 == none
       && gives (exec (.streamMoverTurn 7 31) win) (fun t => (t.engine 7 31).winCount == 255 && (t.engine 7 31).rx == []
         && t.memWord (smBase + t.viewBase .I) == 255 && t.memWord (smBase + t.viewBase .I + 1020) == 5)
       && off.dmaWriteRefusal (spBase 7) 4 != none
       && gives (exec (.streamMoverTurn 7 31) off) (fun t => (t.engine 7 31).rx == [(5, true)] && t.flag (.FE_STAT 7 31) 1)
       && (let n := r.wr (.BLK_READY 1) 0
           gives (exec (.streamMoverTurn 7 31) n) (fun t => decide (t = n)))) = true := by decide +kernel

theorem test_engine_enable :
    (let s := ((base.wr (.FE_PINS 7 31) 1).wr (.FE_CNT 7 31) 0).setEngine 7 31 { engineReset with shr := 5, tx := [1] }
     let off := base.wr (.FE_PINS 7 31) 1
     s.eMayEnable 7 31 && writes s (.FE_CTL 7 31) 5 true (.engineEnable host 7 31) (fun t => t.flag (.FE_CTL 7 31) 0 && (t.engine 7 31).shr == 0
         && (t.engine 7 31).c0 == 65536 && (t.engine 7 31).tx == [1] && done 0 t)
       && writes (off.wr (.FE_CFG 7 31) 0x40000000) (.FE_CTL 7 31) 5 (!(off.wr (.FE_CFG 7 31) 0x40000000).eMayEnable 7 31) (.engineEnable host 7 31)
         (fun t => refused t && !t.flag (.FE_CTL 7 31) 0)
       && writes (eng 0 { engineReset with shr := 5 }) (.FE_CTL 7 31) 0 true (.engineDisable host 7 31)
         (fun t => !t.flag (.FE_CTL 7 31) 0 && t.field (.FE_STAT 7 31) 24 3 == 0 && (t.engine 7 31).shr == 5)) = true := by decide +kernel

theorem test_engine_flush_swap_force :
    (let x := { engineReset with tx := [1], rx := [(2, false)], work := .delay 3 }
     let s := base.setEngine 7 31 x
     writes s (.FE_CTL 7 31) ((s.rd (.FE_CTL 7 31) &&& 5) ||| 0x40) true (.engineFlush host 7 31) (fun t => (t.engine 7 31).tx == [] && (t.engine 7 31).rx == [])
       && writes (eng 0 x) (.FE_CTL 7 31) 0x41 true (.engineFlush host 7 31) (fun t => refused t && (t.engine 7 31).tx == [1])
       && writes s (.FE_CTL 7 31) ((s.rd (.FE_CTL 7 31) &&& 5) ||| 0x10) true (.engineSwap host 7 31) (fun t => t.field (.FE_CTL 7 31) 1 1 == 1)
       && writes (eng 0 x) (.FE_CTL 7 31) 0x11 true (.engineSwap host 7 31) (fun t => t.swapPend 7 31 && t.field (.FE_CTL 7 31) 1 1 == 0)
       && writes (eng 0 x) (.FE_CTL 7 31) 0x31 true (.engineForce host 7 31) (fun t => t.swapPend 7 31 && (t.engine 7 31).work == .fresh && t.flag (.FE_STAT 7 31) 4)
       && writes (eng 0 engineReset) (.FE_CTL 7 31) 0x31 true (.engineForce host 7 31) (fun t => t.swapPend 7 31 && !t.flag (.FE_STAT 7 31) 4)
       && writes ((eng 0 x).setFlag (.FE_STAT 7 31) 8 true) (.FE_CTL 7 31) 0x81 true (.engineOvrclr host 7 31) (fun t => !t.flag (.FE_STAT 7 31) 8)
       && gives (exec (.engineBankSwap 7 31 0) ((eng (ew 0xE 0 0 0) engineReset).setFlag (.FE_STAT 7 31) 7 true))
         (fun t => done 1 t && t.field (.FE_CTL 7 31) 1 1 == 1 && !t.swapPend 7 31)) = true := by decide +kernel

/-- Word 15 of bank 1, and of the bank that runs. -/
theorem test_engine_program :
    (writes ((eng 0 engineReset).wr (.FE_CTL 7 31) 5) (.FE_PROG 7 31 15) 9 true (.engineProgramWrite host 7 31 15 9) (fun t => mget (t.engine 7 31).prog 0 31 == 9)
      && writes (eng 0 engineReset) (.FE_PROG 7 31 15) 9 true (.engineProgramWrite host 7 31 15 9)
        (fun t => refused t && t.flag (.FE_STAT 7 31) 5 && mget (t.engine 7 31).prog 0 15 == 0)) = true := by decide +kernel

theorem test_engine_config :
    (writes (eng 0 engineReset) (.FE_PAT 7 31) 9 true (.engineConfigWrite host 7 31 9 9) (fun t => t.rd (.FE_PAT 7 31) == 9)
      && writes base (.FE_PINS 7 31) 0x3808 (!base.pinsOverlap 7 31 0x3808) (.engineConfigWrite host 7 31 3 0x3808) (fun t => t.rd (.FE_PINS 7 31) == 0x3808)
      && writes base (.FE_CLK 7 31) 0x20000400 true (.engineConfigWrite host 7 31 4 0x20000400) (fun t => t.rd (.FE_CLK 7 31) == 0x20000400)
      && writes base (.FE_SEG 7 31) 0x100001FE (base.segPlaced 0x1001FE) (.engineConfigWrite host 7 31 10 0x1001FE) (fun t => t.rd (.FE_SEG 7 31) == 0x1001FE)
      && writes (eng 0 engineReset) (.FE_SIO 7 31) 9 true (.engineConfigWrite host 7 31 11 9) (fun t => refused t && t.rd (.FE_SIO 7 31) == 0)) = true := by decide +kernel

/-- Refusals: an overlap of pins, no edge, a slow clock below its least value, a segment; and what goes on while an engine is on. -/
theorem test_engine_refused :
    (let r := fun (i : Nat) (x : Reg) (v : Word) => writes base x v true (.engineConfigWrite host 7 31 i v) (fun t => refused t && t.rd x == base.rd x)
     r 3 (.FE_PINS 7 31) 0x3809 && r 4 (.FE_CLK 7 31) 0x00000400 && r 4 (.FE_CLK 7 31) 0x200003FF && r 10 (.FE_SEG 7 31) 0xA0080000
       && writes { (eng 0 engineReset).wr (.TL_ENGGRP 7) 8 with apHeld := [(.engGroup 31, 1)] } (.TL_ENGGRP 7) 0 true (.engineGroupRequest host 7 0)
         (fun t => refused t && t.rd (.TL_ENGGRP 7) == 8)
       && (let s := eng 0 engineReset
           gives (exec (.engineBankSwap 7 31 0) s) (fun t => decide (t = s)) && gives (exec (.engineStallEnd 7 31 0) s) (fun t => decide (t = s)))
       && gives (exec (.engineBankSwap 7 31 0) (((eng (ew 0xE 0 0 0) engineReset).setEngine 7 31 { engineReset with prog := [(16, ew 8 0 1 1)] }).setFlag (.FE_STAT 7 31) 7 true))
         (fun t => done 1 t && (t.engine 7 31).pinout == 1)) = true := by decide +kernel

theorem test_engine_group :
    (writes base (.TL_ENGGRP 7) 8 true (.engineGroupRequest host 7 8) (fun t => t.field (.TL_ENGGRP 7) 0 4 == 8 && t.apWait == [⟨.engGroup 31, 1⟩])
      && writes { base.wr (.TL_ENGGRP 7) 8 with apHeld := [(.engGroup 31, 1)] } (.TL_ENGGRP 7) 0 true (.engineGroupRequest host 7 0)
        (fun t => t.field (.TL_ENGGRP 7) 0 4 == 0 && !t.ready 1 31 && t.apHeld == [])
      && (let s := ({ base.wr (.TL_ENGGRP 7) 8 with apHeld := [(.engGroup 31, 1)] }).wr (.BLK_READY 1) 0
          s.ready 2 7 && gives (exec (.engineGroupReady 7 3) s) (fun t => t.ready 1 31))
      && gives (exec (.engineGroupReady 7 3) base) (fun t => decide (t = base))) = true := by decide +kernel
/-! ### Gauze, timebase and timers -/

/-- Channel 127 alone is configured: enabled, its source `n`, no storm limit. -/
def gz (n : Nat) : State := (base.wr (.GZ_CH 127) (BitVec.ofNat 32 (2 ^ 31 + n))).wr .GZ_STORMCFG 0

/-- Task input 511, thread 15 of tile 7 EVIN[7], names channel 127. -/
theorem test_source_edge :
    (let s := ((gz 143).wr (.GZ_TASK 255) 0x00FF0000).wr (.GZ_TTGT 127) 0xFF000000
     s.gzChans == [127] && s.tasksOf 127 == [511] && (s.taskTarget 511).1 && s.field .GZ_STORMCFG 16 16 == 0
       && !s.srcLevel 143
       && gives (exec (.gauzeSourceEdge (.fin 15) true) s) (fun t => bit t.gz.out 127 && t.srcLevel 143 && t.flag (.GZ_CHFLAG 3) 31 && mget t.gz.cnt 0 511 == 1)
       && gives (exec (.gauzeSourceEdge (.fin 15) true) { s with gz := { s.gz with cnt := [(511, 3)] } }) (fun t => t.flag (.GZ_TOVF 15) 31 && mget t.gz.cnt 0 511 == 3)
       && base.gzChans == [] && gives (exec (.gauzeSourceEdge (.fin 15) true) base) (· == { base with finPin := 0x8000 })
       && gives (exec (.gauzeSourceEdge (.fio 511) true) (gz 0)) (fun t => bit t.fioIn 511)) = true := by decide +kernel

/-- The override input of engine 31 of tile 7, and FIO pins 63 and 64 of a build of one tile, each with its source's channel. -/
theorem test_source_edge_forms :
    (let s := (gz 143).wr (.GZ_TASK 511) 0x00FF0000
     let one := fun (k : Word) => { (gz 0).wr (.GZ_PINSEL 0) k with build := ⟨0, true, 16⟩ }
     s.tasksOf 127 == [1023] && gives (exec (.gauzeSourceEdge (.fin 15) true) s) (fun t => t.flag (.FE_STAT 7 31) 8)
       && (one 63).pinSel 0 == 63 && gives (exec (.gauzeSourceEdge (.fio 63) true) (one 63)) (fun t => bit t.gz.out 127)
       && gives (exec (.gauzeSourceEdge (.fio 64) true) (one 64)) (fun t => bit t.fioIn 64 && !bit t.gz.out 127)) = true := by decide +kernel

/-- A timer's start, stop and capture, a fault source, a wake in DOZE, a converter that has not ended its pulse, and a kick. -/
theorem test_tasks_taken :
    (let s := fun (i : Nat) => { base with gz := { base.gz with cnt := [(i, 1)] } }
     let f := fun (i : Nat) (p : State → Bool) => (s i).taskTaken i && gives (exec (.taskInputTake i) (s i)) p
     f 1213 (fun t => (t.timer 63).startReq) && f 1214 (fun t => (t.timer 63).stopReq) && f 1215 (fun t => (t.timer 63).rise == [])
       && f 1231 (·.latched 119) && f 1255 (fun t => bit t.conv 15) && f 1257 (fun t => mget t.gz.cnt 0 1257 == 0)
       && gives (exec (.taskInputTake 1255) { s 1255 with conv := 0x8000 }) (fun t => t.flag .TM_CONVSTAT 15)
       && gives (exec (.taskInputTake 1239) (((s 1239).wr .AP_WAKEEN 0x80).setField .BLK_STATE 0 4 6)) (fun t => t.wakes == [.gauze 7])) = true := by
  decide +kernel

theorem test_storm_end_and_take :
    (let s := { (base.wr (.GZ_TTGT 127) 0xFF000000).wr (.TH_STAT 7 15) 1 with gz := { base.gz with cnt := [(511, 3)], fires := [(127, 9)] } }
     gives (exec .stormWindowEnd s) (fun t => t.gz.fires == [])
       && s.ready 2 7 && gives (exec (.taskInputTake 511) s) (fun t => mget t.gz.cnt 0 511 == 2 && t.rd (.TH_EVPEND 7 15) == 0x80)
       && gives (exec (.taskInputTake 1279) base) (fun t => decide (t = base))) = true := by decide +kernel

/-- A valid word, a selector beyond 639, and the channel's own output. -/
theorem test_channel_write :
    (let s := base.wr .GZ_STORMCFG 0
     let o := 0x4400 + 4 * 127
     let w : Word := 0x80000000 + 503
     s.chAdmits 127 (some 0) && !(s.wr (.GZ_CH 127) w).onCycle 127 && (s.wr (.GZ_CH 127) w).gzFailure == none
       && writes s (.GZ_CH 127) w true (.gzConfigWrite host o w) (fun t => t.rd (.GZ_CH 127) == w)
       && writes s (.GZ_CH 127) (0x80000000 + 640) true (.gzConfigWrite host o (0x80000000 + 640)) (fun t => refused t && t.rd (.GZ_CH 127) == 0 && t.flag .GZ_ERR 28)
       && writes s (.GZ_CH 127) (0x80000000 + 639) true (.gzConfigWrite host o (0x80000000 + 639)) (fun t => refused t && t.rd (.GZ_CH 127) == 0 && t.flag .GZ_ERR 31)) = true := by
  decide +kernel

/-- A task selector; one of a task input of an absent tile, which is reserved; and the channel of port B. -/
theorem test_task_write :
    (let s := base.wr .GZ_STORMCFG 0
     let o := (regOffset (.GZ_TASK 255)).getD 0
     writes s (.GZ_TASK 255) 0x00FF0000 (!s.gzReserved (.GZ_TASK 255)) (.gzConfigWrite host o 0x00FF0000) (fun t => t.rd (.GZ_TASK 255) == 0x00FF0000)
       && writes { s with build := ⟨0, true, 16⟩ } (.GZ_TASK 255) 0x00FF0000 ({ s with build := ⟨0, true, 16⟩ }.gzReserved (.GZ_TASK 255))
         (.gzConfigWrite host o 0x00FF0000) (fun t => answered t 0 ⟨.okay, none⟩ && t.rd (.GZ_TASK 255) == s.rd (.GZ_TASK 255))
       && (let p := s.wr (.GZ_CHPROT 31) 0x20000000
           writes p (.GZ_CH 127) 0x80000000 (!p.chAdmits 127 (some 0)) (.gzConfigWrite host 0x45FC 0x80000000) (fun t => refused t && t.rd (.GZ_CH 127) == 0))) = true := by
  decide +kernel

theorem test_pinsel_and_fire :
    (writes (base.wr .GZ_STORMCFG 0) (.GZ_PINSEL 3) 0x80 true (.gzPinselWrite host 3 0x80) (fun t => t.rd (.GZ_PINSEL 3) == 0x80)
      && writes (gz 503) (.TL_GZFIRE 7) 8 true (.tlGzfire host 7 8) (fun t => t.flag (.GZ_CHFLAG 3) 31 && !bit t.gz.out 127)) = true := by decide +kernel

theorem test_timebase_mode :
    (let stop := { base with clk := { base.clk with running := false } }
     gives (exec (.timebaseModeChange true) stop) (fun t => t.flag .TB_STAT 0)
       && gives (exec (.timebaseModeChange true) base) (fun t => decide (t = base))
       && gives (exec (.timebaseModeChange false) stop) (fun t => decide (t = stop))
       && gives (exec (.timebaseModeChange false) (((base.wr .TB_LO 0xFFFFFFF1).wr .TB_HI 0xFFFFFFFF).setFlag .TB_STAT 0 true))
         (fun t => !t.flag .TB_STAT 0 && t.now == 24)) = true := by decide +kernel

/-- An amount of minus 41: one step of 40 back from 80, the amount itself in LFCLK mode. -/
theorem test_timebase_adjust :
    (let v : Word := 0xFFFFFFD7
     writes base .TB_ADJ v true (.tbAdjWrite host v) (fun t => t.tbAdj == some (-41) && t.flag .TB_STAT 1)
       && writes { base with tbAdj := some 1 } .TB_ADJ v true (.tbAdjWrite host v) (fun t => refused t && t.tbAdj == some 1)
       && gives (exec .timebaseAdjustApply { base.wr .TB_LO 80 with tbAdj := some (-41) }) (fun t => t.now == 40 && t.tbAdj == none)
       && gives (exec .timebaseAdjustApply { base.wr .TB_LO 80 with tbAdj := some (-41), clk := { base.clk with running := false } }) (fun t => t.now == 1639)
       && gives (exec .timebaseAdjustApply base) (fun t => decide (t = base))) = true := by decide +kernel

theorem test_comparator :
    (let s := ((base.wr (.TB_CMP 7 0) 5).wr (.TB_CMP 7 2) 1).wr (.TB_CMP 7 3) 0xC0000000
     let w := ((base.wr (.TB_CMP 7 0) 5).wr (.TB_CMP 7 3) 0xA0000000).setField .BLK_STATE 0 4 5
     gives (exec (.aoComparatorFire 7) s) (fun t => t.now == 8 && t.flag (.TB_CMP 7 3) 0 && t.flag (.TB_CMP 7 3) 31 && t.rd (.TB_CMP 7 0) == 1605)
       && gives (exec (.aoComparatorFire 7) w) (fun t => !t.flag (.TB_CMP 7 3) 31 && t.wakes == [.comparator 7])
       && gives (exec (.aoComparatorFire 7) base) (fun t => decide (t = base))) = true := by decide +kernel

/-- Channel 63 counts in a mode from a count, with PERIOD 5 and MATCH 4. -/
def tm (mode c : Nat) : State :=
  (((base.wr (.TM_CTL 63) (BitVec.ofNat 32 (0xC0000000 + mode * 2 ^ 28))).wr (.TM_PRESC 63) 0x10000).wr (.TM_CNT_LO 63) (BitVec.ofNat 32 c)).setTimer 63
    { timerReset with period := 5, mtch := 4 }

theorem test_timer_tick :
    (gives (exec (.timerTick 63 1) (tm 0 3)) (fun t => t.tmCount 63 == 4 && t.flag (.TM_STAT 63) 1 && !t.flag (.TM_STAT 63) 0)
      && gives (exec (.timerTick 63 1) (tm 0 5)) (fun t => t.tmCount 63 == 0 && t.flag (.TM_STAT 63) 0 && !t.flag (.TM_STAT 63) 2)
      && gives (exec (.timerTick 63 1) (tm 1 0)) (fun t => t.tmCount 63 == 5 && t.flag (.TM_STAT 63) 0)
      && gives (exec (.timerTick 63 1) (tm 1 6)) (fun t => t.tmCount 63 == 5 && t.flag (.TM_STAT 63) 2)
      && gives (exec (.timerTick 63 1) (tm 2 5)) (fun t => t.tmCount 63 == 4 && t.flag (.TM_STAT 63) 8)
      && gives (exec (.timerTick 63 1) ((tm 2 1).setFlag (.TM_STAT 63) 8 true)) (fun t => t.tmCount 63 == 0 && t.flag (.TM_STAT 63) 0 && !t.flag (.TM_STAT 63) 8)
      && gives (exec (.timerTick 63 1) ((tm 0 3).wr (.TM_PRESC 63) 0x20000)) (fun t => t.tmCount 63 == 3 && (t.timer 63).acc == 0x10000)) = true := by decide +kernel

theorem test_timer_idle_and_lfclk :
    (gives (exec (.timerTick 63 9) ((tm 0 3).wr (.TM_CTL 63) 0x80000000)) (fun t => t.tmCount 63 == 3)
      && gives (exec (.timerLfclkStep 63) { (tm 0 3).setField (.TM_CTL 63) 26 2 2 with clk := { base.clk with running := false } }) (fun t => t.tmCount 63 == 4 && t.flag (.TM_STAT 63) 1)) = true := by
  decide +kernel

/-- The gate of a stopped master, and a channel of mode 0b11; a LFCLK step in DOZE without TMRCLK, and below the prescaler. -/
theorem test_timer_clock_sources :
    (let lf := fun (v : Word) => { ((tm 0 3).wr (.TM_PRESC 63) v) with clk := { base.clk with running := false } }
     gives (exec (.timerLfclkStep 63) (lf 0xC80000)) (fun t => t.tmCount 63 == 4 && (t.timer 63).acc == 0)
       && gives (exec (.timerLfclkStep 63) (lf 0xC80001)) (fun t => t.tmCount 63 == 3 && (t.timer 63).acc == 0xC80000)
       && gives (exec (.timerLfclkStep 63) (tm 0 3)) (fun t => decide (t = tm 0 3))
       && gives (exec (.timerTick 63 1) (lf 0x10000)) (fun t => decide (t = lf 0x10000))
       && gives (exec (.timerTick 63 2) (tm 0 3)) (fun t => t.tmCount 63 == 5)
       && gives (exec (.timerLinkEvent 63) (tm 0 3)) (fun t => t.regs == (tm 0 3).regs)) = true := by decide +kernel

/-- A reset by the link, a clock by it, and the gate. -/
theorem test_timer_link :
    (let s := fun (l : Nat) => ((tm 0 3).setField (.TM_CTL 63) 21 2 l)
     let pend := fun (s : State) => s.setTimer 63 { s.timer 63 with linkPend := true }
     gives (exec (.timerLinkEvent 63) (pend (s 2))) (fun t => t.tmCount 63 == 0 && t.flag (.TM_STAT 63) 0)
       && gives (exec (.timerLinkEvent 63) (pend (s 3))) (fun t => t.tmCount 63 == 4)
       && gives (exec (.timerLinkEvent 63) (((s 1).wr (.TM_CTL 0) 0xC0000000).setTimer 0 { timerReset with mtch := 1 })) (fun t => (t.timer 63).gate)) = true := by decide +kernel

theorem test_timer_enable :
    (let s := ((base.wr (.TM_PMHI 63) 0x00020001).wr (.TM_PERIOD 63) 7).wr (.TM_MATCH 63) 6
     writes s (.TM_CTL 63) 0xC0000000 true (.timerEnable host 63 0x40000000)
         (fun t => t.rd (.TM_CTL 63) == 0xC0000000 && (t.timer 63).period == 0x200000007 && (t.timer 63).mtch == 0x100000006)
       && writes (tm 0 3) (.TM_CTL 63) 0xD0000000 true (.timerEnable host 63 0x50000000) (fun t => refused t && t.rd (.TM_CTL 63) == 0xC0000000)) = true := by decide +kernel

/-- RUN alone changes in a running channel; mode 0b11. -/
theorem test_timer_enable_again :
    (writes (tm 0 3) (.TM_CTL 63) 0x80000000 true (.timerEnable host 63 0) (fun t => t.rd (.TM_CTL 63) == 0x80000000 && (t.timer 63).period == 5)
      && writes base (.TM_CTL 63) 0xB0000000 true (.timerEnable host 63 0x30000000) (fun t => refused t && t.rd (.TM_CTL 63) == base.rd (.TM_CTL 63))) = true := by
  decide +kernel

theorem test_timer_start_stop :
    (gives (exec (.timerStartStop 63) (base.setTimer 63 { timerReset with startReq := true })) (fun t => t.flag (.TM_CTL 63) 30 && !(t.timer 63).startReq)
      && gives (exec (.timerStartStop 63) ((tm 0 3).setTimer 63 { timerReset with startReq := true, stopReq := true })) (fun t => !t.flag (.TM_CTL 63) 30)
      && writes base (.TM_GSTART 1) 0x80000000 true (.tmGstart host 1 0x80000000) (fun t => t.flag (.TM_CTL 63) 30 && !t.flag (.TM_CTL 62) 30)
      && writes (tm 0 3) (.TM_GSTOP 1) 0x80000000 true (.tmGstop host 1 0x80000000) (fun t => !t.flag (.TM_CTL 63) 30 && t.flag (.TM_CTL 63) 31)) = true := by decide +kernel

theorem test_timer_shadow :
    (let s := (tm 0 3).setTimer 63 { (tm 0 3).timer 63 with armP := true }
     writes (tm 0 3) (.TM_MATCH 63) 9 true (.timerShadowWrite host 63 true 9) (fun t => t.rd (.TM_MATCH 63) == 9 && (t.timer 63).mtch == 4 && (t.timer 63).armM)
       && writes (tm 0 3) (.TM_PERIOD 63) 9 true (.timerShadowWrite host 63 false 9) (fun t => t.rd (.TM_PERIOD 63) == 9 && (t.timer 63).period == 5 && (t.timer 63).armP)
       && gives (exec (.timerShadowTransfer 63) (s.wr (.TM_PERIOD 63) 9)) (fun t => (t.timer 63).period == 9 && (t.timer 63).mtch == 4 && !(t.timer 63).armP)
       && gives (exec (.timerShadowTransfer 63) (s.setFlag (.TM_CTL 63) 25 true)) (fun t => (t.timer 63).armP && (t.timer 63).period == 5)) = true := by decide +kernel

theorem test_timer_capture :
    (let s := (tm 0 3).setFlag (.TM_CTL 63) 24 true
     let full := s.setTimer 63 { s.timer 63 with rise := [1, 2] }
     gives (exec (.timerCapture 63 true) s) (fun t => (t.timer 63).rise == [3] && (t.timer 63).sinceRise == some 0 && !t.flag (.TM_STAT 63) 6)
       && gives (exec (.timerCapture 63 true) full) (fun t => (t.timer 63).rise == [1, 3] && t.flag (.TM_STAT 63) 6)
       && gives (exec (.timerCapture 63 false) (s.setTimer 63 { s.timer 63 with sinceRise := some 7 })) (fun t => (t.timer 63).fall == [(3, 7)])
       && gives (exec (.timerCapture 63 false) (tm 0 3)) (fun t => decide (t = tm 0 3))) = true := by decide +kernel

theorem test_capture_pop :
    (let s := base.setTimer 63 { timerReset with rise := [5, 6], fall := [(7, 8), (9, 10)] }
     s.decodeFor host (0x6024 + 0x40 * 63) == .reg (.TM_CAPRISE 63) && s.readCheck host (0x6024 + 0x40 * 63) == .ok
       && s.decodeFor host (0x6028 + 0x40 * 63) == .reg (.TM_CAPFALL 63) && s.readCheck host (0x6028 + 0x40 * 63) == .ok
       && gives (exec (.tmCaprisePop 0 true 63) s) (fun t => (t.timer 63).rise == [6] && match mget t.resp ⟨.decerr, none⟩ 0 with
         | ⟨.okay, some d⟩ => fld d 32 32 == 5 | _ => false)
       && gives (exec (.tmCapfallPop 0 true 63) s) (fun t => (t.timer 63).fall == [(9, 10)] && t.rd (.TM_PWIDTH 63) == 8 && match mget t.resp ⟨.decerr, none⟩ 0 with
         | ⟨.okay, some d⟩ => fld d 0 32 == 7 | _ => false)) = true := by decide +kernel

theorem test_counter_write_and_pulse_end :
    (writes base (.TM_CNT_HI 63) 0xFFFFF true (.tmCounterWrite host 63 true 0xFFFFF) (fun t => t.rd (.TM_CNT_HI 63) == 0xFFFF)
      && writes (tm 0 3) (.TM_CNT_LO 63) 9 true (.tmCounterWrite host 63 false 9) (fun t => refused t && t.tmCount 63 == 3)
      && gives (exec (.convStartPulseEnd 15) { base with conv := 0xC000 }) (fun t => t.conv == 0x4000)) = true := by decide +kernel
/-! ### CAN controllers -/

/-- Controller 15 out of INIT and on the bus, with the state `x`. -/
def can (x : Can) : State := (base.wr (.CN_CTL 15) 0).setCan 15 { x with joined := true }

/-- A valid transmit object n of controller 15 with words 0 and 2. -/
def txObj (s : State) (n : Nat) (w0 w2 : Word) : State := ((s.putWord (objAddr n 0) w0).putWord (objAddr n 1) 0xFC000000).putWord (objAddr n 2) w2

theorem test_can_domain :
    (writes base .CN_DOMCTL 1 (!base.flag .CN_DOMCTL 0) (.cnDomctlWrite host 1) (fun t => t.flag .CN_DOMCTL 0 && t.apWait == [⟨.can, 3⟩])
      && writes ((can canReset).wr .CN_DOMCTL 1) .CN_DOMCTL 0 ((can canReset).canOn 15) (.cnDomctlWrite host 0) (fun t => refused t && t.flag .CN_DOMCTL 0)) = true := by
  decide +kernel

/-- The domain given up with its grant, and before it. -/
theorem test_can_domain_off :
    (let s := base.wr .CN_DOMCTL 1
     let d := { s.setPd 2 { s.pd 2 with phase := .on } with apHeld := [(.can, 3)] }
     let i := (List.range 16).foldl (fun t c => t.wr (.CN_CTL c) 1) d
     writes (i.wr .CN_DOMCTL 1) .CN_DOMCTL 0 ((List.range 16).all (fun c => !i.canOn c || i.flag (.CN_CTL c) 0)) (.cnDomctlWrite host 0)
         (fun t => (t.pd 2).phase == .draining && !t.ready 2 31)
       && writes { i with apHeld := [], apWait := [⟨.can, 3⟩] } .CN_DOMCTL 0 true (.cnDomctlWrite host 0) (fun t => t.apWait == [])
       && writes s .CN_DOMCTL 1 true (.cnDomctlWrite host 1) (fun t => t.apWait == s.apWait && t.pds == s.pds)) = true := by decide +kernel

theorem test_can_init_and_join :
    (let s := base.wr (.CN_CTL 15) 1
     writes s (.CN_CTL 15) 8 true (.canInitLeave host 15 9) (fun t => !t.flag (.CN_CTL 15) 0 && t.flag (.CN_CTL 15) 3 && !(t.can 15).joined)
       && gives (exec (.canBusJoin 15) ((can canReset).setCan 15 canReset)) (fun t => (t.can 15).joined)
       && gives (exec (.canBusJoin 15) s) (fun t => decide (t = s))) = true := by decide +kernel

/-- 80 cycles of 1 + 2 + 77 quanta and 10 of 3 + 6 + 1. -/
theorem test_can_bit_timing :
    (let s := base.wr (.CN_CTL 15) 1
     let n : Word := BitVec.ofNat 32 (1 * 2 ^ 25 + 70 * 2 ^ 17 + 7 * 2 ^ 10)
     let d : Word := BitVec.ofNat 32 (1 * 2 ^ 28 + 6 * 2 ^ 23 + 1 * 2 ^ 19 + 2 ^ 13)
     writes s (.CN_NBT 15) n true (.canBitTimingWrite host 15 false n) (fun t => t.rd (.CN_NBT 15) == n)
       && writes s (.CN_DBT 15) d true (.canBitTimingWrite host 15 true d) (fun t => t.rd (.CN_DBT 15) == d)
       && writes (can canReset) (.CN_NBT 15) n true (.canBitTimingWrite host 15 false n) (fun t => refused t && t.rd (.CN_NBT 15) == base.rd (.CN_NBT 15))) = true := by
  decide +kernel

/-- Key 0x7FF maps to object 16383, a valid receive object of the controller. -/
theorem test_can_map :
    (let s := ((can canReset).wr (.CN_MAPID 15) 0x7FF).putWord (objAddr 16383 1) 0xBC000000
     writes s (.CN_MAPCMD 15) 0x40003FFF (!s.objMapped 16383) (.canMap host 15 0x3FFF) (fun t => (t.can 15).table == [(0x7FF, 16383)])
       && writes (s.putWord (objAddr 16383 1) 0xFC000000) (.CN_MAPCMD 15) 0x40003FFF true (.canMap host 15 0x3FFF)
         (fun t => refused t && t.flag (.CN_STAT 15) 5 && (t.can 15).table == [])
       && writes ((can { canReset with table := [(0x7FF, 5), (1, 6)] }).wr (.CN_MAPID 15) 0x7FF) (.CN_MAPCMD 15) 0x80000000 true (.canUnmap host 15 0)
         (fun t => (t.can 15).table == [(1, 6)])
       && writes s (.CN_MAPCMD 15) 0x80000000 true (.canUnmap host 15 0) (fun t => refused t && t.flag (.CN_STAT 15) 5)) = true := by decide +kernel

/-- An extended FD frame, its object holding an unread frame and SEQ 0xFFFF; a miss; and a controller off the bus. -/
theorem test_can_receive :
    (let f : CanFrame := ⟨0x1FFFFFFF, true, true, false, false, false, 1, [9]⟩
     let s := ((can { canReset with table := [(canKey true 0x1FFFFFFF, 16383)] }).putWord (objAddr 16383 1) 0xBC000000).putWord (objAddr 16383 2) 0xFFFF0001
     s.canBus 15 && s.inOrder && s.field (.CN_TTCFG 15) 30 2 == 0
       && gives (exec (.canFrameReceived 15 f 64) s) (fun t => t.objWord 16383 0 == 0xBFFFFFFF && t.objWord 16383 3 == 2
         && (t.objWord 16383 2 &&& 0xFFFF0F03) == 0x00000103 && memGet t.mem (canBase + 80 * 16383 + 16) == 9)
       && gives (exec (.canFrameReceived 15 f 64) (can canReset)) (fun t => t.rd (.CN_RXMISS 15) == 1)
       && gives (exec (.canFrameReceived 15 f 64) base) (fun t => decide (t = base))) = true := by decide +kernel

/-- An object with RING set: its record; and with 32 records held already. -/
theorem test_can_record :
    (let f : CanFrame := ⟨0x7FF, false, false, false, false, false, 1, [9]⟩
     let s := fun (l : List (List Byte × List Nat)) => (can { canReset with table := [(canKey false 0x7FF, 16383)], records := l }).putWord (objAddr 16383 1) 0xBE000000
     gives (exec (.canFrameReceived 15 f 64) (s [])) (fun t => (t.can 15).records.map (fun x => (x.1.length, x.2)) == [(20, [])])
       && gives (exec (.canFrameReceived 15 f 64) (s (List.replicate 32 ([], [])))) (fun t => t.flag (.CN_STAT 15) 0)) = true := by decide +kernel

theorem test_can_request_and_abort :
    (let s := txObj (can canReset) 16383 0x7FF 0x100
     let p := txObj (can { canReset with pend := [16383, 1] }) 16383 0x7FF 0x104
     writes s (.CN_TXREQ 15) 16383 s.inOrder (.cnTxreq host 15 16383) (fun t => (t.can 15).pend == [16383] && t.objWord 16383 2 == 0x104)
       && writes (can canReset) (.CN_TXREQ 15) 5 true (.cnTxreq host 15 5) (fun t => refused t && (t.can 15).pend == [])
       && writes s (.CN_TXABORT 15) 5 true (.cnTxabort host 15 5) (fun t => decide (t.mem = s.mem) && t.cans == s.cans)
       && writes p (.CN_TXABORT 15) 16383 true (.cnTxabort host 15 16383) (fun t => (t.can 15).pend == [1] && t.objWord 16383 2 == 0x110)
       && writes (p.setCan 15 { p.can 15 with buf := some ⟨some 16383, 0, 0, [], 0⟩ }) (.CN_TXABORT 15) 16383 true (.cnTxabort host 15 16383)
         (fun t => (t.can 15).abort && (t.can 15).pend == [16383, 1])) = true := by decide +kernel

/-- Of two pending objects the one with the lower identifier. -/
theorem test_can_attempt :
    (let s := txObj (txObj (can { canReset with pend := [2, 1] }) 2 0x100 0x104) 1 0x7FF 0x104
     s.canBus 15 && decide (arbKey (s.objWord 2 0) < arbKey (s.objWord 1 0))
       && gives (exec (.canTransmitAttempt 15) s) (fun t => match (t.can 15).buf with
         | some b => b.obj == some 2 && b.data.length == 1 && b.sof == 0 | none => false)
       && gives (exec (.canTransmitAttempt 15) (can canReset)) (fun t => (t.can 15).buf == none)) = true := by decide +kernel

/-- The reference message against an object of its identifier, and after it has been sent; and an abort of what is on the bus. -/
theorem test_can_reference_frames :
    (let s := ((can { canReset with refReq := true }).wr (.CN_TTCFG 15) 0x80040064).wr .TB_LO 0x12340
     let b : CanBuf := ⟨none, 0, 0, [], 64⟩
     let a := txObj (can { canReset with pend := [1], buf := some ⟨some 1, 0, 0, [], 0⟩, abort := true }) 1 0x7FF 0x104
     gives (exec (.canTransmitAttempt 15) s) (fun t => match (t.can 15).buf with
         | some x => x.obj == none && x.w0 == s.refWord 15 && x.sof == 0x12340 && x.data.length == 8 && x.data.drop 2 == [0x34, 0x12, 0, 0, 0, 0] | none => false)
       && gives (exec (.canFrameTransmitted 15) (s.setCan 15 { s.can 15 with buf := some b }))
         (fun t => !(t.can 15).refReq && (t.can 15).refAt == 0x12340 && t.field (.CN_TTSTAT 15) 0 3 == 6)
       && a.inOrder && gives (exec (.canTransmitAttempt 15) a) (fun t => (t.can 15).pend == [] && bit (t.objWord 1 2) 4)
       && gives (exec (.canTransmitAttempt 15) (a.setFlag (.CN_CTL 15) 1 true)) (fun t => (t.can 15).pend == [1])) = true := by decide +kernel

theorem test_can_transmitted :
    (let s := txObj (can { canReset with pend := [16383], buf := some ⟨some 16383, 0x7FF, 0x104, [0], 64⟩ }) 16383 0x7FF 0xFFFF0104
     s.inOrder && gives (exec (.canFrameTransmitted 15) s) (fun t => (t.can 15).buf == none && (t.can 15).pend == [] && t.objWord 16383 3 == 2
         && (t.objWord 16383 2 &&& 0xFFFF000C) == 8)
       && gives (exec (.canFrameTransmitted 15) base) (fun t => decide (t = base))) = true := by decide +kernel

theorem test_can_errors :
    (gives (exec (.canErrorStateChange 15 256 0 3) (can canReset)) (fun t => t.field (.CN_ERR 15) 30 2 == 2 && t.field (.CN_ERR 15) 16 8 == 255
        && t.field (.CN_ERR 15) 27 3 == 3 && !(t.can 15).joined && t.latched 87)
      && gives (exec (.canErrorStateChange 15 0 128 0) (can canReset)) (fun t => t.field (.CN_ERR 15) 30 2 == 1 && t.field (.CN_ERR 15) 8 7 == 127)
      && gives (exec (.canBusOffRecovery 15) ((can { canReset with recover := true }).wr (.CN_ERR 15) 0x80FF0000))
        (fun t => t.field (.CN_ERR 15) 30 2 == 0 && t.field (.CN_ERR 15) 16 8 == 0 && (t.can 15).joined)
      && gives (exec (.canBusOffRecovery 15) base) (fun t => decide (t = base))) = true := by decide +kernel

theorem test_can_reference :
    (let s := (((can canReset).wr (.CN_TTCFG 15) 0x80040064).wr (.CN_TTSTAT 15) 2).wr .TB_LO 1608
     gives (exec (.canReferenceDue 15) s) (fun t => (t.can 15).refReq && t.now == 3200)
       && gives (exec (.canReferenceDue 15) ((s.setFlag (.CN_CTL 15) 1 true).wr (.CN_TTSTAT 15) 0)) (fun t => t.flag (.CN_STAT 15) 6 && t.now == 2400 && !(t.can 15).refReq)
       && gives (exec (.canReferenceDue 15) (can canReset)) (fun t => decide (t = can canReset))) = true := by decide +kernel

/-- Words 0 and 1, 2 and 3, and data of a receive object; words 0 and 1 of a mapped one. -/
theorem test_can_object_words :
    (let a := canBase + 80 * 16383
     let s := txObj (can canReset) 16383 0 0x1B
     let m := s.setCan 15 { s.can 15 with table := [(1, 16383)] }
     let r := s.putWord (objAddr 16383 1) 0xBC000000
     s.decodeFor host a == .mem a && s.writeCheck host a 0 == .ok
       && gives (exec (.canObjectWrite host a 0xFC00000000000007 0xFF) s) (fun t => t.objWord 16383 0 == 7 && t.objWord 16383 1 == 0xFC000000 && answered t 0 ⟨.okay, none⟩)
       && gives (exec (.canObjectWrite host (a + 8) 0xFFFFFFFF00001FFF 0xFF) s) (fun t => t.objWord 16383 2 == 0x1F00 && t.objWord 16383 3 == 0)
       && gives (exec (.canObjectWrite host (a + 16) 7 0xFF) r) (fun t => t.objWord 16383 4 == 0 && answered t 0 ⟨.okay, none⟩)
       && gives (exec (.canObjectWrite host a 7 0xFF) m) (fun t => refused t && t.mem == m.mem)) = true := by decide +kernel

theorem test_can_object_write :
    (let a := canBase + 80 * 16383 + 16
     let s := txObj (can canReset) 16383 0 0
     s.decodeFor host a == .mem a && s.writeCheck host a 0 == .ok && s.inOrder
       && gives (exec (.canObjectWrite host a 0x5566778811223344 0x0F) s) (fun t => t.objWord 16383 4 == 0x11223344 && t.objWord 16383 5 == 0 && answered t 0 ⟨.okay, none⟩)
       && gives (exec (.canObjectWrite host a 0x11223344 0x0F) (txObj (can canReset) 16383 0 4)) (fun t => refused t && t.objWord 16383 4 == 0)) = true := by decide +kernel
/-! ### Federation links -/

/-- The federation domain on; link 3 in a state, with `x`. -/
def lk (st : Nat) (x : Link) : State :=
  ((base.setPd 3 { base.pd 3 with phase := .on }).wr (.FD_LSTAT 3) (BitVec.ofNat 32 (st * 2 ^ 29))).setLink 3 x

/-- A good cell: TYPE with flags, SEQ, ACK, LOCAL and DEST, SRC, PAYLOAD. -/
def cell (ty flags seq ack dest src : Nat) (p : List Nat) : Cell :=
  cellOf (([16 * ty + flags, seq, ack, p.length, dest % 256, dest / 256, src % 256, src / 256] ++ p).map (BitVec.ofNat 8))

/-- A cell of a link that waits or was sent. -/
def oc : OutCell := ⟨6, true, true, false, 1, 0, false, []⟩

theorem test_fd_domen :
    (writes base .FD_CTL 0x80000000 ((base.pd 3).phase == .off) (.fdCtlDomenWrite host 0x80000000)
        (fun t => t.rd .FD_CTL == 0x80000000 && (t.pd 3).phase == .rampUp && (t.pd 3).req)
      && writes ((lk 0 linkReset).wr .FD_CTL 0x80000000) .FD_CTL 0 true (.fdCtlDomenWrite host 0)
        (fun t => t.rd .FD_CTL == 0 && (t.pd 3).phase == .draining && !t.ready 3 3)
      && writes (((lk 1 linkReset).wr .FD_CTL 0x80000000).wr (.FD_LCTL 3) 0x80000000) .FD_CTL 0 true (.fdCtlDomenWrite host 0)
        (fun t => refused t && t.rd .FD_CTL == 0x80000000)) = true := by decide +kernel

theorem test_link_enable :
    (let on := ({ lk 3 linkReset with apHeld := [(.link 3, 1)] }).wr (.FD_LCTL 3) 0x80000000
     writes (lk 0 linkReset) (.FD_LCTL 3) 0x80000004 true (.fdLinkEnable host 3 4)
         (fun t => t.flag (.FD_LCTL 3) 31 && t.field (.FD_LCTL 3) 0 3 == 4 && t.apWait == [⟨.link 3, 1⟩])
       && writes on (.FD_LCTL 3) 0x80000004 true (.fdLinkEnable host 3 4) (fun t => refused t && t.rd (.FD_LCTL 3) == 0x80000000)
       && writes on (.FD_LCTL 3) 0 true (.fdLinkDisable host 3 0) (fun t => !t.flag (.FD_LCTL 3) 31 && t.linkState 3 == 0 && t.apHeld == [] && !t.ready 3 3)) = true := by
  decide +kernel

theorem test_phyrdy :
    (gives (exec (.phyrdyChange 3 true) ((lk 1 linkReset).wr .TB_LO 8)) (fun t => (t.link 3).phy && t.linkState 3 == 2 && (t.link 3).trainedAt == 8)
      && gives (exec (.phyrdyChange 3 false) (lk 3 { linkReset with phy := true })) (fun t => !(t.link 3).phy && t.linkState 3 == 1 && !t.ready 3 3)
      && gives (exec (.phyrdyChange 3 true) (lk 0 linkReset)) (fun t => (t.link 3).phy && t.linkState 3 == 0)) = true := by decide +kernel

/-- RXOK and node ID 0x3FFF from link 2 of the partner; without RXOK; and not in TRAIN. -/
theorem test_train_cell :
    (let c := fun (f : Nat) => cell 1 0xD 0 0 0x8000 0 [f, 2, 0xFF, 0x3F, 0, 0, 0, 0]
     let s := lk 2 linkReset
     (c 3).good && s.linksRun && gives (exec (.trainCell 3 (c 3)) s) (fun t => t.linkState 3 == 3 && t.ready 3 3 && (t.link 3).aligned && (t.link 3).partner == 2
         && t.linkPeer 3 == 0x3FFF)
       && gives (exec (.trainCell 3 (c 0)) s) (fun t => t.linkState 3 == 2 && (t.link 3).aligned && t.linkPeer 3 == 0)
       && gives (exec (.trainCell 3 (c 3)) (lk 1 linkReset)) (fun t => t.linkState 3 == 1)) = true := by decide +kernel

theorem test_training_times :
    (gives (exec (.trainingTimeout 3) (lk 2 linkReset)) (fun t => t.linkState 3 == 4 && t.flag (.FD_LSTAT 3) 28 && t.now == 160000)
      && gives (exec (.trainingTimeout 3) (lk 3 linkReset)) (fun t => t.linkState 3 == 3)
      && gives (exec (.failedTrainingRestart 3) ((lk 4 { linkReset with phy := true }).wr (.FD_LCTL 3) 0x80000000)) (fun t => t.linkState 3 == 2 && t.now == 1600000)) = true := by
  decide +kernel

theorem test_retrain :
    (gives (exec (.linkRetrain 3) (lk 3 { linkReset with phy := true, resends := 8 })) (fun t => t.linkState 3 == 2 && !t.ready 3 3)
      && gives (exec (.linkRetrain 3) (lk 3 { linkReset with crcRun := 16 })) (fun t => t.linkState 3 == 1)
      && gives (exec (.linkRetrain 3) (lk 3 { linkReset with crcRun := 15, resends := 7 })) (fun t => t.linkState 3 == 3)
      && gives (exec (.elasticBufferSlip 3) (lk 3 { linkReset with phy := true })) (fun t => t.linkState 3 == 2 && t.flag (.FD_LSTAT 3) 27)
      && gives (exec (.elasticBufferSlip 3) (lk 2 linkReset)) (fun t => t.linkState 3 == 2 && !t.flag (.FD_LSTAT 3) 27)
      && gives (exec (.resendTimeout 3) (lk 3 { linkReset with sent := [(255, oc)] })) (fun t => t.field (.FD_LERR 3) 0 16 == 1 && (t.link 3).resends == 1)) = true := by
  decide +kernel

/-- Two of three cells acknowledged over the wrap of the numbers; NAK; a bad CRC at the counter's limit. -/
theorem test_idle_cell :
    (let s := lk 3 { linkReset with sent := [(255, oc), (0, oc), (1, oc)], txSeq := 2, resends := 3 }
     s.linksRun && s.linkIsUp 3
       && gives (exec (.idleCell 3 (cell 0 0 0 1 0x8000 0 [])) s) (fun t => (t.link 3).sent.map (·.1) == [1] && (t.link 3).resends == 0)
       && gives (exec (.idleCell 3 (cell 0 2 0 255 0x8000 0 [])) s) (fun t => (t.link 3).sent.length == 3 && (t.link 3).resends == 4 && t.field (.FD_LERR 3) 0 16 == 1)
       && gives (exec (.idleCell 3 ⟨(cell 0 0 0 1 0x8000 0 []).words.set 15 0⟩) (s.wr (.FD_LERR 3) 0xFFFF0000))
         (fun t => t.rd (.FD_LERR 3) == 0xFFFF0000 && (t.link 3).nak && (t.link 3).crcRun == 1)) = true := by decide +kernel

/-- Out of order; in order for the block itself; to nowhere; and on to link 2. -/
theorem test_sequenced_cell :
    (let s := { lk 3 { linkReset with rxSeq := 255 } with fed := { fedReset with holds := true } }
     let c := fun (seq dest : Nat) => cell 7 9 seq 0 dest 5 [1]
     let up2 := (s.wr (.FD_LSTAT 2) 0x60000000).setFed { s.fed with children := [(2, 9, 9)] }
     let m := fun (seq dest : Nat) => cell 6 9 seq 0 dest 5 [1]
     gives (exec (.sequencedCellReceived 3 (m 0 0)) s) (fun t => (t.link 3).nak && (t.link 3).rxSeq == 255)
       && s.route 0 == .own && gives (exec (.sequencedCellReceived 3 (m 255 0)) s) (fun t => (t.link 3).rxSeq == 0 && (t.link 3).parts == [(6, 5, [1])])
       && s.route 9 == .nowhere && gives (exec (.sequencedCellReceived 3 (c 255 9)) s) (fun t => (t.link 3).rxSeq == 0 && t.field (.FD_LERR 3) 16 16 == 1)
       && up2.route 9 == .edge 2
       && gives (exec (.sequencedCellReceived 3 (c 255 9)) up2) (fun t => (t.link 3).rxSeq == 0 && (t.link 2).sent == [(0, ⟨7, true, false, false, 9, 5, false, [1]⟩)])) = true := by
  decide +kernel

/-- Links 2 and 3 bonded, link 3 UP alone. -/
theorem test_bondsync :
    (let s := (((lk 3 linkReset).wr (.FD_LCTL 3) 0x80000004).wr (.FD_LCTL 2) 0x80000004)
     s.linksRun && s.upMembers 3 == [3]
       && gives (exec (.linkctlBondsync 3) s) (fun t => (t.link (s.bondHead 3)).bondOut == some (8, 0)
         && ((t.link (s.bondHead 3)).queue ++ (t.link (s.bondHead 3)).sent.map (·.2)).any (fun c => c.ty == 2 && c.payload == [1, 8, 0, 0, 0, 0, 0, 0]))
       && gives (exec (.linkctlBondsync 3) (lk 3 linkReset)) (fun t => (t.link 3).bondOut == none)) = true := by decide +kernel

/-- DOMEN kept, and taken back while the domain still drains; bond fields written alike and anew while a link is enabled, and while it is not. -/
theorem test_link_controls :
    (let on := (lk 3 linkReset).wr (.FD_LCTL 3) 0x80000000
     let d := ((base.setPd 3 { base.pd 3 with phase := .draining, req := true, want := false }))
     writes base .FD_CTL 1 true (.fdCtlDomenWrite host 1) (fun t => t.rd .FD_CTL == 1 && t.pds == base.pds)
       && writes d .FD_CTL 0x80000000 true (.fdCtlDomenWrite host 0x80000000) (fun t => (t.pd 3).phase == .draining && (t.pd 3).want)
       && writes on (.FD_LCTL 3) 0x80000000 true (.fdLinkEnable host 3 0) (fun t => t.flag (.FD_LCTL 3) 31 && t.links == on.links)
       && writes on (.FD_LCTL 3) 4 true (.fdLinkDisable host 3 4) (fun t => refused t && t.linkState 3 == 3)
       && writes (lk 0 linkReset) (.FD_LCTL 3) 4 true (.fdLinkDisable host 3 4) (fun t => t.rd (.FD_LCTL 3) == 4)
       && gives (exec (.failedTrainingRestart 3) (lk 4 linkReset)) (· == lk 4 linkReset)
       && gives (exec (.resendTimeout 3) (lk 3 linkReset)) (· == lk 3 linkReset)) = true := by decide +kernel

/-- ACK of more than was sent; a part of a message; BONDSYNC of the partner, after and before our own. -/
theorem test_cells_more :
    (let s := lk 3 { linkReset with sent := [(255, oc), (0, oc)], txSeq := 1, resends := 3, rxSeq := 255 }
     let b := fun (o : Option (Nat × Nat)) => lk 3 { linkReset with bondOut := o, stripe := (9, 9) }
     let y := cell 2 13 0 0 0x8000 0 [1, 0x1C, 7, 0, 0, 0, 0, 0]
     gives (exec (.idleCell 3 (cell 0 0 0 2 0x8000 0 [])) s) (fun t => (t.link 3).sent.length == 2 && (t.link 3).resends == 3)
       && gives (exec (.sequencedCellReceived 3 (cell 4 9 255 0 0x8000 5 [1])) s) (fun t => (t.link 3).rxSeq == 0 && (t.link 3).parts == [(4, 5, [1])])
       && gives (exec (.sequencedCellReceived 3 (cell 4 1 255 0 0x8000 5 [2])) (s.setLink 3 { s.link 3 with parts := [(4, 5, [1])] }))
         (fun t => (t.link 3).parts == [(4, 5, [1, 2])])
       && gives (exec (.idleCell 3 y) s) (· == s)
       && gives (exec (.sequencedCellReceived 3 y) (b (some (12, 3)))) (fun t => (t.link 3).bondIn == some (12, 7) && (t.link 3).stripe == (12, 3))
       && gives (exec (.sequencedCellReceived 3 y) (b none)) (fun t => (t.link 3).bondIn == some (12, 7) && (t.link 3).stripe == (9, 9))) = true := by decide +kernel

theorem test_links_in_halt :
    (let s := (lk 3 { linkReset with crcRun := 16, sent := [(0, oc)] }).setField .BLK_STATE 0 4 7
     !s.linksRun && [Instr.trainingTimeout 3, .linkRetrain 3, .failedTrainingRestart 3, .idleCell 3 (cell 0 0 0 0 0 0 []),
       .sequencedCellReceived 3 (cell 6 9 0 0 0 0 []), .resendTimeout 3, .elasticBufferSlip 3, .linkctlBondsync 3].all
         (fun i => gives (exec i s) (fun t => decide (t = s)))) = true := by decide +kernel
/-! ### Enumeration and time of the federation -/

/-- Link 3 UP with the round 7 under way, links 0 to 3 in no bond. -/
def fd (f : Fed) : State := ((lk 3 linkReset).setField .FD_STAT 22 8 7).setFed f

/-- A whole ENUM message. -/
def enumCell (k r id node prio err : Nat) : Cell := cell 4 13 0 0 0x8000 0 [k, r, id % 256, id / 256, node % 256, node / 256, prio, err]

/-- A whole cell of a type, which link 3 takes. -/
def whole (s : State) (c : Cell) (ty : Nat) : Bool :=
  s.linksRun && s.linkIsUp 3 && c.good && c.ty == ty && c.som && c.eom && !c.nak && c.seqv && c.byte 1 == (s.link 3).rxSeq && (s.link 3).sent == []

/-- Link `n` sends an ENUM message. -/
def offers (t : State) (n : Nat) (m : List Nat) : Bool :=
  ((t.link n).queue ++ (t.link n).sent.map (·.2)).any (fun c => c.ty == 4 && c.loc && c.payload.map (·.toNat) == m)

theorem test_enum_start :
    (let root := fd fedReset
     writes root .FD_CTL 0x10 true (.fdCtlEnum host 0) (fun t => t.fed == root.fed)
       && writes (root.wr (.FD_LSTAT 3) 0) .FD_CTL 0x11 ((root.wr (.FD_LSTAT 3) 0).upEdges == []) (.fdCtlEnum host 1)
         (fun t => t.round == 8 && t.flag .FD_STAT 31 && t.flag .FD_TSTAT 30 && t.rd .FD_RANGE == 0 && t.fed.holds)
       && writes (root.setField .FD_STAT 22 8 255) .FD_CTL 0x11 (root.upEdges == [3]) (.fdCtlEnum host 1)
         (fun t => t.round == 0 && t.fed.offered == some 3 && t.fed.todo == [] && t.fed.nextId == 1 && offers t 3 [1, 0, 1, 0, 0, 0, 0, 0])) = true := by decide +kernel

/-- The second offer of a round, the first of a new one with one edge, and with link 0 besides. -/
theorem test_enum_offer :
    (let s := fd fedReset
     let two := s.wr (.FD_LSTAT 0) 0x60000000
     whole s (enumCell 1 7 0x1234 0 0 0) 4
       && gives (exec (.enumOffer 3 (enumCell 1 7 0x1234 0 0 0)) (fd { fedReset with holds := true })) (fun t => t.field (.FD_LSTAT 3) 24 2 == 3 && offers t 3 [3, 7, 0, 0, 0, 0, 0, 0])
       && gives (exec (.enumOffer 3 (enumCell 1 8 0x1234 0 0 0)) s) (fun t => t.round == 8 && t.field .FD_STAT 0 14 == 0x1234 && t.flag .FD_STAT 21
         && t.field .FD_STAT 16 2 == 3 && t.rd .FD_RANGE == 0x1234 && offers t 3 [2, 8, 0x34, 0x12, 0x34, 0x12, s.field .FD_TCFG 24 8, 2])
       && gives (exec (.enumOffer 3 (enumCell 1 8 0x1234 0 0 0)) two) (fun t => t.fed.offered == some 0 && t.fed.nextId == 0x1235
         && offers t 0 [1, 8, 0x35, 0x12, 0, 0, 0, 0])) = true := by decide +kernel

/-- The root's last edge is done with a better node; an answer of another round; and a rejection. -/
theorem test_enum_answers :
    (let s := fd { fedReset with holds := true, offered := some 3, nextId := 1, best := (5, 0) }
     whole s (enumCell 2 7 4 3 5 1) 4
       && gives (exec (.enumDone 3 (enumCell 2 7 4 3 4 1)) s) (fun t => t.fed.children == [(3, 1, 4)] && t.fed.nextId == 5 && t.fed.best == (4, 3)
         && t.rd .FD_RANGE == 4 && t.flag .FD_STAT 31 && t.flag .FD_STAT 30 && t.field .FD_TSTAT 0 14 == 3)
       && gives (exec (.enumDone 3 (enumCell 2 7 4 3 5 0)) s) (fun t => t.fed.best == (5, 0) && t.flag .FD_TSTAT 30 && !t.flag .FD_STAT 30)
       && gives (exec (.enumDone 3 (enumCell 2 6 4 3 4 1)) s) (fun t => t.fed == s.fed)
       && gives (exec (.enumRej 3 (enumCell 3 7 0 0 0 0)) s) (fun t => t.field (.FD_LSTAT 3) 24 2 == 3 && t.fed.children == [] && t.rd .FD_RANGE == 0)
       && gives (exec (.enumRej 3 (enumCell 3 8 0 0 0 0)) s) (fun t => t.fed == s.fed)) = true := by decide +kernel

/-- From the parent on link 3, to a child on link 0; and from another link. -/
theorem test_enum_master :
    (let s := (((fd { fedReset with holds := true, children := [(0, 9, 9)] }).wr (.FD_LSTAT 0) 0x60000000).setFlag .FD_STAT 21 true).setField .FD_STAT 16 2 3
     s.route 9 == .edge 0
       && gives (exec (.enumMaster 3 (enumCell 4 7 9 0 0 0)) s) (fun t => t.field .FD_TSTAT 0 14 == 9 && t.flag .FD_STAT 31 && !t.flag .FD_TSTAT 30
         && t.field .FD_TSTAT 16 2 == 0 && offers t 0 [4, 7, 9, 0, 0, 0, 0, 0])
       && gives (exec (.enumMaster 3 (enumCell 4 7 0 0 0 0)) s) (fun t => t.flag .FD_TSTAT 30)
       && gives (exec (.enumMaster 3 (enumCell 4 6 9 0 0 0)) s) (fun t => !t.flag .FD_STAT 31)) = true := by decide +kernel

/-- An enumerated node whose time parent is on link 3, at timebase 1000. -/
def child (f : Fed) : State := (((fd f).setFlag .FD_STAT 31 true).setField .FD_TSTAT 16 2 3).wr .TB_LO 1000

/-- A TIME cell. -/
def timeMsg (k x d p m : Nat) (a b : Nat) : Cell :=
  cell 3 12 0 0 0x8000 0 ([k, x, d, p, m % 256, m / 256, 0, 0] ++ (leBytes 8 a ++ leBytes 8 b).map (·.toNat))

theorem test_time_exchange :
    (let s := child { fedReset with xnum := 255 }
     gives (exec (.timeExchangeDue 3) s) (fun t => t.fed.xnum == 0 && t.fed.t1 == 1000 && ((t.link 3).timeOut.map (·.map (·.toNat)))
         == [[1, 0, 0, 0, 0, 0, 0, 0, 232, 3, 0, 0, 0, 0, 0, 0, 0, 0, 0, 0, 0, 0, 0, 0]])
       && gives (exec (.timeExchangeDue 2) s) (fun t => decide (t = s))
       && gives (exec (.timeDreq 3 (timeMsg 1 5 0 0 0 1 0) 3 1016) s) (fun t => (t.link 3).timeOut.map (fun m => m.map (·.toNat))
         == [[2, 5, 0, 0, 0, 0, 0, 0, 235, 3, 0, 0, 0, 0, 0, 0, 248, 3, 0, 0, 0, 0, 0, 0], [3, 5, 0, 0, 0, 0, 0, 0, 120, 4, 0, 0, 0, 0, 0, 0, 0, 0, 0, 0, 0, 0, 0, 0]])) = true := by
  decide +kernel

/-- t1 = 900, t2 = 910, t3 = 950, t4 = 1004; and a depth of 15. -/
theorem test_time_dresp :
    (let s := child { fedReset with xnum := 5, t1 := 900 }
     gives (exec (.timeDresp 3 (timeMsg 2 5 9 8 0 910 950) 4) s) (fun t => t.fed.cur == some 64 && t.fed.mprio == 8 && t.field .FD_TSTAT 20 4 == 10 && t.flag .FD_TSTAT 27)
       && gives (exec (.timeDresp 3 (timeMsg 2 5 15 8 0 910 950) 4) s) (fun t => t.field .FD_TSTAT 20 4 == 15)
       && gives (exec (.timeDresp 3 (timeMsg 2 6 9 8 0 910 950) 4) s) (fun t => decide (t = s))) = true := by decide +kernel

/-- One exchange; the sixteenth of a joining node; and an offset beyond TLIM. -/
theorem test_time_sync :
    (let s := child { fedReset with xnum := 5, cur := some 64 }
     let j := child { fedReset with xnum := 5, cur := some 64, joining := true, hops := List.replicate 15 (64, 68) }
     let h := (s.setFlag .TB_STAT 2 true).wr .FD_TCFG 0x10000
     j.allIdle
       && gives (exec (.timeSync 3 (timeMsg 3 5 0 0 0 1064 0) 4) s) (fun t => t.rd (.FD_HOPDLY 3) == 32 && t.rd .FD_TOFS == 92 && t.fed.hops == [(64, 60)])
       && gives (exec (.timeSync 3 (timeMsg 3 5 0 0 0 1072 0) 4) j) (fun t => t.now == 1120 && t.flag .FD_TSTAT 31 && t.flag .TB_STAT 2 && !t.fed.joining)
       && gives (exec (.timeSync 3 (timeMsg 3 5 0 0 0 1064 0) 4) h) (fun t => t.flag .FD_TSTAT 28 && t.latched 125)
       && gives (exec (.timeSync 3 (timeMsg 3 6 0 0 0 1064 0) 4) s) (fun t => decide (t = s))) = true := by decide +kernel

theorem test_join_and_leave :
    (let s := child fedReset
     let m := s.setFlag .FD_TSTAT 30 true
     writes m .FD_CTL 0x100 (!m.joinRefused) (.fedJoin host 0) (fun t => t.flag .TB_STAT 2 && t.flag .FD_TSTAT 31 && t.flag .FD_CTL 8)
       && writes s .FD_CTL 0x100 (!s.joinRefused) (.fedJoin host 0) (fun t => t.fed.joining && t.flag .FD_CTL 8 && !t.flag .TB_STAT 2)
       && writes (s.setGState 7 2) .FD_CTL 0x100 (!(s.setGState 7 2).allIdle) (.fedJoin host 0) (fun t => refused t && !t.flag .FD_CTL 8)
       && writes ((s.wr .FD_CTL 0x100).setFlag .TB_STAT 2 true) .FD_CTL 0 true (.fedLeave host 0)
         (fun t => !t.flag .TB_STAT 2 && !t.flag .FD_CTL 8 && !t.fed.joining)) = true := by decide +kernel

/-- The last ID with an edge left: an offer and a DONE that end the round with ENUMERR; and cells that end no ENUM message. -/
theorem test_enum_ids_end :
    (let two := (fd fedReset).wr (.FD_LSTAT 0) 0x60000000
     let s := (fd { fedReset with holds := true, offered := some 3, todo := [0], nextId := 1, best := (5, 0) }).wr (.FD_LSTAT 0) 0x60000000
     gives (exec (.enumOffer 3 (enumCell 1 8 0x3FFF 0 0 0)) two) (fun t => t.rd .FD_RANGE == 0x3FFF && t.flag .FD_STAT 30
         && offers t 3 [2, 8, 0xFF, 0x3F, 0xFF, 0x3F, two.field .FD_TCFG 24 8, 3])
       && gives (exec (.enumDone 3 (enumCell 2 7 0x3FFF 3 9 0)) s) (fun t => t.rd .FD_RANGE == 0x3FFF && t.flag .FD_STAT 30 && t.fed.children == [(3, 1, 0x3FFF)])
       && gives (exec (.enumDone 3 (enumCell 2 7 4 3 9 0)) s) (fun t => t.fed.offered == some 0 && t.fed.nextId == 5 && offers t 0 [1, 7, 5, 0, 0, 0, 0, 0])
       && gives (exec (.enumRej 3 (enumCell 3 7 0 0 0 0)) s) (fun t => t.fed.offered == some 0 && t.fed.nextId == 1)
       && gives (exec (.enumMaster 3 (cell 4 9 0 0 0x8000 0 [4])) s) (· == s)) = true := by decide +kernel

/-- JOIN again, LEAVE of a node that has not joined, and no subscription for a publication; one that would not be written before its freeze. -/
theorem test_fed_more :
    (let s := child fedReset
     let j := (s.wr .FD_CTL 0x100).setFlag .TB_STAT 2 true
     let g := ((((fd { fedReset with holds := true }).wr (.FD_SUB 15 0) 0x80000000).wr (.FD_SUB 15 1) 0x0005000F).wr .SC_IMGSIZE 0x201).setGState 7 2 |>.wr (.SC_ISLICE 7) 0x10000
     let c := cell 5 13 0 0 0 5 (List.replicate 16 0 ++ [15, 0, 1, 0, 0, 0, 0, 0] ++ List.replicate 4 9)
     let late := cell 5 13 0 0 0 5 (List.replicate 8 0 ++ (leBytes 8 1600000).map (·.toNat) ++ [15, 0, 1, 0, 0, 0, 0, 0] ++ List.replicate 4 9)
     writes j .FD_CTL 0x100 true (.fedJoin host 0) (fun t => t.fed == j.fed && t.flag .FD_CTL 8)
       && writes s .FD_CTL 0 true (.fedLeave host 0) (fun t => t.fed == s.fed && !t.flag .FD_CTL 8)
       && gives (exec (.pubReceived 3 c) (fd { fedReset with holds := true })) (fun t => t.mem == [] && t.rd .FD_SUBSTAT == 0)
       && g.inISlice 7 0 && gives (exec (.pubReceived 3 late) (g.wr .TB_LO 1599999)) (fun t => t.fed.late == [(7, 15, 0, [9, 9, 9, 9])] && t.mem == [])) = true := by
  decide +kernel

theorem test_holdover :
    (let s := (child fedReset).setFlag .TB_STAT 2 true
     gives (exec .fedHoldover s) (fun t => t.flag .FD_TSTAT 29 && !t.linkIsUp 3 && t.latched 125 && t.now == 1000)
       && gives (exec .fedHoldover (child fedReset)) (fun t => decide (t = child fedReset))) = true := by decide +kernel

/-- Publication 15 of node 5 to subscription 15 at word 1023 of an F view of 4 KiB; two words do not fit there. -/
theorem test_publication :
    (let s := (((fd { fedReset with holds := true }).wr (.FD_SUB 15 0) (0x80000000 + 1023)).wr (.FD_SUB 15 1) 0x0005000F).wr .SC_IMGSIZE 0x201
     let c := fun (w : Nat) => cell 5 13 0 0 0 5 (List.replicate 16 0 ++ [15, 0, w, 0, 0, 0, 0, 0] ++ List.replicate (4 * w) 9)
     whole s (c 1) 5 && s.route 0 == .own && s.inOrder && s.allIdle && s.memIsReady (smBase + s.viewBase .F + 4092)
       && gives (exec (.pubReceived 3 (c 1)) s) (fun t => t.memWord (smBase + s.viewBase .I + 4092) == 0x09090909 && t.rd .FD_SUBSTAT == 0)
       && gives (exec (.pubReceived 3 (c 2)) s) (fun t => t.rd .FD_SUBSTAT == 0x8000 && t.mem == [])) = true := by decide +kernel

theorem test_mgmt_message :
    (let s := (fd { fedReset with holds := true }).wr .UP_MBOX 0x01000000
     let c := cell 8 13 0 0 0 5 ([2, 0, 0, 0, 0, 0, 0, 0] ++ [7, 8])
     whole s c 8 && gives (exec (.mgmtMessageReceived 3 c) (s.wr .UP_MBOXWR 1023 |>.wr .UP_MBOXRD 2)) (fun t => t.rd .UP_MBOXWR == 1025
         && memGet t.mem (smBase + 1023) == 7 && memGet t.mem smBase == 8)
       && gives (exec (.mgmtMessageReceived 3 c) (s.wr .UP_MBOXWR 1023)) (fun t => ((t.link 3).held.map (·.map (·.toNat))) == [[7, 8]] && t.mem == [])) = true := by decide +kernel
/-! ### Mirror pairing -/

/-- A pair with node 9 on link 3, group 7 mirrored, in a role (0 primary, 1 standby) and a state of MI_STAT. -/
def pair (role st : Nat) (x : Mirror) : State :=
  { ((((fd { fedReset with holds := true, children := [(3, 9, 9)] }).wr (.FD_LSTAT 3) 0x62000009).wr .MI_PEER 0x00090001).wr .MI_CTL
      (BitVec.ofNat 32 (0x80000080 + (role + 1) * 2 ^ 29))).wr .MI_STAT (BitVec.ofNat 32 (st * 2 ^ 29)) with mirror := x, build := ⟨0, true, 16⟩ }

/-- The same before pairing. -/
def unpaired : State := (pair 0 0 mirrorReset).wr .MI_CTL 0

/-- A cell from node 9 that ends a MIRROR message, which it starts where `som`. -/
def fromPeer (som : Bool) (p : List Nat) : Cell := cell 6 (if som then 13 else 5) 0 0 0 9 p

/-- Link 3 takes the cell, and it comes from the peer. -/
def peers (s : State) (c : Cell) : Bool :=
  s.linksRun && s.linkIsUp 3 && c.good && c.ty == 6 && c.eom && c.seqv && c.byte 1 == (s.link 3).rxSeq && s.route c.dest == .own
    && c.srcWord == s.field .MI_PEER 16 14 && s.flag .MI_CTL 31

/-- A message to the peer. -/
def tells (t : State) (m : List Nat) : Bool :=
  t.peerEdge == some 3 && ((t.link 3).queue ++ (t.link 3).sent.map (·.2)).any (fun c => c.ty == 6 && c.dest == 9 && c.payload.map (·.toNat) == m)

/-- A header, as numbers. -/
def hdr (kind g b count scan : Nat) : List Nat := [kind, g, b % 256, b / 256, count, 0, 0, 0, scan, 0, 0, 0, 0, 0, 0, 0]

theorem test_mi_enable :
    (writes unpaired .MI_CTL 0xA0000080 unpaired.peerEdge.isSome (.miEnable host 0x20000080)
        (fun t => t.flag .MI_CTL 31 && t.field .MI_STAT 29 3 == 1 && tells t (hdr 5 0 0 0 0))
      && writes unpaired .MI_CTL 0xC0000080 true (.miEnable host 0x40000080)
        (fun t => t.field .MI_STAT 29 3 == 2 && tells t (hdr 5 0 1 0 0) && tells t (hdr 4 0 0 0 0 ++ List.replicate 16 0) && t.mirror.suppressed == [7])
      && writes (unpaired.wr (.FD_LSTAT 3) 0) .MI_CTL 0xA0000080 ((unpaired.wr (.FD_LSTAT 3) 0).peerEdge == none) (.miEnable host 0x20000080)
        (fun t => t.flag .MI_STAT 26 && !t.mirrored 7)
      && writes unpaired .MI_CTL 0x80000080 true (.miEnable host 0x80) (fun t => refused t && t.rd .MI_CTL == 0)
      && writes (pair 1 3 mirrorReset) .MI_CTL 0 true (.miDisable host 0) (fun t => !t.flag .MI_CTL 31 && t.field .MI_STAT 29 3 == 0)) = true := by decide +kernel

theorem test_mi_resync :
    (writes (pair 1 3 mirrorReset) .MI_CTL 0xD0000080 true (.miResync host 0xC0000080) (fun t => t.field .MI_STAT 29 3 == 2 && t.mirror.asked
        && tells t (hdr 4 0 0 0 0 ++ List.replicate 16 0))
      && writes (pair 0 1 mirrorReset) .MI_CTL 0xB0000080 true (.miResync host 0xA0000080) (fun t => t.field .MI_STAT 29 3 == 1 && !t.mirror.asked)) = true := by decide +kernel

/-- Pairing where it is on already, or off already. -/
theorem test_mi_again :
    (let on := pair 1 3 mirrorReset
     writes on .MI_CTL 0xA0000080 true (.miEnable host 0x20000080) (fun t => refused t && t.mirror == on.mirror)
       && writes on .MI_CTL 0xC0000080 true (.miEnable host 0x40000080) (fun t => !refused t && t.mirror == on.mirror)
       && writes unpaired .MI_CTL 0x40000001 true (.miDisable host 0x40000001) (fun t => t.rd .MI_CTL == 0x40000001)
       && writes unpaired .MI_CTL 0 true (.miDisable host 0) (fun t => refused t)
       && writes on .MI_CTL 0xD0000001 true (.miResync host 0xC0000001) (fun t => refused t && !t.mirror.asked)) = true := by decide +kernel

/-- What HELLO leaves alone: a standby in SYNCED, a primary whose peer is the standby, and one that took over itself. -/
theorem test_hello_kept :
    (gives (exec (.mirrorHello 3 (fromPeer true (hdr 5 0 0 0 0))) (pair 1 3 mirrorReset)) (fun t => t.field .MI_STAT 29 3 == 3 && t.mirror.peer == some (false, false))
      && gives (exec (.mirrorHello 3 (fromPeer true (hdr 5 0 1 0 0))) (pair 0 1 mirrorReset)) (fun t => t.field .MI_STAT 29 3 == 1 && t.mirror.peer == some (true, false))
      && gives (exec (.mirrorHello 3 (fromPeer true (hdr 5 0 0 0 0))) ((pair 0 1 mirrorReset).setFlag .MI_STAT 24 true))
        (fun t => t.mirror.peer == some (false, false) && !t.mirror.void && !t.flag .MI_STAT 26)) = true := by decide +kernel

theorem test_hello :
    (peers (pair 1 4 mirrorReset) (fromPeer true (hdr 5 0 2 0 0))
      && gives (exec (.mirrorHello 3 (fromPeer true (hdr 5 0 2 0 0))) (pair 1 4 mirrorReset)) (fun t => t.field .MI_STAT 29 3 == 2 && t.mirror.peer == some (false, true))
      && gives (exec (.mirrorHello 3 (fromPeer true (hdr 5 0 1 0 0))) (pair 1 3 mirrorReset)) (fun t => t.flag .MI_STAT 26 && !t.mirrored 7)
      && gives (exec (.mirrorHello 3 (fromPeer true (hdr 5 0 2 0 0))) (pair 0 1 mirrorReset)) (fun t => t.flag .MI_STAT 23 && t.field .MI_STAT 29 3 == 2 && t.mirror.asked)
      && gives (exec (.mirrorHello 3 (fromPeer true (hdr 5 0 0 0 0))) (pair 0 1 mirrorReset)) (fun t => t.flag .MI_STAT 26 && !t.mirrored 7)) = true := by decide +kernel

/-- The line message: a header and one line of 9s in two cells, the first of which has arrived. -/
def lineTail (v : Nat) (x : State) (h : List Nat) : State × Cell :=
  let m := h ++ [v, 0, 0, 0] ++ List.replicate 64 9
  (x.setLink 3 { linkReset with parts := [(6, 9, (m.take 52).map (BitVec.ofNat 8))] }, fromPeer false (m.drop 52))

/-- Line 0, which holds the header of group 7's slice, and line 1. -/
theorem test_frz :
    (let s := (pair 1 3 mirrorReset).wr .SC_IMGSIZE 0x201
     let a := lineTail 0 s (hdr 1 7 3 1 5)
     let b := lineTail 1 s (hdr 1 7 3 1 5)
     s.inOrder && peers a.1 a.2
       && gives (exec (.mirrorFrzReceived 3 a.2) a.1) (fun t => memGet t.mem (smBase + s.resolve .I 15) == 0 && memGet t.mem (smBase + s.resolve .I 16) == 9
         && mget t.mirror.frz 0 7 == 6 && mget t.mirror.active 0 7 == 3)
       && gives (exec (.mirrorFrzReceived 3 b.2) b.1) (fun t => memGet t.mem (smBase + s.resolve .I 64) == 9 && memGet t.mem (smBase + s.resolve .I 127) == 9)
       && gives (exec (.mirrorFrzReceived 3 b.2) (b.1.wr .MI_STAT 0x20000000)) (fun t => t.mem == [])) = true := by decide +kernel

/-- In RESYNC the line goes to both banks; after the freeze of its scan, an ACTIVE that differs diverges; a message of another node
changes nothing. -/
theorem test_frz_forms :
    (let s := fun (st : Nat) => (pair 1 st mirrorReset).wr .SC_IMGSIZE 0x201
     let b := lineTail 1 (s 2) (hdr 1 7 3 1 5)
     let d := fromPeer true (hdr 1 7 3 0 5)
     let z := ((s 3).setGroup 7 { (s 3).group 7 with latest := 5 }).wr .MI_PEER 0x00080001
     gives (exec (.mirrorFrzReceived 3 b.2) b.1) (fun t => memGet t.mem (smBase + (s 2).viewBase .I + 64) == 9 && memGet t.mem (smBase + (s 2).viewBase .F + 64) == 9)
       && peers (s 3) d
       && gives (exec (.mirrorFrzReceived 3 d) ((s 3).setGroup 7 { (s 3).group 7 with latest := 5 })) (fun t => t.flag .MI_STAT 28 && t.field .MI_STAT 20 3 == 3
         && t.field .MI_STAT 29 3 == 2)
       && gives (exec (.mirrorFrzReceived 3 d) z) (fun t => t.regs == z.regs && t.mirror == z.mirror && (t.link 3).rxSeq == (z.link 3).rxSeq + 1)
       && gives (exec (.mirrorRsreq 3 d) z) (fun t => decide (t = z))) = true := by decide +kernel

/-- A CMT of the peer for scan 5: kept by a primary and by a standby that published, a divergence where the standby held its
publication, the end of the bulk pass in RESYNC. -/
theorem test_cmt_received :
    (let c := fun (f : Nat) => fromPeer true (hdr 2 7 f 0 5 ++ [1, 2, 0, 0, 0, 0, 0, 0])
     let x := { mirrorReset with awaiting := [(7, 5), (7, 6)] }
     peers (pair 0 1 x) (c 1)
       && gives (exec (.sequencedCellReceived 3 (c 1)) (pair 0 1 x)) (fun t => t.mirror.theirs == [⟨7, 5, 0x201, 1⟩] && t.mirror.awaiting == [(7, 6)])
       && gives (exec (.sequencedCellReceived 3 (c 1)) (pair 1 3 x)) (fun t => t.mirror.theirs == [⟨7, 5, 0x201, 1⟩] && t.mirror.awaiting == [(7, 6)])
       && gives (exec (.sequencedCellReceived 3 (c 1)) (pair 1 3 { x with heldScan := [(7, 6)] })) (fun t => t.field .MI_STAT 20 3 == 4 && t.field .MI_STAT 29 3 == 2)
       && gives (exec (.sequencedCellReceived 3 (c 8)) (pair 1 2 { x with asked := true })) (fun t => t.mirror.rsdone)) = true := by decide +kernel

/-- The digest over a published slice of one line. -/
theorem test_digest :
    (let x := { mirrorReset with digesting := [(7, 5, 2, [])] }
     let s := { ((pair 0 1 x).wr .SC_IMGSIZE 0x201).wr (.SC_QSLICE 7) 0x00010000 with mem := [(smBase + 0x2000, 1)] }
     let d := crc64 (leBytes 8 ((s.group 7).pubScan.getD 0) ++ memBytes s.mem (smBase + s.resolve .P 0) 64)
     gives (exec (.digestEngineEnd 7) s) (fun t => t.mirror.own == [⟨7, 5, d.toNat, 2⟩] && t.mirror.digesting == []
         && tells t (hdr 2 7 2 0 5 ++ (leBytes 8 d.toNat).map (·.toNat)))
       && gives (exec (.digestEngineEnd 0) s) (fun t => decide (t = s))) = true := by decide +kernel

theorem test_compare :
    (let x := fun (d : Nat) => { mirrorReset with own := [⟨7, 5, 2 ^ 32 + 1, 0⟩], theirs := [⟨7, 5, d, 0⟩] }
     gives (exec (.mirrorCmt 7) (pair 0 1 (x (2 ^ 32 + 1)))) (fun t => t.rd (.MI_DIGEST 0) == 1 && t.rd (.MI_PDIGEST 1) == 1 && t.rd .MI_DSCAN == 5
         && t.rd .MI_STAT == 0x20000000 && t.mirror.own == [])
       && gives (exec (.mirrorCmt 7) (pair 1 3 (x 1))) (fun t => t.flag .MI_STAT 28 && t.field .MI_STAT 20 3 == 1 && t.latched 126 && t.field .MI_STAT 29 3 == 2)
       && gives (exec (.mirrorCmt 7) (pair 0 1 { x 1 with own := [⟨7, 5, 1, 1⟩] })) (fun t => t.flag .MI_STAT 28 && t.field .MI_STAT 20 3 == 2)
       && gives (exec (.mirrorCmt 6) (pair 0 1 (x 1))) (fun t => t.mirror.own != [] && !t.flag .MI_STAT 28)) = true := by decide +kernel

theorem test_heartbeat :
    (let x := { mirrorReset with awaiting := [(7, 5), (7, 6)] }
     gives (exec (.mirrorHeartbeatMiss 7) (pair 1 3 x)) (fun t => t.flag .MI_STAT 27 && t.mirror.takeover == [7] && t.mirror.awaiting == []
         && t.now == (pair 1 3 x).commitAt 7 6 + 1600)
       && gives (exec (.mirrorHeartbeatMiss 7) (pair 1 2 x)) (fun t => t.field .MI_STAT 29 3 == 4)
       && gives (exec (.mirrorHeartbeatMiss 7) (pair 0 1 x)) (fun t => t.latched 127)
       && gives (exec (.mirrorHeartbeatMiss 7) (pair 0 1 { x with awaiting := [(7, 5)] })) (fun t => !t.flag .MI_STAT 27)) = true := by decide +kernel

/-- The ACTIVE value of group 7 is 3. -/
theorem test_rsreq :
    (let c := fun (a : Nat) => fromPeer true (hdr 4 0 0 0 0 ++ List.replicate 14 0 ++ [a, 0])
     let s := (pair 0 1 mirrorReset).wr (.SC_EDITID 7) 3
     peers s (c 3) && gives (exec (.mirrorRsreq 3 (c 3)) s) (fun t => t.mirror.bulk && !t.flag .MI_STAT 25)
       && gives (exec (.mirrorRsreq 3 (c 4)) s) (fun t => !t.mirror.bulk && t.flag .MI_STAT 25)
       && gives (exec (.mirrorRsreq 3 (c 3)) ((s.wr .SC_IMGSIZE 0x201).wr (.SC_QSLICE 7) 0x0001003F)) (fun t => (Spec.outCells t 3).any (fun x => x.bulk && x.som && x.dest == 9
         && x.payload.take 20 == (hdr 3 7 0 1 0 ++ [63, 0, 0, 0x40]).map (BitVec.ofNat 8)))
       && gives (exec (.mirrorRsreq 3 (c 4)) (pair 1 3 mirrorReset)) (fun t => !t.mirror.bulk && !t.flag .MI_STAT 25)) = true := by decide +kernel

theorem test_bulk :
    (let s := (pair 1 2 mirrorReset).wr .SC_IMGSIZE 0x201
     let b := lineTail 63 s (hdr 3 7 0 1 0)
     s.viewSize .I == 4096 && gives (exec (.mirrorBulk 3 b.2) b.1) (fun t => memGet t.mem (smBase + s.viewBase .I + 4095) == 9
         && memGet t.mem (smBase + s.viewBase .F + 4032) == 9 && memGet t.mem (smBase + s.viewBase .F + 4031) == 0)
       && gives (exec (.mirrorBulk 3 b.2) (b.1.wr .MI_STAT 0x60000000)) (fun t => t.mem == [])) = true := by decide +kernel
/-! ### The fault collector -/

/-- Source 127 has a record of a severity whose window began at 1000, at timebase 2000. -/
def fault (sev : Nat) : State :=
  { ((base.wr .TB_LO 2000).wr (.FC_SSTAT 127) (BitVec.ofNat 32 (0x80000001 + sev * 2 ^ 28))).setField .BLK_STATE 0 4 2 with windows := [(127, 1000)] }

/-- A first record, a second of source 61 with severity 2, and a masked source. -/
theorem test_fault_occurrence :
    (let s := (base.wr (.FC_SCFG 61) 2).wr .TB_LO 5
     s.faultPresent 61 && (List.range 8).all (fun g => s.gState g != 3) && s.field (.FC_SCFG 61) 0 2 == 2
       && gives (exec (.faultOccurrence 61) s) (fun t => t.latched 61 && t.cur 61 == 2 && t.field (.FC_SSTAT 61) 0 16 == 1 && t.field .FC_FIRST 0 7 == 61
         && t.flag .FC_FIRST 31 && t.rd (.FC_FIRSTT 0) == 5 && t.windows == [(61, 5)]
         && gives (exec (.faultOccurrence 61) t) (fun u => u.field (.FC_SSTAT 61) 0 16 == 2 && u.cur 61 == 3 && gives (exec (.faultOccurrence 0) u) (fun v => v.flag .FC_FIRST 30)))
       && gives (exec (.faultOccurrence 61) (base.wr (.FC_SCFG 61) 0x102)) (fun t => !t.latched 61)) = true := by decide +kernel

/-- MAJOR and CRITICAL, with their windows of 1000 and 100 microseconds, and a MINOR record. -/
theorem test_fault_windows :
    ((fault 2).cur 127 == 2 && (fault 2).latched 127 && !(fault 2).acked 127
      && gives (exec (.faultWindowExpiry 127) (fault 2)) (fun t => t.cur 127 == 3 && t.rd .FC_RSTAT == 3 && t.blk == 2 && t.now == 1601000 && t.windows == [(127, 1601000)])
      && gives (exec (.faultWindowExpiry 127) (fault 3)) (fun t => t.cur 127 == 3 && t.rd .FC_RSTAT == 7 && t.blk == 4 && t.now == 161000 && t.windows == [])
      && gives (exec (.faultWindowExpiry 127) (fault 1)) (fun t => t.cur 127 == 2 && t.rd .FC_RSTAT == 0 && t.now == 16001000)
      && gives (exec (.faultWindowExpiry 126) (fault 1)) (fun t => t.cur 127 == 1 && t.windows == [(127, 1000)])
      && gives (exec (.faultWindowExpiry 127) ((fault 1).setField .BLK_STATE 0 4 7)) (fun t => t.cur 127 == 1)) = true := by decide +kernel

theorem test_fault_pins :
    (gives (exec (.faultInRise 15) base) (fun t => t.faultIn == 0x8000 && t.latched 103)
      && gives (exec (.faultInRise 15) { base with faultIn := 0x8000 }) (fun t => !t.latched 103)
      && gives (exec (.faultInFall 15) { base with faultIn := 0x8001 }) (fun t => t.faultIn == 1)
      && gives (exec .aliveToggle { (base.wr .BLK_BOOTDONE 1).setFlag .FC_CFG 8 true with faultHeld := false }) (fun t => t.faultOut)
      && gives (exec .aliveToggle base) (fun t => decide (t = base))) = true := by decide +kernel

theorem test_fault_ack_and_clear :
    (writes (fault 2) (.FC_ACK 3) 0x80000000 ((fault 2).latched 127) (.fcAck host 3 0x80000000) (fun t => t.acked 127 && t.latched 127 && t.cur 127 == 2 && t.windows == [])
      && writes (fault 2) (.FC_STAT 3) 0x80000000 (!(fault 2).finAsserted 127) (.fcStatClear host 3 0x80000000) (fun t => t.rd (.FC_SSTAT 127) == 0 && t.windows == [])
      && writes { base.wr (.FC_SSTAT 103) 0x80000001 with faultIn := 0x8000 } (.FC_STAT 3) 0x80 true (.fcStatClear host 3 0x80) (fun t => t.latched 103)
      && writes (fault 2) (.TL_FCACK 7) 0x8000007F true (.tlFcackAck host 7 127) (fun t => t.acked 127 && t.latched 127)
      && writes (fault 2) (.TL_FCACK 7) 0x4000007F true (.tlFcackClr host 7 127) (fun t => t.rd (.FC_SSTAT 127) == 0)) = true := by decide +kernel

theorem test_fault_force :
    (writes (base.wr (.FC_SCFG 127) 0x102) (.FC_SCFG 127) 0x80000102 true (.fcScfgForce host 127)
        (fun t => t.latched 127 && t.flag (.FC_SSTAT 127) 26 && t.flag .FC_FIRST 29 && t.cur 127 == 2)
      && writes (fault 2) (.FC_SCFG 127) ((fault 2).rd (.FC_SCFG 127) ||| 0x80000000) true (.fcScfgForce host 127)
        (fun t => t.flag (.FC_SSTAT 127) 26 && t.field (.FC_SSTAT 127) 0 16 == 2)) = true := by decide +kernel

theorem test_fault_release :
    (writes (base.wr .FC_RSTAT 7) .FC_RCTL 1 true (.fcRctlRelease host) (fun t => t.rd .FC_RSTAT == 4)
      && writes ((fault 2).wr .FC_RSTAT 3) .FC_RCTL 1 true (.fcRctlRelease host) (fun t => refused t && t.rd .FC_RSTAT == 3)) = true := by decide +kernel
/-! ### Aperture and the power states -/

/-- A budget of 10 grains, 4 of them in use, and the requests `l`. -/
def ap (l : List Claim) : State := { base with budget := 10, apHeld := [(.burst 0, 4)], apWait := l }

/-- The second request of the lower class overtakes one beyond the budget; one of 7 grains waits. -/
theorem test_grant :
    (let g := fun (l : List Claim) (p : State → Bool) => gives (exec .apertureGrant (ap l)) p
     (ap [⟨.thread 7 15, 11⟩, ⟨.thread 0 0, 6⟩]).apOrder == [⟨.thread 7 15, 11⟩, ⟨.thread 0 0, 6⟩]
       && g [⟨.thread 7 15, 11⟩, ⟨.thread 0 0, 6⟩] (fun t => t.apHeld == [(.burst 0, 4), (.thread 0 0, 6)] && t.apWait == [⟨.thread 7 15, 11⟩] && t.flag .AP_STAT 29
         && t.flag (.TH_EVPEND 0 0) 21)
       && g [⟨.thread 0 0, 7⟩] (fun t => t.apHeld == [(.burst 0, 4)] && t.apWait == [⟨.thread 0 0, 7⟩])
       && g [⟨.burst 1, 4⟩] (fun t => t.flag (.HP_CTL 1) 1)
       && g [⟨.rsv 7, 6⟩] (fun t => t.flag (.AP_RSV 7) 30)
       && g [⟨.bank 31, 2⟩] (fun t => t.clears == [] && t.apHeld == [(.burst 0, 4), (.bank 31, 2)])
       && gives (exec .apertureGrant ((ap [⟨.bank 31, 2⟩]).setPd 7 ⟨true, false, .on, true, false⟩)) (fun t => t.clears == [.bank 31] && !t.ready 0 31)
       && g [⟨.tile 7, 6⟩] (fun t => (t.pd 15).phase == .rampUp && (t.pd 15).req)
       && g [⟨.can, 3⟩] (fun t => (t.pd 2).phase == .rampUp)
       && g [⟨.link 3, 1⟩] (fun t => t.linkState 3 == 1)
       && gives (exec .apertureGrant (ap [])) (fun t => decide (t = ap []))) = true := by decide +kernel

theorem test_reservation :
    (let held := { base.wr (.AP_RSV 7) 0xC0000006 with apHeld := [(.rsv 7, 6)] }
     writes base (.AP_RSV 7) 0x800003FF true (.apRsvRequest host 7 1023) (fun t => t.flag (.AP_RSV 7) 31 && t.field (.AP_RSV 7) 0 10 == 1023 && t.apWait == [⟨.rsv 7, 1023⟩])
       && writes held (.AP_RSV 7) 0x80000007 true (.apRsvRequest host 7 7) (fun t => refused t && t.rd (.AP_RSV 7) == 0xC0000006)
       && writes held (.AP_RSV 7) 6 (held.gState 7 == 0) (.apRsvRelease host 7) (fun t => t.rd (.AP_RSV 7) == 6 && t.apHeld == [])
       && gives (exec (.apertureRelease host 0x205C 6) held) (fun t => t.rd (.AP_RSV 7) == 6 && t.apHeld == [])
       && writes (held.setGState 7 2) (.AP_RSV 7) 6 true (.apRsvRelease host 7) (fun t => refused t && t.apHeld == [(.rsv 7, 6)])) = true := by decide +kernel

/-- Tile 7 comes and goes; tile 0 stays. -/
theorem test_tile_enable :
    (let up := (base.setPd 15 { base.pd 15 with phase := .on }).wr .AP_TILEEN 0x81
     writes base .AP_TILEEN 0x81 true (.apTileenWrite host 0x81) (fun t => t.rd .AP_TILEEN == 0x81 && t.apWait == [⟨.tile 7, 6⟩])
       && writes up .AP_TILEEN 1 (up.tileMayGo 7) (.apTileenWrite host 1) (fun t => t.rd .AP_TILEEN == 1 && (t.pd 15).phase == .draining && !t.ready 2 7)
       && writes base .AP_TILEEN 0 true (.apTileenWrite host 0) (fun t => refused t && t.rd .AP_TILEEN == 1)) = true := by decide +kernel

/-- RUN, with thread 0 of tile 0 waiting and a wake source. -/
def runs' : State := ((base.setField .BLK_STATE 0 4 2).wr (.TH_STAT 0 0) 2).wr .AP_WAKEEN 1

theorem test_doze :
    (writes runs' .AP_PCTL 5 (runs'.dozeFailure == 0) (.apPctlDoze host) (fun t => t.blk == 5 && t.field .BLK_STATE 4 4 == 2)
      && writes (runs'.setGState 7 2) .AP_PCTL 5 true (.apPctlDoze host) (fun t => t.blk == 2 && t.flag .AP_PSTAT 8 && t.field .AP_PSTAT 0 4 == 1)
      && writes base .AP_PCTL 5 true (.apPctlDoze host) (fun t => refused t && t.blk == 1)) = true := by decide +kernel

theorem test_sleep_and_off :
    (let s := { runs' with mem := [(smBase, 1)] }
     writes s .AP_PCTL 6 (s.wakeEnabled false && (s.pd 1).phase != .off) (.apPctlSleep host) (fun t => t.blk == 6 && t.entry == some 6 && t.clk.clkReq && t.mem == s.mem
         && (t.pd 1).phase == .on && (t.pd 8).phase == .draining && !(t.pd 8).want)
       && writes (runs'.wr .AP_WAKEEN 0x300) .AP_PCTL 6 (!(runs'.wr .AP_WAKEEN 0x300).wakeEnabled false) (.apPctlSleep host)
         (fun t => t.blk == 2 && t.flag .AP_PSTAT 8 && t.field .AP_PSTAT 0 4 == 4)
       && writes base .AP_PCTL 6 true (.apPctlSleep host) (fun t => refused t)
       && writes s .AP_PCTL 0 true (.apPctlOff host) (fun t => t.blk == 0 && t.entry == some 0 && (t.pd 0).req && (t.pd 8).phase == .draining && t.mem == s.mem)
       && writes base .AP_PCTL 0 true (.apPctlOff host) (fun t => refused t)) = true := by decide +kernel

/-- An entry under way: TILE[0] goes off and MAIN's turn comes; MAIN goes off and the entry is complete; TILE[0] leaves its reset
and goes down again; with an access outstanding the draining goes on. -/
theorem test_entry_goes_on :
    (let s := fun (x : Nat) (d : Nat) (p : PdPhase) => { (runs'.setPd d { runs'.pd d with phase := p, want := false }).setField .BLK_STATE 0 4 x with entry := some x, mem := [(smBase, 1)] }
     let m := fun (x : Nat) => { (s x 1 .rampDown).setPd 8 domainGone with wakes := [.gauze 0] }
     gives (exec (.pdAckFall 8) (s 6 8 .rampDown)) (fun t => t.entry == some 6 && (t.pd 8).phase == .off && (t.pd 1).phase == .draining && !(t.pd 1).want && t.mem != [])
       && gives (exec (.pdAckFall 1) (m 6)) (fun t => t.blk == 6 && t.entry == none && !t.clk.clkReq && t.mem == [] && (t.pd 1).phase == .off && (t.pd 23).lost
         && (t.pd 0).phase == .on && t.flag .TB_STAT 0 && t.rd .AP_WAKEEN == 1 && t.wakes == [.gauze 0])
       && gives (exec (.pdAckFall 1) (m 0)) (fun t => t.blk == 0 && !(t.pd 0).req && (t.pd 0).phase == .rampDown && t.mem == [])
       && gives (exec (.domainResetRelease 8) (s 6 8 .inReset)) (fun t => (t.pd 8).phase == .draining && !(t.pd 8).want && t.entry == some 6)
       && gives (exec (.domainDrainEnd 8) (s 6 8 .draining)) (fun t => (t.pd 8).phase == .rampDown && !(t.pd 8).req)
       && (let b := (s 6 8 .draining).setPort 0 { (s 6 8 .draining).port 0 with out := [⟨false, 0, 0, 32, [], .update, none⟩] }
           !b.managersIdle && gives (exec (.domainDrainEnd 8) b) (fun t => decide (t = b)))) = true := by decide +kernel

theorem test_wake :
    (let d := { runs'.setField .BLK_STATE 0 4 5 with wakes := [.comparator 7] }
     writes d .AP_PCTL 0x100 true (.apPctlWake host) (fun t => t.blk == 2)
       && writes base .AP_PCTL 0x100 true (.apPctlWake host) (fun t => t.blk == 1)
       && gives (exec (.dozeWake (.comparator 7)) d) (fun t => t.blk == 2 && t.field .BLK_STATE 4 4 == 5 && t.wakes == [] && t.field .AP_PSTAT 16 4 == 15)
       && gives (exec (.dozeWake (.gauze 0)) d) (fun t => decide (t = d))
       && gives (exec (.sleepWake (.comparator 7)) d) (fun t => decide (t = d))) = true := by decide +kernel

/-- Without CLK_ACK, and with it. -/
theorem test_sleep_wake :
    (let p := fun (s : State) => s.setPd 1 { s.pd 1 with phase := .off, req := false }
     let s := fun (ack : Bool) => { p (runs'.setField .BLK_STATE 0 4 6) with wakes := [.gauze 7], clk := ⟨false, false, false, ack, false, true⟩ }
     let r := (s true).setPd 1 ⟨true, false, .inReset, true, true⟩
     gives (exec (.sleepWake (.gauze 7)) (s false)) (fun t => t.clk.clkReq && !t.clk.running && t.wakes == [] && (t.pd 1).phase == .off && t.blk == 6
         && t.field .AP_PSTAT 16 4 == 7)
       && gives (exec (.sleepWake (.gauze 7)) (s true)) (fun t => t.clk.running && t.blk == 6 && (t.pd 1).phase == .rampUp && (t.pd 1).req && !t.flag .TB_STAT 0)
       && gives (exec .clkAckRise ({ s false with clk := ⟨false, false, true, false, false, true⟩ })) (fun t => t.clk.running && (t.pd 1).phase == .rampUp && t.blk == 6)
       && gives (exec (.domainResetRelease 1) ({ r with clk := ⟨false, false, true, true, true, true⟩ })) (fun t => !t.clk.held && t.blk == 1 && t.flag .BLK_STATE 8
         && t.thState 0 0 == 1 && t.rd (.TH_PC 0 0) == 0x0F800000)
       && gives (exec (.sleepWake (.gauze 7)) ({ s true with entry := some 6 })) (fun t => t.entry == some 6 && !t.clk.clkReq)) = true := by
  decide +kernel
/-! ### The chain update -/

/-- With no view in shared memory and every bank ready, any MiB of it takes the writes of the DMA side. -/
theorem takes_anywhere (s : State) (o : Nat) (hi : s.rd .SC_IMGSIZE = 0) (hr : s.rd (.BLK_READY 0) = 0xFFFFFFFF) (ho : o ≤ 0x700000)
    (h1 : s.inOrder = true) (h2 : s.ecc = []) (h3 : s.writeBacks = []) : Spec.takes s o := by
  have hz : ∀ v, s.viewSize v = 0 := by
    intro v
    cases v <;> simp [State.viewSize, State.field, hi, fld]
  have hv : ∀ a, s.viewAt a = none := by
    intro a
    simp [State.viewAt, hz]
  have hp : ∀ x, s.phys x = x := by
    intro x
    unfold State.phys State.smPhys
    split
    · rename_i h
      simp only [hv]
      exact Nat.add_sub_cancel' h.1
    · rfl
  have hb : ∀ i < 32, s.ready 0 i = true := by
    intro i h
    simp only [State.ready, State.flag, bit, hr]
    revert i
    decide
  refine ⟨h1, h2, h3, fun a _ _ => hv a, fun a n ha han => ?_⟩
  have hm : ∀ x, smBase ≤ x → x < smBase + 0x800000 → s.memIsReady x = true := by
    intro x l u
    have : x < 0x2000000 := by simp only [smBase] at u; omega
    simp only [State.memIsReady, hp, memUnitOf, this, if_true, memReadyBit]
    exact hb _ (by simp only [smBase] at *; omega)
  have hrr : s.rangeReady (smBase + a) n = true := by
    simp only [State.rangeReady, List.all_eq_true, List.mem_range]
    intro i hi
    split
    · exact hm _ (by simp only [smBase]; omega) (by simp only [smBase] at *; omega)
    · exact hm _ (by simp only [smBase] at *; omega) (by simp only [smBase] at *; omega)
  have hw : ∀ x, s.viewOf x = none := by
    intro x; simp [State.viewOf, hv]
  have hlt : ¬ (0x2000000 ≤ smBase + a) := by simp only [smBase]; omega
  simp [State.dmaWriteRefusal, hrr, hw]
  omega

/-- An image of a type, MODE and IFLIB 7, good for every block version. -/
def imageOf (ty mode : Nat) (pay : List Byte) : List Byte :=
  let h := leBytes 4 0x33554B57 ++ [BitVec.ofNat 8 ty, BitVec.ofNat 8 mode, 0, 0] ++ leBytes 4 0x00010203 ++ leBytes 4 0 ++ leBytes 4 0xFFFFFFFF
    ++ leBytes 2 0 ++ leBytes 2 7 ++ leBytes 4 pay.length ++ leBytes 4 0 ++ sha256 pay ++ List.replicate 188 0
  h ++ leBytes 4 (crc32 h).toNat ++ pay

/-- The one hunk that makes the first payload word of an image 1, 2, 3, 4 from 0. -/
def hunk : List Byte := leBytes 4 256 ++ leBytes 4 4 ++ [1, 2, 3, 4] ++ [0, 0, 0, 0]

/-- A build that takes DELTA images. -/
def delta (s : State) : State := { s with build := { s.build with tilesLog2 := 1 } }

/-- A whole image of a type with a payload. -/
def image' (ty : Nat) (pay : List Byte) : List Byte :=
  let h := leBytes 4 0x33554B57 ++ leBytes 4 ty ++ List.replicate 16 0 ++ leBytes 4 pay.length ++ leBytes 4 0 ++ sha256 pay ++ List.replicate 188 0
  h ++ leBytes 4 (crc32 h).toNat ++ pay

/-- The update engine in a state of UP_STAT, with `u`. -/
def up (st : Nat) (u : Upd) : State := { base.wr .UP_STAT (BitVec.ofNat 32 st) with upd := u }

/-- An image of library type in the staging area. -/
def lib : Staged := ⟨2, 0, 260, false⟩

theorem test_send :
    (writes ((up 0 updReset).wr (.UP_SRCADDR 0) 0x1000) .UP_CMD 1 true (.upCmdSend host) (fun t => t.upd.sending
        && ((t.port 0).out ++ (t.port 0).wait).any (fun x => !x.write && x.use == .update && x.addr == 0x1000))
      && writes (up 0 { updReset with sending := true }) .UP_CMD 1 true (.upCmdSend host) (fun t => refused t)) = true := by decide +kernel

/-- The hash of the empty payload, SHA-256 of the empty string. -/
theorem test_sha256_empty : (sha256 []).take 4 = [0xE3, 0xB0, 0xC4, 0x42] := by decide +kernel

theorem test_stage_end :
    (let u := fun (p : List Byte) => { updReset with hashDue := true, place := some 256, rx := List.replicate 8 0 ++ p }
     gives (exec (.updateStageEnd [] false) (up 1 (u (image' 2 [])))) (fun t => t.upd.staged == [⟨2, 256, 256, false⟩] && t.field .UP_STAT 0 3 == 2 && t.upd.place == none)
       && gives (exec (.updateStageEnd [] false) (up 1 (u ((image' 2 []).set 32 0)))) (fun t => t.upd.staged == [] && t.flag .UP_STAT 12 && t.field .UP_STAT 16 8 == 8)
       && gives (exec (.updateStageEnd [] true) (up 0 { updReset with sending := true })) (fun t => t.flag .UP_STAT 13 && !t.upd.sending)
       && gives (exec (.updateStageEnd [] true) base) (fun t => decide (t = base))) = true := by decide +kernel

set_option maxRecDepth 100000 in
/-- SEND of a library image: its header, its payload into the staging area, on an edge of a child only, and with no staging area. -/
theorem test_send_goes_on :
    (let img := imageOf 2 0 [1, 2, 3, 4]
     let s := fun (k : Nat) => (((up 0 { updReset with sending := true, asked := k }).wr (.UP_SRCADDR 0) 0x1000).wr .UP_STAGE 0x700000).setField .UP_RANGE 16 14 5
     let e := ((s 260).wr .UP_RANGE 0x00960064).wr (.FD_LCTL 3) 0x80000000
     imageHeaderOk img && (s 260).inOrder && (s 260).ecc == []
       && gives (exec (.updateStageEnd (img.take 256) false) (s 256)) (fun t => t.upd.sending && t.upd.asked == 260
         && ((t.port 0).out ++ (t.port 0).wait).any (fun x => !x.write && x.use == .update && x.addr == 0x1100))
       && gives (exec (.updateStageEnd img false) (s 260)) (fun t => t.upd.staged == [⟨2, 0, 260, false⟩] && t.field .UP_STAT 0 3 == 2 && !t.upd.sending
         && memBytes t.mem (smBase + 0x700000) 260 == img)
       && gives (exec (.updateStageEnd img false) ({ e with fed := { e.fed with children := [(3, 100, 200)] } })) (fun t => t.upd.staged == [] && t.mem == [] && !t.upd.sending
         && (Spec.outCells t 3).any (fun c => c.ty == 7 && c.som && !c.loc && c.dest == 100 && c.payload == (leBytes 4 0x00960064 ++ leBytes 4 0 ++ img).take 52))
       && gives (exec (.updateStageEnd img false) ((s 260).wr .UP_STAGE 0)) (fun t => t.flag .UP_STAT 12 && t.field .UP_STAT 16 8 == 4 && t.upd.staged == [] && t.mem == [])) = true := by
  decide +kernel

set_option maxRecDepth 100000 in
/-- SEND of a DELTA image, and the end of the reception of one whose hunk is cut off. -/
theorem test_send_delta :
    (let img := imageOf 2 1 hunk
     let s := delta ((up 0 { updReset with sending := true, asked := 272 }).wr .UP_STAGE 0x700000)
     gives (exec (.updateStageEnd img false) s) (fun t => t.upd.staged == [⟨2, 0, 272, false⟩] && t.field .UP_STAT 0 3 == 2)
       && gives (exec (.updateStageEnd [] false) (delta (up 1 { updReset with hashDue := true, place := some 0, rx := List.replicate 8 0 ++ imageOf 2 1 (hunk.take 12) })))
         (fun t => t.flag .UP_STAT 12 && t.field .UP_STAT 16 8 == 5 && t.field .UP_STAT 0 3 == 0)) = true := by decide +kernel

/-- The staging area and the code store of these states take their writes. -/
theorem test_takes :
    Spec.takes ((up 0 { updReset with sending := true, asked := 260 }).wr .UP_STAGE 0x700000) 0x700000
      ∧ Spec.takes (up 2 { updReset with placed := [lib], placing := true }) 0 :=
  ⟨takes_anywhere _ _ (by decide +kernel) (by decide +kernel) (by decide) (by decide +kernel) rfl rfl,
    takes_anywhere _ _ (by decide +kernel) (by decide +kernel) (by decide) (by decide +kernel) rfl rfl⟩

theorem test_activate :
    (let s := (((up 2 { updReset with staged := [lib] }).wr (.UP_SLOT 0) 1).wr (.UP_ACTT 0) 5).wr .TB_LO 6
     writes s .UP_CMD 2 true (.upCmdActivate host) (fun t => t.upd.act == some 6 && t.flag .UP_STAT 9)
       && writes (s.wr (.UP_ACTT 1) 1) .UP_CMD 2 true (.upCmdActivate host) (fun t => t.upd.act == some (2 ^ 32 + 5) && !t.flag .UP_STAT 9)
       && writes (up 5 { updReset with staged := [{ lib with hold := true }] }) .UP_CMD 2 true (.upCmdActivate host) (fun t => refused t)) = true := by decide +kernel

/-- A boot image (type 3), and a library for another interface. -/
theorem test_activation_instant :
    (let s := fun (ty : Nat) => ((up 2 { updReset with staged := [{ lib with ty := ty }], act := some 1000 }).wr .UP_CFG 0x00020000).wr (.TH_STAT 0 1) 1
     gives (exec .activationInstant (s 3)) (fun t => t.now == 1000 && t.upd.placing && t.upd.paused && t.upd.placed == [{ lib with ty := 3 }] && t.rd (.TH_PC 0 0) == 0x0F80C000
         && t.thState 0 1 == 0 && t.thState 0 0 == 1)
       && (s 2).stagedIf lib != ((s 2).wr .UP_IF 0x10000).field .UP_IF 16 16
       && gives (exec .activationInstant ((s 2).wr .UP_IF 0x10000)) (fun t => t.upd.staged == [{ lib with hold := true }] && t.flag .UP_STAT 8 && t.field .UP_STAT 0 3 == 5)
       && gives (exec .activationInstant base) (fun t => decide (t = base))) = true := by decide +kernel

set_option maxRecDepth 20000 in
/-- Firmware and library of one interface go together; of two, the library is held; firmware alone that the running library does not
fit is held; no slot, no activation. -/
theorem test_activate_forms :
    (let fw : Staged := ⟨1, 512, 260, false⟩
     let s := ((up 2 { updReset with staged := [fw, lib], act := some 1000 }).wr .UP_STAGE 0x700000).wr .UP_CFG 0x00020000
     let x := { s with mem := [(smBase + 0x700000 + 22, 5)] }
     gives (exec .activationInstant s) (fun t => t.upd.placed == [fw, lib] && t.upd.staged == [] && t.upd.placing)
       && gives (exec .activationInstant x) (fun t => t.upd.placed == [fw] && t.upd.staged == [{ lib with hold := true }] && t.flag .UP_STAT 8 && t.field .UP_STAT 0 3 == 5
         && t.rd (.TH_PC 0 0) == 0x0F80C000)
       && gives (exec .activationInstant ({ (s.wr (.UP_VER 1) 1) with upd := { s.upd with staged := [fw] }, mem := [(smBase + 0xC0000 + 22, 5)] }))
         (fun t => t.upd.staged == [{ fw with hold := true }] && !t.upd.placing && t.field .UP_STAT 0 3 == 5)
       && writes (up 2 { updReset with staged := [lib] }) .UP_CMD 2 true (.upCmdActivate host) (fun t => refused t && t.upd.act == none)
       && writes (delta (up 2 { updReset with staged := [lib] })) .UP_CMD 2 true (.upCmdActivate host) (fun t => t.upd.act == some t.now)) = true := by decide +kernel

/-- The loader places an image that is staged at the start of shared memory's last MiB, memory holding `m` besides. -/
def placing (x : Staged) (img : List Byte) (m : List Host.Cell) : State :=
  { (up 2 { updReset with placed := [x], placing := true, paused := true }).wr .UP_STAGE 0x700000 with mem := memPut m (smBase + 0x700000) img }

set_option maxRecDepth 100000 in
/-- A good FULL image, one with a bad payload, and one with the code store not ready. -/
theorem test_loader_full :
    (let img := imageOf 1 0 [1, 2, 3, 4]
     let x : Staged := ⟨1, 0, 260, false⟩
     let bad := fun (o : Out) => gives o (fun t => t.field .UP_STAT 0 3 == 4 && t.field .UP_STAT 24 4 == 3 && t.rd (.TH_PC 0 0) == 0x0F80C400 && t.upd.asked == 256
         && ((t.port 0).out ++ (t.port 0).wait).any (fun x => !x.write && x.use == .update && x.addr == 0))
     gives (exec .loaderPlacementEnd (placing x img [])) (fun t => t.field .UP_STAT 0 3 == 3 && !t.upd.paused && t.rd (.TH_PC 0 0) == 0x01000100
         && t.field .UP_IF 16 16 == 7 && memBytes t.mem smBase 260 == img)
       && bad (exec .loaderPlacementEnd (placing x (img.set 256 0) []))
       && bad (exec .loaderPlacementEnd ((placing x img []).wr (.BLK_READY 0) 0xFFFFFFFE))) = true := by decide +kernel

set_option maxRecDepth 100000 in
/-- A DELTA image whose hunk makes the region whole, and one whose hunk does not; fallback undoes the hunk. -/
theorem test_loader_delta :
    (let img := imageOf 2 1 [1, 2, 3, 4]
     let old := memPut [] (smBase + 0xC0000) ((imageOf 2 1 [1, 2, 3, 4]).take 256)
     let x : Staged := ⟨2, 0, 272, false⟩
     let d := imageOf 2 1 hunk
     gives (exec .loaderPlacementEnd (delta (placing x d old))) (fun t => t.field .UP_STAT 0 3 == 3 && memBytes t.mem (smBase + 0xC0000) 260 == img)
       && gives (exec .loaderPlacementEnd (delta (placing x d (memPut old (smBase + 0xC0020) [1])))) (fun t => t.field .UP_STAT 0 3 == 4 && t.field .UP_STAT 24 4 == 3)
       && gives (exec (.fallbackRestoreEnd [] false) (delta ((placing x d (memPut old (smBase + 0xC0100) [1, 2, 3, 4])).wr .UP_STAT 4)))
         (fun t => t.field .UP_STAT 0 3 == 0 && memBytes t.mem (smBase + 0xC0100) 4 == [0, 0, 0, 0] && t.upd.placed == [] && t.rd (.TH_PC 0 0) == 0x01000100)
       && gives (exec (.fallbackRestoreEnd [] false) (delta ((placing { x with ty := 3 } d old).wr .UP_STAT 4)))
         (fun t => t.field .UP_STAT 0 3 == 0 && t.upd.placed == [])) = true := by decide +kernel

set_option maxRecDepth 20000 in
/-- The loader ends with nothing left to place, and with a library region that holds no image. -/
theorem test_loader :
    (let s := fun (l : List Staged) => up 2 { updReset with placed := l, placing := true, paused := true }
     gives (exec .loaderPlacementEnd (s [])) (fun t => t.field .UP_STAT 0 3 == 3 && !t.upd.placing && !t.upd.paused && t.rd (.TH_PC 0 0) == 0x01000100)
       && gives (exec .loaderPlacementEnd (s [lib])) (fun t => t.field .UP_STAT 0 3 == 4 && t.field .UP_STAT 24 4 == 3 && t.rd (.TH_PC 0 0) == 0x0F80C400)
       && gives (exec .loaderPlacementEnd base) (fun t => decide (t = base))) = true := by decide +kernel

theorem test_confirm_fallback_discard :
    (let s := (up 3 { updReset with placed := [lib] }).putWord (smBase + 0xC0008) 0x00010203
     writes s .UP_CMD 3 true (.upCmdConfirm host) (fun t => t.field .UP_STAT 0 3 == 0 && t.upd.placed == [] && t.rd (.UP_VER 1) == 0x00010203)
       && writes base .UP_CMD 3 true (.upCmdConfirm host) (fun t => refused t)
       && writes s .UP_CMD 0xF4 true (.upCmdFallback host 0xF0) (fun t => t.field .UP_STAT 0 3 == 4 && t.field .UP_STAT 24 4 == 15 && t.upd.paused && t.rd (.TH_PC 0 0) == 0x0F80C400)
       && writes base .UP_CMD 0xF4 true (.upCmdFallback host 0xF0) (fun t => refused t)
       && writes (up 2 { updReset with staged := [lib], act := some 5 }) .UP_CMD 5 true (.upCmdDiscard host) (fun t => t.upd.staged == [] && t.upd.act == none
         && t.field .UP_STAT 0 3 == 0)) = true := by decide +kernel

theorem test_confirm_window :
    (gives (exec .confirmWindowExpiry ((up 3 { updReset with entered := 5 }).wr .UP_CONFIRMWIN 2)) (fun t => t.field .UP_STAT 0 3 == 4 && t.flag .UP_STAT 10
        && t.field .UP_STAT 24 4 == 1 && decide (3200005 ≤ t.now)
        && t.upd.asked == 256)
      && gives (exec .confirmWindowExpiry base) (fun t => decide (t = base))) = true := by decide +kernel

/-- A firmware image whose payload is 1, 2, 3, 4, with the payload's SHA-256 and the header's CRC-32 (both worked out outside). -/
def firmware : List Byte :=
  [0x57, 0x4B, 0x55, 0x33, 1, 0, 0, 0] ++ List.replicate 16 0 ++ [4, 0, 0, 0, 0, 0, 0, 0]
    ++ [0x9F, 0x64, 0xA7, 0x47, 0xE1, 0xB9, 0x7F, 0x13, 0x1F, 0xAB, 0xB6, 0xB4, 0x47, 0x29, 0x6C, 0x9B, 0x6F, 0x02, 0x01, 0xE7, 0x9F, 0xB3, 0xC5, 0x35, 0x6E, 0x6C, 0x77, 0xE8, 0x9B, 0x6A, 0x80, 0x6A]
    ++ List.replicate 188 0 ++ [0x56, 0x9B, 0xA1, 0x2D, 1, 2, 3, 4]

set_option maxRecDepth 20000 in
theorem test_restore :
    (gives (exec (.fallbackRestoreEnd firmware false) (up 4 updReset)) (fun t => t.field .UP_STAT 0 3 == 0 && t.rd (.TH_PC 0 0) == 0x01000100
         && memBytes t.mem (smBase + 256) 4 == [1, 2, 3, 4] && memBytes t.mem smBase 4 == [0x57, 0x4B, 0x55, 0x33])) = true := by decide +kernel

set_option maxRecDepth 20000 in
/-- The header of the store slot's image has come: its payload is asked for. A boot image is not restored. -/
theorem test_restore_rest :
    (let s := fun (k : Nat) => (up 4 { updReset with asked := k }).wr (.UP_SLOT 0) 0x2000
     gives (exec (.fallbackRestoreEnd (firmware.take 256) false) (s 256)) (fun t => t.field .UP_STAT 0 3 == 4 && t.upd.asked == 260
         && ((t.port 0).out ++ (t.port 0).wait).any (fun x => !x.write && x.use == .update && x.addr == 0x2100))
       && gives (exec (.fallbackRestoreEnd (imageOf 3 0 [1, 2, 3, 4]) false) (s 260)) (fun t => t.field .UP_STAT 0 3 == 6 && t.flag .UP_STAT 11)) = true := by
  decide +kernel

set_option maxRecDepth 100000 in
/-- The boot ends with firmware and a library of another interface in the code store; then with the override. -/
theorem test_boot_versions :
    (let lib' := ((imageOf 2 0 [1, 2, 3, 4]).take 252).set 22 8
     let s := { base with mem := memPut (memPut [] smBase ((imageOf 1 0 [1, 2, 3, 4]).take 256)) (smBase + 0xC0000) (lib' ++ leBytes 4 (crc32 lib').toNat) }
     stores s .BLK_BOOTDONE 0x5EA10000 s.lockOpen (.blkBootdoneWrite th0 0x5EA10000) (fun t => t.rd (.UP_VER 0) == 0x00010203 && t.rd (.UP_VER 1) == 0 && t.rd (.UP_VER 2) == 0
         && t.field .UP_IF 16 16 == 7 && t.flag .UP_STAT 8 && t.field .UP_STAT 0 3 == 5)
       && stores (s.wr .UP_SKEWOVR 1) .BLK_BOOTDONE 0x5EA10000 true (.blkBootdoneWrite th0 0x5EA10000) (fun t => t.rd (.UP_VER 1) == 0x00010203 && !t.flag .UP_STAT 8)) = true := by
  decide +kernel

theorem test_restore_fails :
    (gives (exec (.fallbackRestoreEnd firmware true) (up 4 updReset)) (fun t => t.field .UP_STAT 0 3 == 6 && t.flag .UP_STAT 11 && t.mem == [])
       && gives (exec (.fallbackRestoreEnd firmware false) base) (fun t => decide (t = base))) = true := by decide +kernel
/-! ### Well-formedness: an ill-formed command for each check -/

/-- A cell that lacks its sixteenth word. -/
def torn : Cell := ⟨List.replicate 15 0⟩

/-- A cell of sixteen words. -/
def full : Cell := ⟨List.replicate 16 0⟩

/-- What the checks on the parts refuse. -/
theorem test_parts_refused :
    ((srcOk (.port 2 false) || srcOk (.thread 8 0 false) || srcOk (.thread 0 16 false) || memOk (.bank 32) || memOk (.tile 8)
      || issueOk ⟨8, 0, 0, 0⟩ || issueOk ⟨0, 16, 0, 0⟩ || wakeOk (.gauze 8) || wakeOk (.comparator 8) || wakeOk (.kick 2)
      || cellOk torn) = false) := by decide +kernel

theorem test_wellFormed_refuses_0 :
    ((Instr.pdAckRise 24).wellFormed = false)
      ∧ ((Instr.domainResetRelease 24).wellFormed = false)
      ∧ ((Instr.domainDrainEnd 24).wellFormed = false)
      ∧ ((Instr.pdAckFall 24).wellFormed = false)
      ∧ ((Instr.pdAckLost 24).wellFormed = false)
      ∧ ((Instr.pdTimeout 24).wellFormed = false)
      ∧ ((Instr.pwrBudgetAccept 1024).wellFormed = false)
      ∧ ((Instr.dbKickEdge 2).wellFormed = false)
      ∧ ((Instr.faultInRise 16).wellFormed = false)
      ∧ ((Instr.memoryClearEnd (.bank 32)).wellFormed = false)
      ∧ ((Instr.keptMemoryReady (.bank 32)).wellFormed = false)
      ∧ ((Instr.blkStateReqBoot (.port 2 false)).wellFormed = false)
      ∧ ((Instr.blkStateReqRun (.port 2 false)).wellFormed = false)
      ∧ ((Instr.blkStateReqTest (.port 2 false)).wellFormed = false)
      ∧ (∀ x1, (Instr.blkBootdoneWrite (.port 2 false) x1).wellFormed = false)
      ∧ (∀ x2, (Instr.blkBootptrWrite (.port 2 false) 0 x2).wellFormed = false)
      ∧ (∀ x2, (Instr.blkBootptrWrite (.port 0 true) 2 x2).wellFormed = false)
      ∧ (∀ x2, (Instr.registerWrite (.port 2 false) 0 x2).wellFormed = false)
      ∧ (∀ x2, (Instr.registerWrite (.port 0 true) 1048576 x2).wellFormed = false)
      ∧ (∀ x1, (Instr.subordinateRead 2 x1 0).wellFormed = false)
      ∧ (∀ x1, (Instr.subordinateRead 0 x1 67108864).wellFormed = false)
      ∧ (∀ x1 x3 x4, (Instr.subordinateWrite 2 x1 0 ⟨x3, none⟩ x4).wellFormed = false)
      ∧ (∀ x1 x3 x4, (Instr.subordinateWrite 0 x1 67108864 ⟨x3, none⟩ x4).wellFormed = false)
      ∧ ((Instr.hpSemAcquire 2 ⟨0, false⟩).wellFormed = false)
      ∧ ((Instr.hpSemAcquire 0 ⟨32, false⟩).wellFormed = false)
      ∧ ((Instr.hpSemRelease 2 0).wellFormed = false)
      ∧ ((Instr.hpSemRelease 0 32).wellFormed = false)
      ∧ (∀ x1, (Instr.hpSembrk (.port 2 false) x1).wellFormed = false)
      ∧ ((Instr.burstModeRequest (.port 2 false) 0).wellFormed = false)
      ∧ ((Instr.burstModeRequest (.port 0 true) 2).wellFormed = false)
      ∧ ((Instr.burstModeLeave (.port 2 false) 0).wellFormed = false)
      ∧ ((Instr.burstModeLeave (.port 0 true) 2).wellFormed = false)
      ∧ (∀ x2, (Instr.tz2MailboxWrite 2 0 x2).wellFormed = false)
      ∧ (∀ x2, (Instr.tz2MailboxWrite 0 64 x2).wellFormed = false)
      ∧ (∀ x2, (Instr.managerReadResponse 2 0 x2).wellFormed = false)
      ∧ (∀ x2, (Instr.managerReadResponse 0 64 x2).wellFormed = false)
      ∧ (∀ x2, (Instr.managerWriteResponse 2 0 ⟨x2, 0⟩).wellFormed = false)
      ∧ (∀ x2, (Instr.managerWriteResponse 0 64 ⟨x2, 0⟩).wellFormed = false)
      ∧ (∀ x1, (Instr.storeBufferDrain 8 ⟨x1, 0⟩).wellFormed = false)
      ∧ ((Instr.tlCtlMapload (.port 2 false) 0).wellFormed = false)
      ∧ ((Instr.tlCtlMapload (.port 0 true) 8).wellFormed = false)
      ∧ ((Instr.slotMapActivate ⟨8, 16⟩).wellFormed = false)
      ∧ ((Instr.tlCtlTrst (.port 2 false) 0).wellFormed = false)
      ∧ ((Instr.tlCtlTrst (.port 0 true) 8).wellFormed = false)
      ∧ ((Instr.tlCtlStart (.port 2 false) 0).wellFormed = false)
      ∧ ((Instr.tlCtlStart (.port 0 true) 8).wellFormed = false)
      ∧ (∀ x2, (Instr.tlCtlDetmWrite (.port 2 false) 0 x2).wellFormed = false)
      ∧ (∀ x2, (Instr.tlCtlDetmWrite (.port 0 true) 8 x2).wellFormed = false) := by
  and_intros <;> intros <;> rfl

theorem test_wellFormed_refuses_1 :
    (∀ x2, (Instr.tlHwrouteWrite (.port 2 false) 0 x2).wellFormed = false)
      ∧ (∀ x2, (Instr.tlHwrouteWrite (.port 0 true) 8 x2).wellFormed = false)
      ∧ ((Instr.tlHwrouteApply ⟨8, 0⟩).wellFormed = false)
      ∧ (∀ x4, (Instr.thHwinWrite (.port 2 false) 0 0 0 x4).wellFormed = false)
      ∧ (∀ x4, (Instr.thHwinWrite (.port 0 true) 8 0 0 x4).wellFormed = false)
      ∧ (∀ x4, (Instr.thHwinWrite (.port 0 true) 0 16 0 x4).wellFormed = false)
      ∧ (∀ x4, (Instr.thHwinWrite (.port 0 true) 0 0 16 x4).wellFormed = false)
      ∧ (∀ x4, (Instr.thRegisterWrite (.port 2 false) 0 0 0 x4).wellFormed = false)
      ∧ (∀ x4, (Instr.thRegisterWrite (.port 0 true) 8 0 0 x4).wellFormed = false)
      ∧ (∀ x4, (Instr.thRegisterWrite (.port 0 true) 0 16 0 x4).wellFormed = false)
      ∧ (∀ x4, (Instr.thRegisterWrite (.port 0 true) 0 0 32 x4).wellFormed = false)
      ∧ ((Instr.interruptEntry ⟨8, 0⟩ 0).wellFormed = false)
      ∧ ((Instr.interruptEntry ⟨0, 0⟩ 16).wellFormed = false)
      ∧ ((Instr.eventInput 8 0 0).wellFormed = false)
      ∧ ((Instr.eventInput 0 16 0).wellFormed = false)
      ∧ ((Instr.eventInput 0 0 32).wellFormed = false)
      ∧ ((Instr.evsendDelivery ⟨8, false⟩).wellFormed = false)
      ∧ ((Instr.wfeWake ⟨8, 0⟩ 0).wellFormed = false)
      ∧ ((Instr.wfeWake ⟨0, 0⟩ 16).wellFormed = false)
      ∧ (∀ x0, (Instr.channelWaitServed x0 ⟨8, 0⟩ 0).wellFormed = false)
      ∧ (∀ x0, (Instr.channelWaitServed x0 ⟨0, 0⟩ 64).wellFormed = false)
      ∧ ((Instr.chwaitTimeout ⟨8, 0⟩ 0).wellFormed = false)
      ∧ ((Instr.chwaitTimeout ⟨0, 0⟩ 16).wellFormed = false)
      ∧ ((Instr.deadlockDetected 8).wellFormed = false)
      ∧ (∀ x1, (Instr.integerRegisterOp ⟨8, 0, 0, 0⟩ x1).wellFormed = false)
      ∧ (∀ x1, (Instr.integerImmediateOp ⟨8, 0, 0, 0⟩ x1).wellFormed = false)
      ∧ (∀ x1, (Instr.extract ⟨8, 0, 0, 0⟩ x1).wellFormed = false)
      ∧ (∀ x1, (Instr.extractS ⟨8, 0, 0, 0⟩ x1).wellFormed = false)
      ∧ (∀ x1, (Instr.insertField ⟨8, 0, 0, 0⟩ x1).wellFormed = false)
      ∧ (∀ x1, (Instr.lui ⟨8, 0, 0, 0⟩ x1).wellFormed = false)
      ∧ (∀ x1, (Instr.auipc ⟨8, 0, 0, 0⟩ x1).wellFormed = false)
      ∧ (∀ x1 h, (Instr.load ⟨8, 0, 0, 0⟩ x1 h).wellFormed = false)
      ∧ (∀ x1, (Instr.store ⟨8, 0, 0, 0⟩ x1).wellFormed = false)
      ∧ (∀ x1, (Instr.amoadd ⟨8, 0, 0, 0⟩ x1).wellFormed = false)
      ∧ (∀ x1, (Instr.amoswap ⟨8, 0, 0, 0⟩ x1).wellFormed = false)
      ∧ (∀ x1, (Instr.cas ⟨8, 0, 0, 0⟩ x1).wellFormed = false)
      ∧ (∀ x1, (Instr.jal ⟨8, 0, 0, 0⟩ x1).wellFormed = false)
      ∧ (∀ x1, (Instr.jalr ⟨8, 0, 0, 0⟩ x1).wellFormed = false)
      ∧ (∀ x1, (Instr.branch ⟨8, 0, 0, 0⟩ x1).wellFormed = false)
      ∧ (∀ x1, (Instr.hwLoop ⟨8, 0, 0, 0⟩ x1).wellFormed = false)
      ∧ (∀ x1, (Instr.csrrd ⟨8, 0, 0, 0⟩ x1).wellFormed = false)
      ∧ (∀ x1, (Instr.csrwr ⟨8, 0, 0, 0⟩ x1).wellFormed = false)
      ∧ (∀ x1, (Instr.fence ⟨8, 0, 0, 0⟩ x1).wellFormed = false)
      ∧ (∀ x1, (Instr.iflush ⟨8, 0, 0, 0⟩ x1).wellFormed = false)
      ∧ (∀ x1, (Instr.bld ⟨8, 0, 0, 0⟩ x1).wellFormed = false)
      ∧ (∀ x1, (Instr.bldn ⟨8, 0, 0, 0⟩ x1).wellFormed = false)
      ∧ (∀ x1, (Instr.band ⟨8, 0, 0, 0⟩ x1).wellFormed = false)
      ∧ (∀ x1, (Instr.bandn ⟨8, 0, 0, 0⟩ x1).wellFormed = false) := by
  and_intros <;> intros <;> rfl

theorem test_wellFormed_refuses_2 :
    (∀ x1, (Instr.bor ⟨8, 0, 0, 0⟩ x1).wellFormed = false)
      ∧ (∀ x1, (Instr.born ⟨8, 0, 0, 0⟩ x1).wellFormed = false)
      ∧ (∀ x1, (Instr.bxor ⟨8, 0, 0, 0⟩ x1).wellFormed = false)
      ∧ (∀ x1, (Instr.bst ⟨8, 0, 0, 0⟩ x1).wellFormed = false)
      ∧ (∀ x1, (Instr.bset ⟨8, 0, 0, 0⟩ x1).wellFormed = false)
      ∧ (∀ x1, (Instr.brst ⟨8, 0, 0, 0⟩ x1).wellFormed = false)
      ∧ (∀ x1, (Instr.btog ⟨8, 0, 0, 0⟩ x1).wellFormed = false)
      ∧ (∀ x1, (Instr.brise ⟨8, 0, 0, 0⟩ x1).wellFormed = false)
      ∧ (∀ x1, (Instr.bfall ⟨8, 0, 0, 0⟩ x1).wellFormed = false)
      ∧ (∀ x1, (Instr.bpush ⟨8, 0, 0, 0⟩ x1).wellFormed = false)
      ∧ (∀ x1, (Instr.bpop ⟨8, 0, 0, 0⟩ x1).wellFormed = false)
      ∧ (∀ x1, (Instr.bands ⟨8, 0, 0, 0⟩ x1).wellFormed = false)
      ∧ (∀ x1, (Instr.bors ⟨8, 0, 0, 0⟩ x1).wellFormed = false)
      ∧ (∀ x1, (Instr.bnot ⟨8, 0, 0, 0⟩ x1).wellFormed = false)
      ∧ (∀ x1, (Instr.bseta ⟨8, 0, 0, 0⟩ x1).wellFormed = false)
      ∧ (∀ x1, (Instr.bclra ⟨8, 0, 0, 0⟩ x1).wellFormed = false)
      ∧ (∀ x1, (Instr.bmovg ⟨8, 0, 0, 0⟩ x1).wellFormed = false)
      ∧ (∀ x1, (Instr.bmova ⟨8, 0, 0, 0⟩ x1).wellFormed = false)
      ∧ (∀ x1, (Instr.wfe ⟨8, 0, 0, 0⟩ x1).wellFormed = false)
      ∧ (∀ x1, (Instr.evsend ⟨8, 0, 0, 0⟩ x1).wellFormed = false)
      ∧ (∀ x1, (Instr.trap ⟨8, 0, 0, 0⟩ x1).wellFormed = false)
      ∧ (∀ x1, (Instr.brk ⟨8, 0, 0, 0⟩ x1).wellFormed = false)
      ∧ (∀ x1, (Instr.rete ⟨8, 0, 0, 0⟩ x1).wellFormed = false)
      ∧ (∀ x1, (Instr.haltThread ⟨8, 0, 0, 0⟩ x1).wellFormed = false)
      ∧ (∀ x1, (Instr.scanend ⟨8, 0, 0, 0⟩ x1).wellFormed = false)
      ∧ (∀ x1, (Instr.tset ⟨8, 0, 0, 0⟩ x1).wellFormed = false)
      ∧ (∀ x1, (Instr.trelease ⟨8, 0, 0, 0⟩ x1).wellFormed = false)
      ∧ (∀ x1, (Instr.chopen ⟨8, 0, 0, 0⟩ x1).wellFormed = false)
      ∧ (∀ x1, (Instr.chput ⟨8, 0, 0, 0⟩ x1).wellFormed = false)
      ∧ (∀ x1, (Instr.chclose ⟨8, 0, 0, 0⟩ x1).wellFormed = false)
      ∧ (∀ x1, (Instr.chget ⟨8, 0, 0, 0⟩ x1).wellFormed = false)
      ∧ (∀ x1, (Instr.vbind ⟨8, 0, 0, 0⟩ x1).wellFormed = false)
      ∧ (∀ x1, (Instr.vfree ⟨8, 0, 0, 0⟩ x1).wellFormed = false)
      ∧ (∀ x1, (Instr.apreq ⟨8, 0, 0, 0⟩ x1).wellFormed = false)
      ∧ (∀ x1, (Instr.aprel ⟨8, 0, 0, 0⟩ x1).wellFormed = false)
      ∧ (∀ x1, (Instr.vsetvl ⟨8, 0, 0, 0⟩ x1).wellFormed = false)
      ∧ (∀ x1, (Instr.vectorIntegerOp ⟨8, 0, 0, 0⟩ x1).wellFormed = false)
      ∧ (∀ x1, (Instr.vectorFixedPointOp ⟨8, 0, 0, 0⟩ x1).wellFormed = false)
      ∧ (∀ x1, (Instr.scalarFpOp ⟨8, 0, 0, 0⟩ x1).wellFormed = false)
      ∧ (∀ x1, (Instr.vectorFpOp ⟨8, 0, 0, 0⟩ x1).wellFormed = false)
      ∧ (∀ x1 h, (Instr.vectorLoad ⟨8, 0, 0, 0⟩ x1 h).wellFormed = false)
      ∧ (∀ x1 h, (Instr.vectorStore ⟨8, 0, 0, 0⟩ ⟨x1, h⟩).wellFormed = false)
      ∧ (∀ x1 h, (Instr.vectorGather ⟨8, 0, 0, 0⟩ x1 h).wellFormed = false)
      ∧ (∀ x1, (Instr.vectorScatter ⟨8, 0, 0, 0⟩ x1).wellFormed = false)
      ∧ ((Instr.lvIdlePowerDown 8 0).wellFormed = false)
      ∧ ((Instr.lvIdlePowerDown 0 4).wellFormed = false)
      ∧ ((Instr.lvuContextDownEnd 8 0).wellFormed = false)
      ∧ ((Instr.lvuContextDownEnd 0 4).wellFormed = false) := by
  and_intros <;> intros <;> rfl

theorem test_wellFormed_refuses_3 :
    ((Instr.lvuRampEnd 8 0).wellFormed = false)
      ∧ ((Instr.lvuRampEnd 0 4).wellFormed = false)
      ∧ ((Instr.lvuRestoreEnd ⟨8, 0⟩ 0).wellFormed = false)
      ∧ ((Instr.lvuRestoreEnd ⟨0, 0⟩ 4).wellFormed = false)
      ∧ (∀ x2, (Instr.lvCtlWrite (.port 2 false) 0 x2).wellFormed = false)
      ∧ (∀ x2, (Instr.lvCtlWrite (.port 0 true) 8 x2).wellFormed = false)
      ∧ (∀ x2, (Instr.scGctlRunStart (.port 2 false) 0 x2).wellFormed = false)
      ∧ (∀ x2, (Instr.scGctlRunStart (.port 0 true) 8 x2).wellFormed = false)
      ∧ ((Instr.scanStartChecksEnd 8).wellFormed = false)
      ∧ (∀ x2, (Instr.scGctlRunStop (.port 2 false) 0 x2).wellFormed = false)
      ∧ (∀ x2, (Instr.scGctlRunStop (.port 0 true) 8 x2).wellFormed = false)
      ∧ ((Instr.stopCopiesEnd 8).wellFormed = false)
      ∧ (∀ x1, (Instr.scanFreeze 8 x1).wellFormed = false)
      ∧ ((Instr.scanRelease 8).wellFormed = false)
      ∧ ((Instr.scanCommit 8).wellFormed = false)
      ∧ (∀ x1 x2, (Instr.scImglayoutWrite (.port 2 false) x1 x2).wellFormed = false)
      ∧ (∀ x1, (Instr.scOwndataWrite (.port 2 false) x1).wellFormed = false)
      ∧ (∀ x1, (Instr.scOwnfillWrite (.port 2 false) x1).wellFormed = false)
      ∧ ((Instr.editArm (.port 2 false) 0).wellFormed = false)
      ∧ ((Instr.editArm (.port 0 true) 8).wellFormed = false)
      ∧ ((Instr.editCancel (.port 2 false) 0).wellFormed = false)
      ∧ ((Instr.editCancel (.port 0 true) 8).wellFormed = false)
      ∧ (∀ x3, (Instr.scEdittgtWrite (.port 2 false) 0 0 x3).wellFormed = false)
      ∧ (∀ x3, (Instr.scEdittgtWrite (.port 0 true) 8 0 x3).wellFormed = false)
      ∧ (∀ x3, (Instr.scEdittgtWrite (.port 0 true) 0 2 x3).wellFormed = false)
      ∧ ((Instr.editApplierEnd 8).wellFormed = false)
      ∧ (∀ x1, (Instr.smClrreqWrite (.port 2 false) x1).wellFormed = false)
      ∧ (∀ x1, (Instr.smPdctlWrite (.port 2 false) x1).wellFormed = false)
      ∧ (∀ x1 x2, (Instr.collisionReplay 67108864 x1 x2).wellFormed = false)
      ∧ ((Instr.eccWriteBack 67108864).wellFormed = false)
      ∧ (∀ x3, (Instr.ringEnable (.port 2 false) 0 0 x3).wellFormed = false)
      ∧ (∀ x3, (Instr.ringEnable (.port 0 true) 2 0 x3).wellFormed = false)
      ∧ (∀ x3, (Instr.ringEnable (.port 0 true) 0 256 x3).wellFormed = false)
      ∧ ((Instr.ringDisable (.port 2 false) 0 0).wellFormed = false)
      ∧ ((Instr.ringDisable (.port 0 true) 2 0).wellFormed = false)
      ∧ ((Instr.ringDisable (.port 0 true) 0 256).wellFormed = false)
      ∧ ((Instr.ringIdle 2 0).wellFormed = false)
      ∧ ((Instr.ringIdle 0 256).wellFormed = false)
      ∧ (∀ x3, (Instr.cqEnable (.port 2 false) 0 0 x3).wellFormed = false)
      ∧ (∀ x3, (Instr.cqEnable (.port 0 true) 2 0 x3).wellFormed = false)
      ∧ (∀ x3, (Instr.cqEnable (.port 0 true) 0 64 x3).wellFormed = false)
      ∧ ((Instr.cqDisable (.port 2 false) 0 0).wellFormed = false)
      ∧ ((Instr.cqDisable (.port 0 true) 2 0).wellFormed = false)
      ∧ ((Instr.cqDisable (.port 0 true) 0 64).wellFormed = false)
      ∧ ((Instr.doorbellPoll 2).wellFormed = false)
      ∧ (∀ halfwords x2, (Instr.summaryLineArrival 2 halfwords x2).wellFormed = false)
      ∧ (∀ words x3, (Instr.doorbellLineArrival 2 0 words x3).wellFormed = false)
      ∧ (∀ words x3, (Instr.doorbellLineArrival 0 20 words x3).wellFormed = false) := by
  and_intros <;> intros <;> rfl

theorem test_wellFormed_refuses_4 :
    (∀ x3, (Instr.legacyDoorbellWrite (.port 2 false) 0 0 x3).wellFormed = false)
      ∧ (∀ x3, (Instr.legacyDoorbellWrite (.port 0 true) 2 0 x3).wellFormed = false)
      ∧ (∀ x3, (Instr.legacyDoorbellWrite (.port 0 true) 0 4096 x3).wellFormed = false)
      ∧ (∀ words x3, (Instr.descriptorArrival 2 0 words x3).wellFormed = false)
      ∧ (∀ words x3, (Instr.descriptorArrival 0 256 words x3).wellFormed = false)
      ∧ (∀ data x3, (Instr.imgInDescriptor 2 0 data x3).wellFormed = false)
      ∧ (∀ data x3, (Instr.imgInDescriptor 0 256 data x3).wellFormed = false)
      ∧ (∀ x2 x3, (Instr.imgOutDescriptor 2 0 ⟨x2, x3⟩).wellFormed = false)
      ∧ (∀ x2 x3, (Instr.imgOutDescriptor 0 256 ⟨x2, x3⟩).wellFormed = false)
      ∧ (∀ data x3, (Instr.streamTxDescriptor 2 0 data x3).wellFormed = false)
      ∧ (∀ data x3, (Instr.streamTxDescriptor 0 256 data x3).wellFormed = false)
      ∧ (∀ x2, (Instr.streamRxDescriptor 2 0 x2).wellFormed = false)
      ∧ (∀ x2, (Instr.streamRxDescriptor 0 256 x2).wellFormed = false)
      ∧ (∀ data x3, (Instr.msgTxDescriptor 2 0 data x3).wellFormed = false)
      ∧ (∀ data x3, (Instr.msgTxDescriptor 0 256 data x3).wellFormed = false)
      ∧ (∀ x2, (Instr.msgRxDescriptor 2 0 x2).wellFormed = false)
      ∧ (∀ x2, (Instr.msgRxDescriptor 0 256 x2).wellFormed = false)
      ∧ (∀ data x3, (Instr.mgmtEditDescriptor 2 0 data x3).wellFormed = false)
      ∧ (∀ data x3, (Instr.mgmtEditDescriptor 0 256 data x3).wellFormed = false)
      ∧ (∀ data x3, (Instr.mgmtMessageDescriptor 2 0 data x3).wellFormed = false)
      ∧ (∀ data x3, (Instr.mgmtMessageDescriptor 0 256 data x3).wellFormed = false)
      ∧ ((Instr.vectorUnmask (.port 2 false) 0 0).wellFormed = false)
      ∧ ((Instr.vectorUnmask (.port 0 true) 2 0).wellFormed = false)
      ∧ ((Instr.vectorUnmask (.port 0 true) 0 64).wellFormed = false)
      ∧ (∀ x2, (Instr.engineTick 8 0 x2).wellFormed = false)
      ∧ (∀ x2, (Instr.engineTick 0 32 x2).wellFormed = false)
      ∧ (∀ x2, (Instr.engNop 8 0 x2).wellFormed = false)
      ∧ (∀ x2, (Instr.engNop 0 32 x2).wellFormed = false)
      ∧ (∀ x2, (Instr.engSho 8 0 x2).wellFormed = false)
      ∧ (∀ x2, (Instr.engSho 0 32 x2).wellFormed = false)
      ∧ (∀ x2, (Instr.engShi 8 0 x2).wellFormed = false)
      ∧ (∀ x2, (Instr.engShi 0 32 x2).wellFormed = false)
      ∧ (∀ x2, (Instr.engShx 8 0 x2).wellFormed = false)
      ∧ (∀ x2, (Instr.engShx 0 32 x2).wellFormed = false)
      ∧ (∀ x2, (Instr.engPull 8 0 x2).wellFormed = false)
      ∧ (∀ x2, (Instr.engPull 0 32 x2).wellFormed = false)
      ∧ (∀ x2, (Instr.engPush 8 0 x2).wellFormed = false)
      ∧ (∀ x2, (Instr.engPush 0 32 x2).wellFormed = false)
      ∧ (∀ x2, (Instr.engineStallEnd 8 0 x2).wellFormed = false)
      ∧ (∀ x2, (Instr.engineStallEnd 0 32 x2).wellFormed = false)
      ∧ (∀ x2, (Instr.engWait 8 0 x2).wellFormed = false)
      ∧ (∀ x2, (Instr.engWait 0 32 x2).wellFormed = false)
      ∧ (∀ x2, (Instr.engWaitc 8 0 x2).wellFormed = false)
      ∧ (∀ x2, (Instr.engWaitc 0 32 x2).wellFormed = false)
      ∧ (∀ x2, (Instr.engSetp 8 0 x2).wellFormed = false)
      ∧ (∀ x2, (Instr.engSetp 0 32 x2).wellFormed = false)
      ∧ (∀ x2, (Instr.engDir 8 0 x2).wellFormed = false)
      ∧ (∀ x2, (Instr.engDir 0 32 x2).wellFormed = false) := by
  and_intros <;> intros <;> rfl

theorem test_wellFormed_refuses_5 :
    (∀ x2, (Instr.engJmp 8 0 x2).wellFormed = false)
      ∧ (∀ x2, (Instr.engJmp 0 32 x2).wellFormed = false)
      ∧ (∀ x2, (Instr.engDjnz 8 0 x2).wellFormed = false)
      ∧ (∀ x2, (Instr.engDjnz 0 32 x2).wellFormed = false)
      ∧ (∀ x2, (Instr.engClk 8 0 x2).wellFormed = false)
      ∧ (∀ x2, (Instr.engClk 0 32 x2).wellFormed = false)
      ∧ (∀ x2, (Instr.engEvt 8 0 x2).wellFormed = false)
      ∧ (∀ x2, (Instr.engEvt 0 32 x2).wellFormed = false)
      ∧ ((Instr.streamMoverTurn 8 0).wellFormed = false)
      ∧ ((Instr.streamMoverTurn 0 32).wellFormed = false)
      ∧ ((Instr.engineEnable (.port 2 false) 0 0).wellFormed = false)
      ∧ ((Instr.engineEnable (.port 0 true) 8 0).wellFormed = false)
      ∧ ((Instr.engineEnable (.port 0 true) 0 32).wellFormed = false)
      ∧ ((Instr.engineDisable (.port 2 false) 0 0).wellFormed = false)
      ∧ ((Instr.engineDisable (.port 0 true) 8 0).wellFormed = false)
      ∧ ((Instr.engineDisable (.port 0 true) 0 32).wellFormed = false)
      ∧ ((Instr.engineFlush (.port 2 false) 0 0).wellFormed = false)
      ∧ ((Instr.engineFlush (.port 0 true) 8 0).wellFormed = false)
      ∧ ((Instr.engineFlush (.port 0 true) 0 32).wellFormed = false)
      ∧ ((Instr.engineSwap (.port 2 false) 0 0).wellFormed = false)
      ∧ ((Instr.engineSwap (.port 0 true) 8 0).wellFormed = false)
      ∧ ((Instr.engineSwap (.port 0 true) 0 32).wellFormed = false)
      ∧ ((Instr.engineForce (.port 2 false) 0 0).wellFormed = false)
      ∧ ((Instr.engineForce (.port 0 true) 8 0).wellFormed = false)
      ∧ ((Instr.engineForce (.port 0 true) 0 32).wellFormed = false)
      ∧ (∀ x2, (Instr.engineBankSwap 8 0 x2).wellFormed = false)
      ∧ (∀ x2, (Instr.engineBankSwap 0 32 x2).wellFormed = false)
      ∧ ((Instr.engineOvrclr (.port 2 false) 0 0).wellFormed = false)
      ∧ ((Instr.engineOvrclr (.port 0 true) 8 0).wellFormed = false)
      ∧ ((Instr.engineOvrclr (.port 0 true) 0 32).wellFormed = false)
      ∧ (∀ x4, (Instr.engineProgramWrite (.port 2 false) 0 0 0 x4).wellFormed = false)
      ∧ (∀ x4, (Instr.engineProgramWrite (.port 0 true) 8 0 0 x4).wellFormed = false)
      ∧ (∀ x4, (Instr.engineProgramWrite (.port 0 true) 0 32 0 x4).wellFormed = false)
      ∧ (∀ x4, (Instr.engineProgramWrite (.port 0 true) 0 0 32 x4).wellFormed = false)
      ∧ (∀ x4, (Instr.engineConfigWrite (.port 2 false) 0 0 0 x4).wellFormed = false)
      ∧ (∀ x4, (Instr.engineConfigWrite (.port 0 true) 8 0 0 x4).wellFormed = false)
      ∧ (∀ x4, (Instr.engineConfigWrite (.port 0 true) 0 32 0 x4).wellFormed = false)
      ∧ (∀ x4, (Instr.engineConfigWrite (.port 0 true) 0 0 16 x4).wellFormed = false)
      ∧ (∀ x2, (Instr.engineGroupRequest (.port 2 false) 0 x2).wellFormed = false)
      ∧ (∀ x2, (Instr.engineGroupRequest (.port 0 true) 8 x2).wellFormed = false)
      ∧ ((Instr.engineGroupReady 8 0).wellFormed = false)
      ∧ ((Instr.engineGroupReady 0 4).wellFormed = false)
      ∧ (∀ x1, (Instr.gauzeSourceEdge (.fio 512) x1).wellFormed = false)
      ∧ (∀ x1, (Instr.gauzeSourceEdge (.fin 16) x1).wellFormed = false)
      ∧ (Instr.slotMapActivate ⟨0, 8⟩).wellFormed = false
      ∧ (Instr.copyEngineCopyEnd 9).wellFormed = false
      ∧ ((Instr.taskInputTake 1258).wellFormed = false)
      ∧ (∀ x2, (Instr.gzConfigWrite (.port 2 false) 0 x2).wellFormed = false)
      ∧ (∀ x2, (Instr.gzConfigWrite (.port 0 true) 1048576 x2).wellFormed = false)
      ∧ (∀ x2, (Instr.gzPinselWrite (.port 2 false) 0 x2).wellFormed = false)
      ∧ (∀ x2, (Instr.gzPinselWrite (.port 0 true) 16 x2).wellFormed = false) := by
  and_intros <;> intros <;> rfl

theorem test_wellFormed_refuses_6 :
    (∀ x2, (Instr.tlGzfire (.port 2 false) 0 x2).wellFormed = false)
      ∧ (∀ x2, (Instr.tlGzfire (.port 0 true) 8 x2).wellFormed = false)
      ∧ (∀ x1, (Instr.tbAdjWrite (.port 2 false) x1).wellFormed = false)
      ∧ ((Instr.aoComparatorFire 8).wellFormed = false)
      ∧ (∀ x1, (Instr.timerTick 64 x1).wellFormed = false)
      ∧ ((Instr.timerLfclkStep 64).wellFormed = false)
      ∧ ((Instr.timerLinkEvent 64).wellFormed = false)
      ∧ (∀ x2, (Instr.timerEnable (.port 2 false) 0 x2).wellFormed = false)
      ∧ (∀ x2, (Instr.timerEnable (.port 0 true) 64 x2).wellFormed = false)
      ∧ ((Instr.timerStartStop 64).wellFormed = false)
      ∧ (∀ x2, (Instr.tmGstart (.port 2 false) 0 x2).wellFormed = false)
      ∧ (∀ x2, (Instr.tmGstart (.port 0 true) 2 x2).wellFormed = false)
      ∧ (∀ x2, (Instr.tmGstop (.port 2 false) 0 x2).wellFormed = false)
      ∧ (∀ x2, (Instr.tmGstop (.port 0 true) 2 x2).wellFormed = false)
      ∧ (∀ x2 x3, (Instr.timerShadowWrite (.port 2 false) 0 x2 x3).wellFormed = false)
      ∧ (∀ x2 x3, (Instr.timerShadowWrite (.port 0 true) 64 x2 x3).wellFormed = false)
      ∧ ((Instr.timerShadowTransfer 64).wellFormed = false)
      ∧ (∀ x1, (Instr.timerCapture 64 x1).wellFormed = false)
      ∧ (∀ x1, (Instr.tmCaprisePop 2 x1 0).wellFormed = false)
      ∧ (∀ x1, (Instr.tmCaprisePop 0 x1 64).wellFormed = false)
      ∧ (∀ x1, (Instr.tmCapfallPop 2 x1 0).wellFormed = false)
      ∧ (∀ x1, (Instr.tmCapfallPop 0 x1 64).wellFormed = false)
      ∧ (∀ x2 x3, (Instr.tmCounterWrite (.port 2 false) 0 x2 x3).wellFormed = false)
      ∧ (∀ x2 x3, (Instr.tmCounterWrite (.port 0 true) 64 x2 x3).wellFormed = false)
      ∧ ((Instr.convStartPulseEnd 16).wellFormed = false)
      ∧ (∀ x1, (Instr.cnDomctlWrite (.port 2 false) x1).wellFormed = false)
      ∧ (∀ x2, (Instr.canInitLeave (.port 2 false) 0 x2).wellFormed = false)
      ∧ (∀ x2, (Instr.canInitLeave (.port 0 true) 16 x2).wellFormed = false)
      ∧ ((Instr.canBusJoin 16).wellFormed = false)
      ∧ (∀ x2 x3, (Instr.canBitTimingWrite (.port 2 false) 0 x2 x3).wellFormed = false)
      ∧ (∀ x2 x3, (Instr.canBitTimingWrite (.port 0 true) 16 x2 x3).wellFormed = false)
      ∧ (∀ x2, (Instr.canMap (.port 2 false) 0 x2).wellFormed = false)
      ∧ (∀ x2, (Instr.canMap (.port 0 true) 16 x2).wellFormed = false)
      ∧ (∀ x2, (Instr.canUnmap (.port 2 false) 0 x2).wellFormed = false)
      ∧ (∀ x2, (Instr.canUnmap (.port 0 true) 16 x2).wellFormed = false)
      ∧ (∀ x2, (Instr.canFrameReceived 16 ⟨0, true, false, false, false, false, 0, []⟩ x2).wellFormed = false)
      ∧ (∀ x2, (Instr.canFrameReceived 0 ⟨2 ^ 29, true, false, false, false, false, 0, []⟩ x2).wellFormed = false)
      ∧ (∀ x2, (Instr.cnTxreq (.port 2 false) 0 x2).wellFormed = false)
      ∧ (∀ x2, (Instr.cnTxreq (.port 0 true) 16 x2).wellFormed = false)
      ∧ (∀ x2, (Instr.cnTxabort (.port 2 false) 0 x2).wellFormed = false)
      ∧ (∀ x2, (Instr.cnTxabort (.port 0 true) 16 x2).wellFormed = false)
      ∧ ((Instr.canTransmitAttempt 16).wellFormed = false)
      ∧ ((Instr.canFrameTransmitted 16).wellFormed = false)
      ∧ ((Instr.canErrorStateChange 16 0 0 0).wellFormed = false)
      ∧ ((Instr.canErrorStateChange 0 512 0 0).wellFormed = false)
      ∧ ((Instr.canErrorStateChange 0 0 512 0).wellFormed = false)
      ∧ ((Instr.canErrorStateChange 0 0 0 8).wellFormed = false)
      ∧ ((Instr.canBusOffRecovery 16).wellFormed = false) := by
  and_intros <;> intros <;> rfl

theorem test_wellFormed_refuses_7 :
    (∀ x2 x3, (Instr.canObjectWrite (.port 2 false) 0 x2 x3).wellFormed = false)
      ∧ (∀ x2 x3, (Instr.canObjectWrite (.port 0 true) 67108864 x2 x3).wellFormed = false)
      ∧ ((Instr.canReferenceDue 16).wellFormed = false)
      ∧ (∀ x2, (Instr.fdLinkEnable (.port 2 false) 0 x2).wellFormed = false)
      ∧ (∀ x2, (Instr.fdLinkEnable (.port 0 true) 4 x2).wellFormed = false)
      ∧ (∀ x2, (Instr.fdLinkDisable (.port 2 false) 0 x2).wellFormed = false)
      ∧ (∀ x2, (Instr.fdLinkDisable (.port 0 true) 4 x2).wellFormed = false)
      ∧ (∀ x1, (Instr.fdCtlDomenWrite (.port 2 false) x1).wellFormed = false)
      ∧ (∀ x1, (Instr.phyrdyChange 4 x1).wellFormed = false)
      ∧ ((Instr.trainCell 4 full).wellFormed = false)
      ∧ ((Instr.trainCell 0 torn).wellFormed = false)
      ∧ ((Instr.trainingTimeout 4).wellFormed = false)
      ∧ ((Instr.linkRetrain 4).wellFormed = false)
      ∧ ((Instr.idleCell 4 full).wellFormed = false)
      ∧ ((Instr.idleCell 0 torn).wellFormed = false)
      ∧ ((Instr.sequencedCellReceived 4 full).wellFormed = false)
      ∧ ((Instr.sequencedCellReceived 0 torn).wellFormed = false)
      ∧ ((Instr.resendTimeout 4).wellFormed = false)
      ∧ ((Instr.elasticBufferSlip 4).wellFormed = false)
      ∧ ((Instr.linkctlBondsync 4).wellFormed = false)
      ∧ (∀ x1, (Instr.fdCtlEnum (.port 2 false) x1).wellFormed = false)
      ∧ ((Instr.enumOffer 4 full).wellFormed = false)
      ∧ ((Instr.enumOffer 0 torn).wellFormed = false)
      ∧ ((Instr.enumDone 4 full).wellFormed = false)
      ∧ ((Instr.enumDone 0 torn).wellFormed = false)
      ∧ ((Instr.enumRej 4 full).wellFormed = false)
      ∧ ((Instr.enumRej 0 torn).wellFormed = false)
      ∧ ((Instr.enumMaster 4 full).wellFormed = false)
      ∧ ((Instr.enumMaster 0 torn).wellFormed = false)
      ∧ ((Instr.timeExchangeDue 4).wellFormed = false)
      ∧ (∀ x3, (Instr.timeDreq 4 full 0 x3).wellFormed = false)
      ∧ (∀ x3, (Instr.timeDreq 0 torn 0 x3).wellFormed = false)
      ∧ (∀ x3, (Instr.timeDreq 0 full 8 x3).wellFormed = false)
      ∧ ((Instr.timeDresp 4 full 0).wellFormed = false)
      ∧ ((Instr.timeDresp 0 torn 0).wellFormed = false)
      ∧ ((Instr.timeDresp 0 full 8).wellFormed = false)
      ∧ ((Instr.timeSync 4 full 0).wellFormed = false)
      ∧ ((Instr.timeSync 0 torn 0).wellFormed = false)
      ∧ ((Instr.timeSync 0 full 8).wellFormed = false)
      ∧ (∀ x1, (Instr.fedJoin (.port 2 false) x1).wellFormed = false)
      ∧ (∀ x1, (Instr.fedLeave (.port 2 false) x1).wellFormed = false)
      ∧ ((Instr.pubReceived 4 full).wellFormed = false)
      ∧ ((Instr.pubReceived 0 torn).wellFormed = false)
      ∧ ((Instr.mgmtMessageReceived 4 full).wellFormed = false)
      ∧ ((Instr.mgmtMessageReceived 0 torn).wellFormed = false)
      ∧ (∀ x1, (Instr.miEnable (.port 2 false) x1).wellFormed = false)
      ∧ (∀ x1, (Instr.miDisable (.port 2 false) x1).wellFormed = false)
      ∧ ((Instr.mirrorHello 4 full).wellFormed = false) := by
  and_intros <;> intros <;> rfl

theorem test_wellFormed_refuses_8 :
    ((Instr.mirrorHello 0 torn).wellFormed = false)
      ∧ ((Instr.mirrorFrzReceived 4 full).wellFormed = false)
      ∧ ((Instr.mirrorFrzReceived 0 torn).wellFormed = false)
      ∧ ((Instr.mirrorCmt 8).wellFormed = false)
      ∧ ((Instr.mirrorHeartbeatMiss 8).wellFormed = false)
      ∧ (∀ x1, (Instr.miResync (.port 2 false) x1).wellFormed = false)
      ∧ ((Instr.mirrorRsreq 4 full).wellFormed = false)
      ∧ ((Instr.mirrorRsreq 0 torn).wellFormed = false)
      ∧ ((Instr.mirrorBulk 4 full).wellFormed = false)
      ∧ ((Instr.mirrorBulk 0 torn).wellFormed = false)
      ∧ ((Instr.faultOccurrence 128).wellFormed = false)
      ∧ ((Instr.faultWindowExpiry 128).wellFormed = false)
      ∧ (∀ x2, (Instr.fcAck (.port 2 false) 0 x2).wellFormed = false)
      ∧ (∀ x2, (Instr.fcAck (.port 0 true) 4 x2).wellFormed = false)
      ∧ (∀ x2, (Instr.fcStatClear (.port 2 false) 0 x2).wellFormed = false)
      ∧ (∀ x2, (Instr.fcStatClear (.port 0 true) 4 x2).wellFormed = false)
      ∧ ((Instr.fcScfgForce (.port 2 false) 0).wellFormed = false)
      ∧ ((Instr.fcScfgForce (.port 0 true) 128).wellFormed = false)
      ∧ ((Instr.fcRctlRelease (.port 2 false)).wellFormed = false)
      ∧ ((Instr.tlFcackAck (.port 2 false) 0 0).wellFormed = false)
      ∧ ((Instr.tlFcackAck (.port 0 true) 8 0).wellFormed = false)
      ∧ ((Instr.tlFcackAck (.port 0 true) 0 128).wellFormed = false)
      ∧ ((Instr.tlFcackClr (.port 2 false) 0 0).wellFormed = false)
      ∧ ((Instr.tlFcackClr (.port 0 true) 8 0).wellFormed = false)
      ∧ ((Instr.tlFcackClr (.port 0 true) 0 128).wellFormed = false)
      ∧ (∀ x2, (Instr.apertureRelease (.port 2 false) 0 x2).wellFormed = false)
      ∧ (∀ x2, (Instr.apertureRelease (.port 0 true) 1048576 x2).wellFormed = false)
      ∧ ((Instr.apRsvRequest (.port 2 false) 0 0).wellFormed = false)
      ∧ ((Instr.apRsvRequest (.port 0 true) 8 0).wellFormed = false)
      ∧ ((Instr.apRsvRequest (.port 0 true) 0 1024).wellFormed = false)
      ∧ ((Instr.apRsvRelease (.port 2 false) 0).wellFormed = false)
      ∧ ((Instr.apRsvRelease (.port 0 true) 8).wellFormed = false)
      ∧ ((Instr.apPctlDoze (.port 2 false)).wellFormed = false)
      ∧ ((Instr.apPctlSleep (.port 2 false)).wellFormed = false)
      ∧ ((Instr.apPctlOff (.port 2 false)).wellFormed = false)
      ∧ ((Instr.apPctlWake (.port 2 false)).wellFormed = false)
      ∧ ((Instr.dozeWake (.gauze 8)).wellFormed = false)
      ∧ ((Instr.sleepWake (.gauze 8)).wellFormed = false)
      ∧ (∀ x1, (Instr.apTileenWrite (.port 2 false) x1).wellFormed = false)
      ∧ ((Instr.upCmdSend (.port 2 false)).wellFormed = false)
      ∧ ((Instr.upCmdActivate (.port 2 false)).wellFormed = false)
      ∧ ((Instr.upCmdConfirm (.port 2 false)).wellFormed = false)
      ∧ (∀ x1, (Instr.upCmdFallback (.port 2 false) x1).wellFormed = false)
      ∧ ((Instr.upCmdDiscard (.port 2 false)).wellFormed = false)
      ∧ (∀ x2, (Instr.dbThalt (.port 2 false) 0 x2).wellFormed = false)
      ∧ (∀ x2, (Instr.dbThalt (.port 0 true) 8 x2).wellFormed = false)
      ∧ (∀ x2, (Instr.dbTres (.port 2 false) 0 x2).wellFormed = false)
      ∧ (∀ x2, (Instr.dbTres (.port 0 true) 8 x2).wellFormed = false) := by
  and_intros <;> intros <;> rfl

theorem test_wellFormed_refuses_9 :
    (∀ x2, (Instr.dbTstep (.port 2 false) 0 x2).wellFormed = false)
      ∧ (∀ x2, (Instr.dbTstep (.port 0 true) 8 x2).wellFormed = false)
      ∧ ((Instr.dbTileHalt (.port 2 false) 0).wellFormed = false)
      ∧ ((Instr.dbTileHalt (.port 0 true) 8).wellFormed = false)
      ∧ ((Instr.dbTileResume (.port 2 false) 0).wellFormed = false)
      ∧ ((Instr.dbTileResume (.port 0 true) 8).wellFormed = false)
      ∧ ((Instr.dbBlkHalt (.port 2 false)).wellFormed = false)
      ∧ ((Instr.dbBlkResume (.port 2 false)).wellFormed = false)
      ∧ (∀ x1, (Instr.dbChabort (.port 2 false) x1).wellFormed = false)
      ∧ (∀ x2 x3, (Instr.debugStateAccess (.port 2 false) 0 x2 x3).wellFormed = false)
      ∧ (∀ x2 x3, (Instr.debugStateAccess (.port 0 true) 1048576 x2 x3).wellFormed = false)
      ∧ ((Instr.faultInFall 16).wellFormed = false)
      ∧ ((Instr.failedTrainingRestart 4).wellFormed = false)
      ∧ ((Instr.bankRetentionReturn (.bank 32)).wellFormed = false)
      ∧ ((Instr.digestEngineEnd 8).wellFormed = false) := by
  and_intros <;> intros <;> rfl

/-- Operands that are too long. -/
theorem test_wellFormed_refuses_lengths :
    (∀ i x1 h, 2048 < h.bytes.length → (Instr.load i x1 h).wellFormed = false)
      ∧ (∀ i x1 h, 2048 < h.bytes.length → (Instr.vectorLoad i x1 h).wellFormed = false)
      ∧ (∀ i x1 h, 2048 < h.bytes.length → (Instr.vectorGather i x1 h).wellFormed = false)
      ∧ (∀ p halfwords x2, 32 < halfwords.length → (Instr.summaryLineArrival p halfwords x2).wellFormed = false)
      ∧ (∀ p h words x3, 128 < words.length → (Instr.doorbellLineArrival p h words x3).wellFormed = false)
      ∧ (∀ p r words x3, 128 < words.length → (Instr.descriptorArrival p r words x3).wellFormed = false)
      ∧ (∀ p r data x3, 16777216 ≤ data.length → (Instr.imgInDescriptor p r data x3).wellFormed = false)
      ∧ (∀ p r data x3, 16777216 ≤ data.length → (Instr.streamTxDescriptor p r data x3).wellFormed = false)
      ∧ (∀ p r data x3, 16777216 ≤ data.length → (Instr.msgTxDescriptor p r data x3).wellFormed = false)
      ∧ (∀ p r data x3, 16777216 ≤ data.length → (Instr.mgmtEditDescriptor p r data x3).wellFormed = false)
      ∧ (∀ p r data x3, 16777216 ≤ data.length → (Instr.mgmtMessageDescriptor p r data x3).wellFormed = false)
      ∧ (∀ data x1, 16777216 ≤ data.length → (Instr.updateStageEnd data x1).wellFormed = false)
      ∧ (∀ data x1, 16777216 ≤ data.length → (Instr.fallbackRestoreEnd data x1).wellFormed = false) := by
  and_intros <;> intros <;> first
    | exact Bool.and_eq_false_iff.2 (.inr (decide_eq_false (by omega)))
    | exact decide_eq_false (by omega)
end Sys2Proof.Tests
end

section
/-! SUPPORT. How a completed instruction that writes registers only leaves the state, with the loop-back of R126 apart from
the registers that it writes; and the writes of a general register and of ISTAT. -/

namespace Sys2Proof.Machine

/-! ### Lists of register changes -/

theorem mget_append {κ α : Type} [DecidableEq κ] (m m' : Map κ α) (d : α) (k : κ) :
    mget (m ++ m') d k = mget m (mget m' d k) k := by
  induction m with
  | nil => rfl
  | cons x m ih =>
    by_cases h : x.1 = k
    · simp [mget, h]
    · simp [mget, h, ih]

theorem mget_of_no_key {κ α : Type} [DecidableEq κ] {m : Map κ α} {k : κ} (d : α) (h : ∀ x ∈ m, x.1 ≠ k) :
    mget m d k = d := by
  induction m with
  | nil => rfl
  | cons x m ih =>
    rw [List.forall_mem_cons] at h
    simp [mget, h.1, ih h.2]

/-- Changes of registers that no key of the two lists shares may be made in either order. -/
theorem mget_append_comm {κ α : Type} [DecidableEq κ] {m m' : Map κ α} (h : ∀ x ∈ m, ∀ y ∈ m', x.1 ≠ y.1)
    (d : α) (k : κ) :
    mget (m ++ m') d k = mget (m' ++ m) d k := by
  rw [mget_append, mget_append]
  by_cases hk : ∃ x ∈ m, x.1 = k
  · obtain ⟨x, hx, rfl⟩ := hk
    have hm' : ∀ e, mget m' e x.1 = e := fun e => mget_of_no_key e fun y hy => (h x hx y hy).symm
    rw [hm', hm']
  · have hm : ∀ x ∈ m, x.1 ≠ k := fun x hx he => hk ⟨x, hx, he⟩
    rw [mget_of_no_key _ hm, mget_of_no_key _ hm]

theorem State.regsBecome.trans {s t u : State} {ch ch' : List (Reg × Word)} (h : s.regsBecome t ch)
    (h' : t.regsBecome u ch') : s.regsBecome u (ch' ++ ch) := by
  intro q
  rw [h' q, h q, mget_append]

theorem State.sameBeyondRegs.trans {s t u : State} (h : s.sameBeyondRegs t) (h' : t.sameBeyondRegs u) :
    s.sameBeyondRegs u :=
  Eq.trans (congrArg (fun x : State => { x with regs := s.regs }) h') h

theorem State.sameBeyondRegs.tiles_eq {s t : State} (h : s.sameBeyondRegs t) : t.tiles = s.tiles :=
  (congrArg State.tiles (show { t with regs := s.regs } = s from h) :)

theorem State.sameBeyondRegs.threads_eq {s t : State} (h : s.sameBeyondRegs t) : t.threads = s.threads :=
  (congrArg State.threads (show { t with regs := s.regs } = s from h) :)

/-- Bookkeeping of threads and tiles after a change of registers. -/
theorem State.sameBeyondRegs.trans_threads {s t u : State} (h : s.sameBeyondRegs t) (h' : t.sameBeyondThreads u) :
    s.sameBeyondThreads u := by
  unfold State.sameBeyondThreads at h' ⊢
  rw [h.tiles_eq, h.threads_eq] at h'
  exact Eq.trans (congrArg (fun x : State => { x with regs := s.regs }) h') h

theorem State.sameBeyondRegs.quiet_eq {s t : State} (h : s.sameBeyondRegs t) (T n : Nat) : t.quiet T n = s.quiet T n := by
  simp only [State.quiet, State.thread, h.threads_eq]

/-! ### The registers of the hardware loop (R126) -/

/-- The registers of a thread by which an instruction goes on: the PC, those of the hardware loop, and TH_STAT with DEPTH. -/
def flowReg (t n : Nat) (q : Reg) : Bool := pcReg t n q || q == .LSTART t n || q == .LEND t n || q == .TH_STAT t n

/-- No change of the list is of a register by which the thread goes on. -/
def leavesFlow (t n : Nat) (ch : List (Reg × Word)) : Prop := ∀ x ∈ ch, flowReg t n x.1 = false

theorem leavesFlow.append {t n : Nat} {ch ch' : List (Reg × Word)} (h : leavesFlow t n ch) (h' : leavesFlow t n ch') :
    leavesFlow t n (ch ++ ch') :=
  List.forall_mem_append.2 ⟨h, h'⟩

theorem State.regsBecome.rd_flow {s t : State} {T n : Nat} {ch : List (Reg × Word)} (h : s.regsBecome t ch)
    (hch : leavesFlow T n ch) {q : Reg} (hq : flowReg T n q = true) : t.rd q = s.rd q := by
  rw [h q]
  refine mget_of_no_key _ fun x hx hk => ?_
  rw [← hk, hch x hx] at hq
  cases hq

theorem State.regsBecome.loopRegs_eq {s t : State} {T n : Nat} {ch : List (Reg × Word)} (h : s.regsBecome t ch)
    (hch : leavesFlow T n ch) : t.loopRegs T n = s.loopRegs T n := by
  have hpc : t.rd (.TH_PC T n) = s.rd (.TH_PC T n) := h.rd_flow hch (by simp [flowReg, pcReg])
  have hcount : t.rd (.LCOUNT T n) = s.rd (.LCOUNT T n) := h.rd_flow hch (by simp [flowReg, pcReg])
  have hctl : t.rd (.LCTL T n) = s.rd (.LCTL T n) := h.rd_flow hch (by simp [flowReg, pcReg])
  have hstart : t.rd (.LSTART T n) = s.rd (.LSTART T n) := h.rd_flow hch (by simp [flowReg])
  have hend : t.rd (.LEND T n) = s.rd (.LEND T n) := h.rd_flow hch (by simp [flowReg])
  have hstat : t.rd (.TH_STAT T n) = s.rd (.TH_STAT T n) := h.rd_flow hch (by simp [flowReg])
  unfold State.loopRegs State.atLoopEnd State.depth State.flag State.field
  rw [hpc, hcount, hctl, hstart, hend, hstat]

theorem loopRegs_keys (s : State) (t n : Nat) : ∀ x ∈ s.loopRegs t n, flowReg t n x.1 = true := by
  unfold State.loopRegs
  split
  · split <;> simp [flowReg, pcReg]
  · simp [flowReg, pcReg]

/-! ### Completion -/

/-- An instruction that begins, and whose body completes with registers changed only, none of them the PC or of the hardware
loop, has completed with those changes and the loop-back of R126. -/
theorem insn_completes {s s' s₁ : State} {i : Issue} {w : Word} {r : Row} {body : State → InsnEnd} {occ : Nat}
    {ch : List (Reg × Word)} (hb : s.begins i w r = some s') (hq : s'.quiet i.tile i.thread = true)
    (hbody : body s' = .done s₁ occ) (hregs : s'.regsBecome s₁ ch) (hbeyond : s'.sameBeyondRegs s₁)
    (hch : leavesFlow i.tile i.thread ch) :
    ∃ t, insn s i w r body = .next t ∧ s'.completed t i ch occ := by
  have hpc : s'.rd (.TH_PC i.tile i.thread) = s₁.rd (.TH_PC i.tile i.thread) :=
    (hregs.rd_flow hch (by simp [flowReg, pcReg])).symm
  obtain ⟨hbecome, hthreads, hready⟩ :=
    retire_done (s := s') (i := i) (w := w) (occ := occ) ((hbeyond.quiet_eq _ _).trans hq)
  rw [List.nil_append, hregs.loopRegs_eq hch] at hbecome
  refine ⟨_, insn_of_begins body hb, ?_⟩
  simp only [hbody, hpc]
  refine ⟨fun q => ?_, hbeyond.trans_threads hthreads, hready⟩
  rw [hregs.trans hbecome q]
  refine mget_append_comm (fun x hx y hy hxy => ?_) _ _
  have := loopRegs_keys s' i.tile i.thread x hx
  rw [hxy, hch y hy] at this
  cases this

/-! ### Writes of a general register and of ISTAT -/

theorem setG_regsBecome (s : State) (t n d : Nat) (v : Word) : s.regsBecome (s.setG t n d v) (gset t n d v) := by
  intro q
  unfold State.setG gset
  split
  · rfl
  · simp [mget, eq_comm]

theorem setG_beyond (s : State) (t n d : Nat) (v : Word) : s.sameBeyondRegs (s.setG t n d v) := by
  unfold State.setG
  split <;> rfl

theorem gset_leavesFlow (t n d : Nat) (v : Word) (T m : Nat) : leavesFlow T m (gset t n d v) := by
  unfold gset
  split <;> simp [leavesFlow, flowReg, pcReg]

/-- Setting a bit is the bitwise or with its mask. -/
theorem setBit_true {k : Nat} (x : BitVec k) (j : Nat) : setBit x j true = x ||| fldMask k j 1 := by
  have hor : ∀ m : BitVec k, (x &&& ~~~m) ||| m = x ||| m := by
    intro m
    ext b hb
    cases hm : m[b] <;> simp [hm]
  exact hor (fldMask k j 1)

/-- ISTAT with the flags SAT and DZ of one operation set. -/
def istatWith (v : Word) (sat dz : Bool) : Word := v ||| (if sat then 1 else 0) ||| (if dz then 2 else 0)

theorem setIstat_regsBecome (s : State) (t n : Nat) (sat dz : Bool) :
    s.regsBecome (s.setIstat t n sat dz) [(.ISTAT t n, istatWith (s.rd (.ISTAT t n)) sat dz)] := by
  have h0 : fldMask 32 0 1 = 1#32 := rfl
  have h1 : fldMask 32 1 1 = 2#32 := rfl
  intro q
  by_cases hq : q = .ISTAT t n
  · subst hq
    cases sat <;> cases dz <;> simp [State.setIstat, State.setFlag, istatWith, mget, setBit_true, h0, h1]
  · cases sat <;> cases dz <;> simp [State.setIstat, State.setFlag, mget, hq, Ne.symm hq]

theorem setIstat_beyond (s : State) (t n : Nat) (sat dz : Bool) : s.sameBeyondRegs (s.setIstat t n sat dz) := by
  cases sat <;> cases dz <;> rfl

theorem istat_leavesFlow (t n : Nat) (v : Word) (T m : Nat) : leavesFlow T m [(.ISTAT t n, v)] := by
  simp [leavesFlow, flowReg, pcReg]

end Sys2Proof.Machine
end

section
/-! SUPPORT. The arithmetic of the integer instructions against the tables of R119, R120 and R122. -/

namespace Sys2Proof.Machine

/-! ### Words and integers -/

theorem toInt_wordI {r : Int} (hlo : -2147483648 ≤ r) (hhi : r ≤ 2147483647) : (wordI r).toInt = r := by
  rw [wordI, BitVec.toInt_ofInt, Int.bmod_eq_of_le] <;> omega

theorem toNat_wordI {r : Int} (hlo : 0 ≤ r) (hhi : r ≤ 4294967295) : ((wordI r).toNat : Int) = r := by
  rw [wordI, BitVec.toNat_ofInt]
  omega

theorem word_setWidth {n v : Nat} (h : v < 2 ^ n) : word v = (BitVec.ofNat n v).setWidth 32 := by
  apply BitVec.eq_of_toNat_eq
  rw [word, BitVec.toNat_setWidth, BitVec.toNat_ofNat, BitVec.toNat_ofNat, Nat.mod_eq_of_lt h]

theorem sext_eq_signExtend (n v : Nat) (hn : 0 < n) : sext n v = (BitVec.ofNat n v).signExtend 32 := by
  have hpow : 2 ^ n = 2 * 2 ^ (n - 1) := by rw [← Nat.pow_add_one', Nat.sub_add_cancel hn]
  rw [sext, wordI, BitVec.signExtend, BitVec.toInt_eq_toNat_cond, BitVec.toNat_ofNat, sextNat, hpow]
  simp only [← Nat.not_lt, ite_not, Nat.mul_lt_mul_left Nat.two_pos]

theorem toInt_sshiftRight_div (a : Word) (k : Nat) : (a.sshiftRight k).toInt = a.toInt / 2 ^ k := by
  rw [BitVec.toInt_sshiftRight, Int.shiftRight_eq_div_pow]; norm_cast

theorem toNat_shiftLeft_mul (a : Word) (k : Nat) : (a <<< k).toNat = a.toNat * 2 ^ k % 2 ^ 32 := by
  rw [BitVec.toNat_shiftLeft, Nat.shiftLeft_eq]

theorem toNat_ushiftRight_div (a : Word) (k : Nat) : (a >>> k).toNat = a.toNat / 2 ^ k := by
  rw [BitVec.toNat_ushiftRight, Nat.shiftRight_eq_div_pow]

/-- The high word of a signed product is in range. -/
theorem toInt_mulHigh (a b : Word) : (wordI (a.toInt * b.toInt / 2 ^ 32)).toInt = a.toInt * b.toInt / 2 ^ 32 := by
  have ha := BitVec.toInt_lt (x := a)
  have ha' := BitVec.le_toInt a
  have hb := BitVec.toInt_lt (x := b)
  have hb' := BitVec.le_toInt b
  have habs : (a.toInt * b.toInt).natAbs ≤ 2 ^ 31 * 2 ^ 31 := by
    rw [Int.natAbs_mul]
    exact Nat.mul_le_mul (by omega) (by omega)
  exact toInt_wordI (by omega) (by omega)

theorem toNat_mulHigh (a b : Word) : (word (a.toNat * b.toNat / 2 ^ 32)).toNat = a.toNat * b.toNat / 2 ^ 32 := by
  have h := Nat.mul_lt_mul'' a.isLt b.isLt
  rw [word, BitVec.toNat_ofNat, Nat.mod_eq_of_lt]
  omega

/-! ### Saturation (R120) -/

theorem clampRes_sat (lo hi r : Int) : (clampRes lo hi r).sat = decide (r < lo ∨ hi < r) := by
  unfold clampRes
  split
  · simp [*]
  · split <;> simp [plainRes, *]

theorem clampRes_val {lo hi : Int} (r : Int) (h : lo ≤ hi) : (clampRes lo hi r).val = wordI (Spec.clamp lo hi r) := by
  unfold clampRes Spec.clamp
  split
  · have hc : max lo (min hi r) = hi := by omega
    rw [hc]
  · split
    · have hc : max lo (min hi r) = lo := by omega
      rw [hc]
    · have hc : max lo (min hi r) = r := by omega
      rw [hc, plainRes]

theorem clamp_mem {lo hi : Int} (r : Int) (h : lo ≤ hi) : lo ≤ Spec.clamp lo hi r ∧ Spec.clamp lo hi r ≤ hi := by
  unfold Spec.clamp
  omega

theorem toInt_clampRes (r : Int) :
    (clampRes (-0x80000000) 0x7FFFFFFF r).val.toInt = Spec.clamp (-0x80000000) 0x7FFFFFFF r := by
  obtain ⟨hlo, hhi⟩ := clamp_mem (lo := -0x80000000) (hi := 0x7FFFFFFF) r (by decide)
  rw [clampRes_val r (by decide), toInt_wordI hlo hhi]

theorem toNat_clampRes (r : Int) : ((clampRes 0 0xFFFFFFFF r).val.toNat : Int) = Spec.clamp 0 0xFFFFFFFF r := by
  obtain ⟨hlo, hhi⟩ := clamp_mem (lo := 0) (hi := 0xFFFFFFFF) r (by decide)
  rw [clampRes_val r (by decide), toNat_wordI hlo hhi]

/-! ### Minima and maxima -/

theorem toInt_minS (a b : Word) : (if a.toInt < b.toInt then a else b).toInt = min a.toInt b.toInt := by
  split <;> omega

theorem toInt_maxS (a b : Word) : (if a.toInt < b.toInt then b else a).toInt = max a.toInt b.toInt := by
  split <;> omega

theorem toNat_minU (a b : Word) : (if a.toNat < b.toNat then a else b).toNat = min a.toNat b.toNat := by
  split <;> omega

theorem toNat_maxU (a b : Word) : (if a.toNat < b.toNat then b else a).toNat = max a.toNat b.toNat := by
  split <;> omega

/-! ### Division (R120) -/

/-- The signed overflow of R120 is what the exact quotient and remainder give modulo 2^32. -/
theorem divRem_signed (a b : Word) : divRem true a b = if b = 0 then (0xFFFFFFFF, a, true)
    else (BitVec.ofInt 32 (a.toInt.tdiv b.toInt), BitVec.ofInt 32 (a.toInt.tmod b.toInt), false) := by
  unfold divRem
  split
  · rfl
  · split
    · rename_i h
      simp only [Bool.true_and, Bool.and_eq_true, beq_iff_eq] at h
      obtain ⟨rfl, rfl⟩ := h
      decide
    · rfl

theorem divRem_unsigned (a b : Word) : divRem false a b = if b = 0 then (0xFFFFFFFF, a, true)
    else (BitVec.ofNat 32 (a.toNat / b.toNat), BitVec.ofNat 32 (a.toNat % b.toNat), false) := rfl

theorem divRem_dz (sgn : Bool) (a b : Word) : (divRem sgn a b).2.2 = (b == 0) := by
  by_cases hb : b = 0
  · subst hb; rfl
  · rw [beq_false_of_ne hb]
    cases sgn
    · rw [divRem_unsigned, if_neg hb]
    · rw [divRem_signed, if_neg hb]

/-! ### The tables (R119, R120, R122) -/

theorem boolRes_val (c : Bool) : (boolRes c).val = if c then 1 else 0 := rfl

/-- `intOp` gives the value of the table of R119. -/
theorem intOp_val (f : Nat) (a b : Word) : Spec.aluRule f a b (intOp f a b).val := by
  unfold Spec.aluRule
  refine ⟨?add, ?sub, ?and, ?or, ?xor, ?sll, ?srl, ?sra, ?seq, ?sne, ?slt, ?sltu, ?min, ?max, ?minu, ?maxu, ?sadd, ?ssub,
    ?uadd, ?usub, ?mul, ?mulh, ?mulhu, ?div, ?divu, ?rem, ?remu⟩ <;> rintro rfl
  case add | sub | and | or | xor => rfl
  case sll => exact toNat_shiftLeft_mul a _
  case srl => exact toNat_ushiftRight_div a _
  case sra => exact toInt_sshiftRight_div a _
  case seq | sne | slt | sltu => simp [intOp, boolRes_val]
  case min => exact toInt_minS a b
  case max => exact toInt_maxS a b
  case minu => exact toNat_minU a b
  case maxu => exact toNat_maxU a b
  case sadd | ssub => exact toInt_clampRes _
  case uadd | usub => exact toNat_clampRes _
  case mul => exact BitVec.toNat_mul a b
  case mulh => exact toInt_mulHigh a b
  case mulhu => exact toNat_mulHigh a b
  case div =>
    show (divRem true a b).1 = _
    rw [divRem_signed, apply_ite Prod.fst]
  case divu =>
    show (divRem false a b).1 = _
    rw [divRem_unsigned, apply_ite Prod.fst]
  case rem =>
    show (divRem true a b).2.1 = _
    rw [divRem_signed, apply_ite Prod.snd, apply_ite Prod.fst]
  case remu =>
    show (divRem false a b).2.1 = _
    rw [divRem_unsigned, apply_ite Prod.snd, apply_ite Prod.fst]

theorem clampRes_dz (lo hi r : Int) : (clampRes lo hi r).dz = false := by
  unfold clampRes
  split
  · rfl
  · split <;> rfl

/-- Outside the four saturating functs no result saturates. -/
theorem intOp_sat_of_not_saturating {f : Nat} (a b : Word) (h : f < 0x10 ∨ 0x13 < f) : (intOp f a b).sat = false := by
  have hadd : f ≠ 0x10 ∧ f ≠ 0x11 ∧ f ≠ 0x12 ∧ f ≠ 0x13 := by omega
  simp only [intOp, hadd, if_false, apply_ite IntRes.sat, plainRes, boolRes, ite_self]

/-- `intOp` flags SAT where the exact result is out of range (R120). -/
theorem intOp_sat (f : Nat) (a b : Word) : (intOp f a b).sat = Spec.saturates f a b := by
  by_cases hf : f < 0x10 ∨ 0x13 < f
  · have hspec : Spec.saturates f a b = false := by
      simp (disch := omega) only [Spec.saturates, beq_false_of_ne, Bool.false_and, Bool.or_false]
    rw [intOp_sat_of_not_saturating a b hf, hspec]
  · obtain rfl | rfl | rfl | rfl : f = 0x10 ∨ f = 0x11 ∨ f = 0x12 ∨ f = 0x13 := by omega
    · exact (clampRes_sat _ _ _).trans (by simp [Spec.saturates])
    · exact (clampRes_sat _ _ _).trans (by simp [Spec.saturates])
    · have hspec : Spec.saturates 0x12 a b = decide (0xFFFFFFFF < a.toNat + b.toNat) := by simp [Spec.saturates]
      rw [hspec]
      exact (clampRes_sat _ _ _).trans (decide_eq_decide.2 (by omega))
    · have hspec : Spec.saturates 0x13 a b = decide (a.toNat < b.toNat) := by simp [Spec.saturates]
      rw [hspec]
      exact (clampRes_sat _ _ _).trans (decide_eq_decide.2 (by omega))

theorem intOp_dz_of_not_division {f : Nat} (a b : Word) (h : f ≤ 0x13 ∨ f = 0x20 ∨ f = 0x21 ∨ f = 0x22) :
    (intOp f a b).dz = false := by
  simp only [intOp, apply_ite IntRes.dz, plainRes, boolRes, clampRes_dz, ite_eq_left_iff]
  intros
  omega

theorem intOp_dz_of_division {f : Nat} (a b : Word) (h : 0x24 ≤ f) : (intOp f a b).dz = (b == 0) := by
  have hne : ∀ k < 0x24, f ≠ k := by omega
  simp only [intOp, Nat.reduceLT, hne, if_false, apply_ite IntRes.dz, divRem_dz, ite_self]

/-- `intOp` flags DZ for a division or remainder by 0 (R120), of the functs that R119 defines. -/
theorem intOp_dz {f : Nat} (a b : Word) (hf : intRegFunct f = true) : (intOp f a b).dz = Spec.dividesByZero f b := by
  by_cases hdiv : 0x24 ≤ f
  · rw [Spec.dividesByZero, decide_eq_true hdiv, Bool.true_and, intOp_dz_of_division a b hdiv]
  · simp only [intRegFunct, Bool.or_eq_true, decide_eq_true_eq, beq_iff_eq] at hf
    rw [Spec.dividesByZero, decide_eq_false hdiv, Bool.false_and, intOp_dz_of_not_division a b (by omega)]

/-- `immOp` gives the value of the table of R122. -/
theorem immOp_val (f : Nat) (a : Word) {imm : Nat} (himm : imm < 2 ^ 12) :
    Spec.immRule f a (BitVec.ofNat 12 imm) (immOp f a imm) := by
  have hnat : (BitVec.ofNat 12 imm).toNat = imm := by rw [BitVec.toNat_ofNat, Nat.mod_eq_of_lt himm]
  unfold Spec.immRule
  rw [← sext_eq_signExtend 12 imm (by decide), ← word_setWidth himm, hnat]
  refine ⟨?add, ?and, ?or, ?xor, ?slt, ?sltu, ?sll, ?srl, ?sra⟩ <;> rintro rfl
  case add | and | or | xor | slt | sltu => rfl
  case sll => exact toNat_shiftLeft_mul a _
  case srl => exact toNat_ushiftRight_div a _
  case sra => exact toInt_sshiftRight_div a _

/-! ### The row of the integer register operations -/

theorem rowIf_eq_some {c : Bool} {r r' : Row} : rowIf c r = some r' ↔ c = true ∧ r = r' := by
  cases c <;> simp only [rowIf, if_true, if_false, Bool.false_eq_true, reduceCtorEq, Option.some.injEq, true_and, false_and]

theorem ite_eq_cases {α : Type} {p : Prop} [Decidable p] {x y z : α} :
    (if p then x else y) = z ↔ (p ∧ x = z) ∨ (¬ p ∧ y = z) := by
  by_cases h : p <;> simp only [h, if_true, if_false, true_and, false_and, not_true, not_false_iff, or_false, false_or]

theorem rowBit_ne_intReg (w : Word) : rowBit w ≠ some .intReg := by
  unfold rowBit
  split
  · exact nofun
  · simp only [ne_eq, rowIf_eq_some, reduceCtorEq, and_false, not_false_iff]

theorem rowAcc_ne_intReg (w : Word) : rowAcc w ≠ some .intReg := by
  unfold rowAcc
  split
  · exact nofun
  · exact fun h => absurd (List.mem_of_getElem? h) (by decide)

theorem rowLvu_ne_intReg (w : Word) : rowLvu w ≠ some .intReg := by
  simp only [rowLvu, rowVint, rowVfix, rowVmem, rowVidx, rowSfp, rowVfp, ne_eq, rowIf_eq_some, ite_eq_cases, reduceCtorEq,
    Option.some.injEq, and_false, or_false, not_false_iff]

/-- Only opcode 0x01 decodes to the integer register operations, with a funct of R119. -/
theorem rowOf_eq_intReg {w : Word} (h : rowOf w = some .intReg) : opcode w = 0x01 ∧ intRegFunct (fR w) = true := by
  by_cases ho : opcode w = 0x01
  · simp only [rowOf, ho, if_true, rowIf_eq_some] at h
    exact ⟨ho, h.1⟩
  · simp only [rowOf, ho, if_false, rowExt, rowAmo, rowMov, rowSys, rowChan, rowUnit, rowCsr, ite_eq_cases, rowIf_eq_some,
      rowLvu_ne_intReg, rowBit_ne_intReg, rowAcc_ne_intReg, reduceCtorEq, Option.some.injEq, and_false, or_false] at h

end Sys2Proof.Machine
end

section
/-! THEOREM. The integer register and immediate operations (R119 to R122). -/

namespace Sys2Proof.Machine

/-- The row of a word that begins. -/
theorem rowOf_of_begins {s s' : State} {i : Issue} {w : Word} {r : Row} (h : s.begins i w r = some s') :
    rowOf w = some r := by
  unfold State.begins at h
  split at h
  · split at h
    · split at h
      · rename_i hb
        simp only [Bool.and_eq_true, beq_iff_eq] at hb
        exact hb.2
      · cases h
    · cases h
  · cases h

theorem exec_integerRegisterOp (i : Issue) (w : Word) (s : State) :
    exec (.integerRegisterOp i w) s = execIntegerRegisterOp i w s := rfl

theorem exec_integerImmediateOp (i : Issue) (w : Word) (s : State) :
    exec (.integerImmediateOp i w) s = execIntegerImmediateOp i w s := rfl

/-- The changes of INTEGER_REGISTER_OP: Gd, and the flags that R120 sets in ISTAT. -/
theorem integerRegisterOp_completes {s s' : State} {i : Issue} {w : Word} (hq : s'.quiet i.tile i.thread = true)
    (hb : s.begins i w .intReg = some s') :
    let r := intOp (fR w) (s'.g i.tile i.thread (fS1 w)) (s'.g i.tile i.thread (fS2 w))
    ∃ t, exec (.integerRegisterOp i w) s = .next t
      ∧ s'.completed t i (gset i.tile i.thread (fD w) r.val ++
          [(.ISTAT i.tile i.thread, istatWith (s'.rd (.ISTAT i.tile i.thread)) r.sat r.dz)])
          (if 0x24 ≤ fR w then 12 else 4) := by
  intro r
  rw [exec_integerRegisterOp]
  exact insn_completes hb hq rfl ((setIstat_regsBecome s' _ _ r.sat r.dz).trans (setG_regsBecome _ _ _ _ _))
    ((setIstat_beyond s' _ _ _ _).trans (setG_beyond _ _ _ _ _))
    ((gset_leavesFlow _ _ _ _ _ _).append (istat_leavesFlow _ _ _ _ _))

theorem integerImmediateOp_completes {s s' : State} {i : Issue} {w : Word} (hq : s'.quiet i.tile i.thread = true)
    (hb : s.begins i w .intImm = some s') :
    ∃ t, exec (.integerImmediateOp i w) s = .next t
      ∧ s'.completed t i
          (gset i.tile i.thread (fD w) (immOp (fI w) (s'.g i.tile i.thread (fS1 w)) (imm12 w))) 4 := by
  rw [exec_integerImmediateOp]
  exact insn_completes hb hq rfl (setG_regsBecome _ _ _ _ _) (setG_beyond _ _ _ _ _) (gset_leavesFlow _ _ _ _ _ _)

/-- Settles O6: the bodies write Gd and ISTAT only, so the completion is that of R126, and the values and flags are those of
the tables of R119, R120 and R122. -/
theorem integerResult : Obligations.IntegerResult := by
  intro s s' i w hq
  refine ⟨fun hb => ?_, fun hb => ?_⟩
  · obtain ⟨t, hexec, hdone⟩ := integerRegisterOp_completes hq hb
    have hf : intRegFunct (fR w) = true := (rowOf_eq_intReg (rowOf_of_begins hb)).2
    rw [intOp_sat, intOp_dz _ _ hf] at hdone
    exact ⟨t, _, hexec, intOp_val _ _ _, hdone⟩
  · obtain ⟨t, hexec, hdone⟩ := integerImmediateOp_completes hq hb
    exact ⟨t, _, hexec, immOp_val _ _ (Nat.mod_lt _ (by decide)), hdone⟩

end Sys2Proof.Machine
end

section
/-! SUPPORT. Bit fields: a field or a bit of a value in which a field was replaced. -/

namespace Sys2Proof.Machine

theorem testBit_fld {w : Nat} (x : BitVec w) (lo n j : Nat) :
    (fld x lo n).testBit j = (decide (j < n) && bit x (lo + j)) := by
  rw [fld, Nat.testBit_mod_two_pow, Nat.testBit_shiftRight, BitVec.testBit_toNat, bit]

/-- Fields are equal when their bits are. -/
theorem fld_congr {w : Nat} {x y : BitVec w} {lo n : Nat} (h : ∀ j < n, bit x (lo + j) = bit y (lo + j)) :
    fld x lo n = fld y lo n := by
  apply Nat.eq_of_testBit_eq
  intro j
  rw [testBit_fld, testBit_fld]
  by_cases hj : j < n
  · rw [h j hj]
  · simp [hj]

/-- The lowest bit of a field. -/
theorem fld_mod_two {w : Nat} (x : BitVec w) {lo n : Nat} (hn : 0 < n) : (fld x lo n % 2 == 1) = bit x lo := by
  have h : (fld x lo n).testBit 0 = bit x lo := by rw [testBit_fld, decide_eq_true hn, Bool.true_and, Nat.add_zero]
  rw [← h, Nat.testBit_zero]
  rfl

theorem bit_setFld {w lo n : Nat} (x : BitVec w) (v : Nat) {i : Nat} (hi : i < w) :
    bit (setFld x lo n v) i = if lo ≤ i ∧ i < lo + n then v.testBit (i - lo) else bit x i := by
  have hrange : i - lo < w := by omega
  simp only [bit, setFld, fldMask, BitVec.getLsbD_or, BitVec.getLsbD_and, BitVec.getLsbD_not, BitVec.getLsbD_shiftLeft,
    BitVec.getLsbD_ofNat, Nat.testBit_two_pow_sub_one, Nat.testBit_mod_two_pow, hi, hrange, decide_true, Bool.true_and]
  by_cases hlo : i < lo
  · simp [hlo, Nat.not_le.2 hlo]
  · by_cases hn : i - lo < n
    · simp [hlo, hn, Nat.not_lt.1 hlo, show i < lo + n by omega]
    · simp [hlo, hn, show ¬ i < lo + n by omega]

theorem bit_setFld_of_outside {w lo n i : Nat} (x : BitVec w) (v : Nat) (h : i < lo ∨ lo + n ≤ i) :
    bit (setFld x lo n v) i = bit x i := by
  by_cases hi : i < w
  · rw [bit_setFld x v hi, if_neg (by omega)]
  · rw [bit, bit, BitVec.getLsbD_of_ge _ _ (by omega), BitVec.getLsbD_of_ge _ _ (by omega)]

@[simp] theorem fld_setFld {w lo n : Nat} (x : BitVec w) (v : Nat) (h : lo + n ≤ w) :
    fld (setFld x lo n v) lo n = v % 2 ^ n := by
  apply Nat.eq_of_testBit_eq
  intro j
  rw [testBit_fld, Nat.testBit_mod_two_pow]
  by_cases hj : j < n
  · rw [bit_setFld x v (by omega), if_pos (by omega), Nat.add_sub_cancel_left]
  · simp [hj]

theorem fld_setFld_of_disjoint {w lo n lo' n' : Nat} (x : BitVec w) (v : Nat) (h : lo' + n' ≤ lo ∨ lo + n ≤ lo') :
    fld (setFld x lo n v) lo' n' = fld x lo' n' :=
  fld_congr fun _ _ => bit_setFld_of_outside x v (by omega)

@[simp] theorem bit_setBit {w i : Nat} (x : BitVec w) (b : Bool) (h : i < w) : bit (setBit x i b) i = b := by
  rw [setBit, bit_setFld x _ h, if_pos (by omega), Nat.sub_self]
  cases b <;> rfl

theorem bit_setBit_of_ne {w i j : Nat} (x : BitVec w) (b : Bool) (h : j ≠ i) : bit (setBit x i b) j = bit x j :=
  bit_setFld_of_outside x _ (by omega)

theorem fld_setBit_of_outside {w i lo n : Nat} (x : BitVec w) (b : Bool) (h : i < lo ∨ lo + n ≤ i) :
    fld (setBit x i b) lo n = fld x lo n :=
  fld_setFld_of_disjoint x _ (by omega)

end Sys2Proof.Machine
end

section
/-! SUPPORT. The bit stack in BITST (R141, R142): a push, a pop and a new ACC as changes of its fields. -/

namespace Sys2Proof.Machine

theorem bitStack_withAcc (b : Word) (a : Bool) : Spec.bitStack (withAcc b a) = { Spec.bitStack b with acc := a } := by
  simp (disch := omega) only [withAcc, Spec.bitStack, bit_setBit, bit_setBit_of_ne, fld_setBit_of_outside]

/-- A push at depth 8 sets SOVF, below that it counts DEPTH up; the stack shifts in both cases. -/
theorem bitStack_bitPush {b : Word} (x : Bool) (h : fld b 16 4 ≤ 8) :
    Spec.bitStack (bitPush b x) = (Spec.bitStack b).push x := by
  unfold bitPush Spec.BitStack.push Spec.bitStack
  by_cases hfull : fld b 16 4 = 8
  · simp (disch := omega) [hfull, bit_setFld_of_outside, fld_setFld_of_disjoint, bit_setBit_of_ne, fld_setBit_of_outside]
  · have hdepth : (fld b 16 4 + 1) % 16 = min 8 (fld b 16 4 + 1) := by omega
    simp (disch := omega) [hfull, hdepth, bit_setFld_of_outside, fld_setFld_of_disjoint]

/-- The bit popped is the top of the stack, and 0 from an empty one. -/
theorem bitPop_fst (b : Word) : (bitPop b).1 = (Spec.bitStack b).top := by
  have htop : (fld b 8 8 % 2 == 1) = bit b 8 := fld_mod_two b (by decide)
  simp only [bitPop, Spec.BitStack.top, Spec.bitStack, htop, apply_ite Prod.fst]

/-- A pop from an empty stack sets SUNF; any other shifts the stack down and counts DEPTH down. -/
theorem bitStack_bitPop (b : Word) : Spec.bitStack (bitPop b).2 = (Spec.bitStack b).drop := by
  unfold bitPop Spec.BitStack.drop Spec.bitStack
  by_cases hempty : fld b 16 4 = 0
  · simp (disch := omega) [hempty, bit_setBit_of_ne, fld_setBit_of_outside]
  · have hdepth : fld b 16 4 < 2 ^ 4 := Nat.mod_lt _ (by decide)
    have hstack : fld b 8 8 < 2 ^ 8 := Nat.mod_lt _ (by decide)
    have hmod : (fld b 16 4 - 1) % 16 = fld b 16 4 - 1 := by omega
    have hmod' : fld b 8 8 / 2 % 256 = fld b 8 8 / 2 := by omega
    simp (disch := omega) [hempty, hmod, hmod', bit_setFld_of_outside, fld_setFld_of_disjoint]

theorem bitStack_withAcc_bitPop (b : Word) (a : Bool) :
    Spec.bitStack (withAcc (bitPop b).2 a) = { (Spec.bitStack b).drop with acc := a } := by
  rw [bitStack_withAcc, bitStack_bitPop]

end Sys2Proof.Machine
end

section
/-! THEOREM. The ACC-only instructions (R152 to R154). -/

namespace Sys2Proof.Machine

/-! ### Completion with BITST written -/

theorem wr_regsBecome (s : State) (r : Reg) (v : Word) : s.regsBecome (s.wr r v) [(r, v)] := by
  intro q
  simp [mget, eq_comm]

theorem wr_beyond (s : State) (r : Reg) (v : Word) : s.sameBeyondRegs (s.wr r v) := rfl

theorem bitst_leavesFlow (t n : Nat) (v : Word) (T m : Nat) : leavesFlow T m [(.BITST t n, v)] := by
  simp [leavesFlow, flowReg, pcReg]

/-- An instruction whose body writes BITST alone completes with that change. -/
theorem insn_completes_bitst {s s' : State} {i : Issue} {w : Word} {r : Row} {body : State → InsnEnd} {v : Word}
    (hb : s.begins i w r = some s') (hq : s'.quiet i.tile i.thread = true)
    (hbody : body s' = .done (s'.wr (.BITST i.tile i.thread) v) 4) :
    ∃ t, insn s i w r body = .next t ∧ s'.completed t i [(.BITST i.tile i.thread, v)] 4 :=
  insn_completes hb hq hbody (wr_regsBecome _ _ _) (wr_beyond _ _ _) (bitst_leavesFlow _ _ _ _ _)

/-! ### The instructions -/

/-- Every instruction of opcode 0x3A is a function of BITST, the one that R153 gives on its fields. -/
theorem exec_accCmd_eq_accInsn {r : Row}
    (hr : r = .bpush ∨ r = .bpop ∨ r = .bands ∨ r = .bors ∨ r = .bnot ∨ r = .bseta ∨ r = .bclra) :
    ∃ f : Word → Word, (∀ i w s, exec (Spec.accCmd r i w) s = accInsn r f i w s)
      ∧ ∀ b, fld b 16 4 ≤ 8 → Spec.bitStack (f b) = Spec.accRule r (Spec.bitStack b) := by
  obtain rfl | rfl | rfl | rfl | rfl | rfl | rfl := hr
  · exact ⟨fun b => bitPush b (accOf b), fun _ _ _ => rfl, fun _ hb => bitStack_bitPush _ hb⟩
  · exact ⟨fun b => withAcc (bitPop b).2 (bitPop b).1, fun _ _ _ => rfl, fun b _ => by
      rw [bitStack_withAcc_bitPop, bitPop_fst]; rfl⟩
  · exact ⟨fun b => withAcc (bitPop b).2 (accOf b && (bitPop b).1), fun _ _ _ => rfl, fun b _ => by
      rw [bitStack_withAcc_bitPop, bitPop_fst]; rfl⟩
  · exact ⟨fun b => withAcc (bitPop b).2 (accOf b || (bitPop b).1), fun _ _ _ => rfl, fun b _ => by
      rw [bitStack_withAcc_bitPop, bitPop_fst]; rfl⟩
  · exact ⟨fun b => withAcc b (!accOf b), fun _ _ _ => rfl, fun b _ => bitStack_withAcc b _⟩
  · exact ⟨fun b => withAcc b true, fun _ _ _ => rfl, fun b _ => bitStack_withAcc b _⟩
  · exact ⟨fun b => withAcc b false, fun _ _ _ => rfl, fun b _ => bitStack_withAcc b _⟩

theorem accInsn_completes {s s' : State} {i : Issue} {w : Word} {r : Row} (f : Word → Word)
    (hb : s.begins i w r = some s') (hq : s'.quiet i.tile i.thread = true) :
    ∃ t, accInsn r f i w s = .next t
      ∧ s'.completed t i [(.BITST i.tile i.thread, f (s'.rd (.BITST i.tile i.thread)))] 4 :=
  insn_completes_bitst hb hq rfl

theorem bmovg_completes {s s' : State} {i : Issue} {w : Word} (hb : s.begins i w .bmovg = some s')
    (hq : s'.quiet i.tile i.thread = true) :
    ∃ t, exec (.bmovg i w) s = .next t
      ∧ s'.completed t i (gset i.tile i.thread (fld w 19 5)
          (if bit (s'.rd (.BITST i.tile i.thread)) 0 then 1 else 0)) 4 := by
  have hexec : exec (.bmovg i w) s = execBmovg i w s := rfl
  rw [hexec]
  exact insn_completes hb hq rfl (setG_regsBecome _ _ _ _ _) (setG_beyond _ _ _ _ _) (gset_leavesFlow _ _ _ _ _ _)

theorem bmova_completes {s s' : State} {i : Issue} {w : Word} (hb : s.begins i w .bmova = some s')
    (hq : s'.quiet i.tile i.thread = true) :
    ∃ t, exec (.bmova i w) s = .next t
      ∧ s'.completed t i [(.BITST i.tile i.thread, setBit (s'.rd (.BITST i.tile i.thread)) 0
          (bit (s'.g i.tile i.thread (fld w 19 5)) 0))] 4 := by
  have hexec : exec (.bmova i w) s = execBmova i w s := rfl
  rw [hexec]
  exact insn_completes_bitst hb hq rfl

/-- Settles O16: every body writes BITST or Gd alone, so the completion is that of R126; the fields of BITST follow R142. -/
theorem accumulatorInstructions : Obligations.AccumulatorInstructions := by
  intro s s' i w hq T n q
  refine ⟨fun r hr hb hdepth => ?_, fun hb => bmovg_completes hb hq, fun hb => bmova_completes hb hq⟩
  obtain ⟨f, hexec, hf⟩ := exec_accCmd_eq_accInsn hr
  obtain ⟨t, hnext, hdone⟩ := accInsn_completes f hb hq
  exact ⟨t, f q, (hexec i w s).trans hnext, hdone, hf q hdepth⟩

end Sys2Proof.Machine
end

section
/-! SUPPORT. What a core fault leaves of its tile (R95, R96): reports of faults, the copies that end with a group, and the groups
that a stop lets go write no thread state and no fault record of the stopped tile; and the ILLEGAL of an undefined encoding. -/

namespace Sys2Proof.Machine

/-! ### Registers that no fault report writes -/

theorem forEach_induction {α : Type} {P : State → Prop} {f : α → State → State} (l : List α) {s : State} (h : P s)
    (hf : ∀ a s, P s → P (f a s)) : P (forEach l f s) := by
  unfold forEach
  induction l generalizing s with
  | nil => exact h
  | cons a l ih => exact ih (hf a s h)

/-- The registers that hold the state of a thread and the fault record of a tile. -/
def statusReg : Reg → Bool
  | .TH_STAT _ _ | .TL_FREC _ _ => true
  | _ => false

/-- The state of every thread and the fault record of every tile are as in `s`. -/
def State.keepsStatus (s t : State) : Prop := s.regsKept t (fun q => !statusReg q)

theorem State.keepsStatus.rd_eq {s t : State} (h : s.keepsStatus t) {q : Reg} (hq : statusReg q = true) : t.rd q = s.rd q :=
  h q (by simp [hq])

theorem State.keepsStatus.refl (s : State) : s.keepsStatus s := fun _ _ => rfl

section
variable {s₀ s : State}

theorem State.keepsStatus.wr (h : s₀.keepsStatus s) {r : Reg} (v : Word) (hr : statusReg r = false) :
    s₀.keepsStatus (s.wr r v) := by
  intro q hq
  have hne : q ≠ r := by
    rintro rfl
    simp [hr] at hq
  rw [State.rd_wr, if_neg hne, h q hq]

theorem State.keepsStatus.setField (h : s₀.keepsStatus s) {r : Reg} (lo n v : Nat) (hr : statusReg r = false) :
    s₀.keepsStatus (s.setField r lo n v) := h.wr _ hr

theorem State.keepsStatus.setFlag (h : s₀.keepsStatus s) {r : Reg} (i : Nat) (b : Bool) (hr : statusReg r = false) :
    s₀.keepsStatus (s.setFlag r i b) := h.wr _ hr

theorem State.keepsStatus.of_regs_eq {u : State} (h : s₀.keepsStatus s) (hu : u.regs = s.regs) : s₀.keepsStatus u := by
  intro q hq
  rw [← h q hq]
  exact congrArg (fun m => mget m (regReset q) q) hu

/-! ### The manager side of a port -/

theorem State.keepsStatus.issueBurst (h : s₀.keepsStatus s) (p i : Nat) : s₀.keepsStatus (s.issueBurst p i) := by
  unfold State.issueBurst
  dsimp only
  split
  · exact h
  · split <;> exact h

theorem State.keepsStatus.mgrGrant (h : s₀.keepsStatus s) {p : Nat} {u : State} (hu : s.mgrGrant p = some u) :
    s₀.keepsStatus u := by
  have hb := fun i => h.issueBurst p i
  unfold State.mgrGrant at hu
  dsimp only at hu
  split at hu
  · cases hu
  · split at hu
    · cases hu
    · cases hu; exact hb _
    · cases hu; exact hb _
    · split at hu
      · cases hu; exact hb _
      · cases hu; exact hb _

theorem State.keepsStatus.mgrIssueN (k : Nat) (h : s₀.keepsStatus s) : s₀.keepsStatus (State.mgrIssueN k s) := by
  induction k generalizing s with
  | zero => exact h
  | succ k ih =>
    unfold State.mgrIssueN
    split
    · exact ih (h.mgrGrant ‹_›)
    · split
      · exact ih (h.mgrGrant ‹_›)
      · exact h

theorem State.keepsStatus.sendMessage (h : s₀.keepsStatus s) (p : Nat) (ring : Option Nat) (lo hi data : Reg) {ctl : Reg}
    (hc : statusReg ctl = false) : s₀.keepsStatus (s.sendMessage p ring lo hi data ctl) := by
  unfold State.sendMessage
  split
  · exact h.setFlag _ _ hc
  · exact State.keepsStatus.mgrIssueN (s := s.setPort p _) 192 h

/-! ### Gauze -/

theorem State.keepsStatus.enterTask (h : s₀.keepsStatus s) (i : Nat) : s₀.keepsStatus (s.enterTask i) := by
  unfold State.enterTask
  dsimp only
  split
  · exact h
  split
  · exact h
  split
  · split
    · exact h
    · exact h.setFlag _ _ rfl
  · split
    · exact h
    · exact h.setFlag _ _ rfl

theorem State.keepsStatus.fireChannel (h : s₀.keepsStatus s) (c : Nat) : s₀.keepsStatus (s.fireChannel c).1 := by
  unfold State.fireChannel
  dsimp only
  have hf := h.setFlag (r := .GZ_CHFLAG (c / 32)) (c % 32) true rfl
  split
  · exact ((show s₀.keepsStatus { s.setFlag _ _ _ with gz := _ } from hf).setFlag _ _ rfl).setFlag _ _ rfl
  · refine forEach_induction _ ?_ fun i s hs => hs.enterTask i
    split <;> exact hf

theorem State.keepsStatus.fireChannels (h : s₀.keepsStatus s) (cs : List Nat) (b : Bool) :
    s₀.keepsStatus (cs.foldl (fun (x : State × Bool) c => let y := x.1.fireChannel c; (y.1, x.2 || y.2)) (s, b)).1 := by
  induction cs generalizing s b with
  | nil => exact h
  | cons c cs ih => exact ih (h.fireChannel c) _

theorem State.keepsStatus.gzRun (k : Nat) (h : s₀.keepsStatus s) : s₀.keepsStatus (State.gzRun k s).1 := by
  induction k generalizing s with
  | zero => exact h
  | succ k ih =>
    unfold State.gzRun
    extract_lets oh rose src s₁ r
    have hr : s₀.keepsStatus r.1 := State.keepsStatus.fireChannels (s := s₁) h rose false
    split
    · exact ih hr
    · exact hr

theorem State.keepsStatus.gzEdge (h : s₀.keepsStatus s) (n : Nat) (v : Bool) : s₀.keepsStatus (s.gzEdge n v).1 := by
  unfold State.gzEdge State.gzEdges
  split
  · exact h
  · exact State.keepsStatus.gzRun (s := { s with gz := _ }) 130 h

/-! ### The fault collector -/

theorem State.keepsStatus.startWindow (h : s₀.keepsStatus s) (n : Nat) : s₀.keepsStatus (s.startWindow n) := by
  unfold State.startWindow
  split
  · exact h
  · split <;> exact h

theorem State.keepsStatus.recordFirst (h : s₀.keepsStatus s) (n : Nat) (forced : Bool) :
    s₀.keepsStatus (s.recordFirst n forced) := by
  unfold State.recordFirst
  split
  · exact h.setFlag _ _ rfl
  · exact ((h.wr _ rfl).wr _ rfl).wr _ rfl

theorem State.keepsStatus.notifyFault (h : s₀.keepsStatus s) (n : Nat) (expiry rep : Bool) :
    s₀.keepsStatus (s.notifyFault n expiry rep) := by
  unfold State.notifyFault
  dsimp only
  split
  · exact h
  · refine forEach_induction _ ?_ fun p s hs => ?_
    · split
      · split
        · exact h
        · exact (State.keepsStatus.setFlag (s := { s with faultSeq := _ }) h _ _ rfl).setField _ _ _ rfl
      · exact h
    · split
      · exact hs.sendMessage _ _ _ _ _ rfl
      · exact hs

theorem State.keepsStatus.occur (h : s₀.keepsStatus s) (n : Nat) (forced : Bool) : s₀.keepsStatus (s.occur n forced) := by
  unfold State.occur
  extract_lets s₁ s₂ s₃
  split
  · exact h
  split
  · exact h
  split
  · exact (((h.wr _ rfl).startWindow n).recordFirst n forced).notifyFault _ _ _
  · have h₂ : s₀.keepsStatus s₂ := h.setField _ _ _ rfl
    have h₃ : s₀.keepsStatus s₃ := by
      unfold s₃
      split
      · exact h₂.setFlag _ _ rfl
      · exact h₂
    split
    · exact ((h₃.setField _ _ _ rfl).startWindow n).notifyFault _ _ _
    · exact h₃

theorem State.keepsStatus.syncFaultOut (h : s₀.keepsStatus s) : s₀.keepsStatus s.syncFaultOut := by
  unfold State.syncFaultOut
  split
  · exact h
  · split <;> exact h

theorem State.keepsStatus.settle (k : Nat) (h : s₀.keepsStatus s) : s₀.keepsStatus (State.settle k s) := by
  induction k generalizing s with
  | zero => exact h.syncFaultOut
  | succ k ih =>
    have hedges := fun a b c => ((h.gzEdge 504 a).gzEdge 505 b).gzEdge 508 c
    unfold State.settle
    dsimp only
    split
    · exact ih ((hedges _ _ _).occur 124 false)
    · exact (hedges _ _ _).syncFaultOut

theorem State.keepsStatus.raise (h : s₀.keepsStatus s) (n : Nat) : s₀.keepsStatus (s.raise n) :=
  State.keepsStatus.settle 3 (h.occur n false)

/-! ### Error correction and the copy engine -/

theorem State.keepsStatus.reportEcc (h : s₀.keepsStatus s) (a : Nat) (k : EccState) (dma : Bool) :
    s₀.keepsStatus (s.reportEcc a k dma) := by
  unfold State.reportEcc
  extract_lets ue t sm stat adr off s₁ s₂ s₃
  have hstat : statusReg stat = false := by unfold stat; split <;> rfl
  have hadr : statusReg adr = false := by unfold adr; split <;> rfl
  have h₁ : s₀.keepsStatus s₁ := h.setFlag _ _ hstat
  have h₂ : s₀.keepsStatus s₂ := by
    unfold s₂
    split
    · exact h₁
    · exact h₁.setField _ _ _ hstat
  have h₃ : s₀.keepsStatus s₃ := by
    unfold s₃
    split
    · exact h₂
    · exact h₂.wr _ hadr
  exact h₃.raise _

theorem State.keepsStatus.queueWriteBack (h : s₀.keepsStatus s) (a : Nat) : s₀.keepsStatus (s.queueWriteBack a) := by
  unfold State.queueWriteBack
  split <;> exact h

theorem State.keepsStatus.eccRead (h : s₀.keepsStatus s) (ws : List Nat) (dma : Bool) : s₀.keepsStatus (s.eccRead ws dma) := by
  unfold State.eccRead
  split
  · exact h
  · refine forEach_induction _ h fun x s hs => ?_
    split
    · exact hs
    · dsimp only
      split
      · exact (hs.reportEcc _ _ _).queueWriteBack _
      · exact hs.reportEcc _ _ _

theorem State.keepsStatus.trackShadow (h : s₀.keepsStatus s) (i : Nat) : s₀.keepsStatus (s.trackShadow i) := by
  unfold State.trackShadow
  refine forEach_induction _ h fun x s hs => ?_
  split <;> exact hs

theorem State.keepsStatus.copyLine (h : s₀.keepsStatus s) (j : CopyJob) (line : Nat) : s₀.keepsStatus (s.copyLine j line) := by
  unfold State.copyLine
  extract_lets e s₁ s₂ bad s₃
  have h₁ : s₀.keepsStatus s₁ := h.eccRead _ _
  have h₃ : s₀.keepsStatus s₃ := h₁.of_regs_eq rfl
  clear_value s₃
  split
  · exact h₃
  · exact h₃
  · exact h₃
  · exact forEach_induction _ (h₃.of_regs_eq rfl) fun i s hs => hs.trackShadow _

theorem State.keepsStatus.runCopy (h : s₀.keepsStatus s) (j : CopyJob) : s₀.keepsStatus (s.runCopy j) :=
  forEach_induction _ h fun l _ hs => hs.copyLine j l

theorem State.keepsStatus.finishCopy (h : s₀.keepsStatus s) (j : CopyJob) (wait : Nat) :
    s₀.keepsStatus (s.finishCopy j wait) := by
  unfold State.finishCopy
  dsimp only
  have hrun := h.runCopy j
  split
  · exact (State.keepsStatus.setField (s := { s.runCopy j with copyFree := _ }) hrun _ _ _ rfl).setField _ _ _ rfl
  · exact hrun

theorem State.keepsStatus.flushCopies (h : s₀.keepsStatus s) (g : Nat) (p : CopyKind → Bool) :
    s₀.keepsStatus (s.flushCopies g p) :=
  forEach_induction (P := s₀.keepsStatus) _ h fun j _ hs => hs.finishCopy j 0

theorem State.keepsStatus.queueCopy (h : s₀.keepsStatus s) (k : CopyKind) (g : Nat) (lines : List Nat) (flip : Bool)
    (sampled : Nat) : s₀.keepsStatus (s.queueCopy k g lines flip sampled) := by
  unfold State.queueCopy
  dsimp only
  split
  · exact h
  · split
    · exact h.setField _ _ _ rfl
    · exact h

/-! ### Groups after a change of their members -/

theorem State.keepsStatus.setGState (h : s₀.keepsStatus s) (g v : Nat) : s₀.keepsStatus (s.setGState g v) :=
  (h.setField _ _ _ rfl).setFlag _ _ rfl

theorem State.keepsStatus.becomeIdle (h : s₀.keepsStatus s) (g : Nat) : s₀.keepsStatus (s.becomeIdle g) := by
  unfold State.becomeIdle
  extract_lets x j s₁ s₂ s₃ s₄
  have h₁ : s₀.keepsStatus s₁ := by
    unfold s₁
    split
    · exact h.runCopy _
    · exact h
  have h₂ : s₀.keepsStatus s₂ := by
    unfold s₂
    split
    · exact h₁.runCopy _
    · exact h₁
  have h₄ : s₀.keepsStatus s₄ := State.keepsStatus.setGState (s := s₂.setGroup g _) h₂ g 0
  split
  · exact h₄.setField _ _ _ rfl
  · exact h₄

theorem State.keepsStatus.beginStopCopies (h : s₀.keepsStatus s) (g : Nat) : s₀.keepsStatus (s.beginStopCopies g) := by
  unfold State.beginStopCopies
  extract_lets s₁ x il ql s₂ s₃
  have h₂ : s₀.keepsStatus s₂ := State.keepsStatus.flushCopies h g fun _ => true
  have h₃ : s₀.keepsStatus s₃ := by
    unfold s₃
    split
    · exact h₂
    · exact h₂.queueCopy _ _ _ _ _
  split
  · exact h₂.becomeIdle g
  · split
    · exact h₃
    · exact h₃.queueCopy _ _ _ _ _

theorem State.keepsStatus.refreshGState (h : s₀.keepsStatus s) (g : Nat) : s₀.keepsStatus (s.refreshGState g) := by
  unfold State.refreshGState
  dsimp only
  split
  · exact h
  · exact h.setGState _ _
end

/-! ### A stopped tile -/

/-- Every thread of tile `t` is STOPPED, and its fault record holds `f` (R95, R96). -/
def State.tileStopped (s : State) (t : Nat) (f : Word) : Prop :=
  (∀ m < 16, s.thState t m = 5) ∧ s.rd (.TL_FREC t 0) = f

theorem State.keepsStatus.tileStopped {s u : State} {t : Nat} {f : Word} (h : s.keepsStatus u) (hs : s.tileStopped t f) :
    u.tileStopped t f := by
  refine ⟨fun m hm => ?_, (h.rd_eq rfl).trans hs.2⟩
  rw [← hs.1 m hm]
  exact congrArg (fun w => fld w 0 3) (h.rd_eq rfl)

theorem State.tileStopped.wr {s : State} {t : Nat} {f : Word} (hs : s.tileStopped t f) {r : Reg} (v : Word)
    (hstat : ∀ m < 16, .TH_STAT t m ≠ r) (hrec : .TL_FREC t 0 ≠ r) : (s.wr r v).tileStopped t f := by
  refine ⟨fun m hm => ?_, ?_⟩
  · rw [← hs.1 m hm]
    simp only [State.thState, State.field, State.rd_wr, if_neg (hstat m hm)]
  · rw [State.rd_wr, if_neg hrec, hs.2]

/-- A stopped thread does not wait for a release, so no thread of a stopped tile is sent back by a stop. -/
theorem leaveOne_tileStopped {s : State} {t : Nat} {f : Word} (hs : s.tileStopped t f) (g t' n : Nat) :
    (s.leaveOne g t' n).tileStopped t f := by
  unfold State.leaveOne
  dsimp only
  split
  · exact hs
  split
  · rename_i hw
    have hne : ∀ m < 16, Reg.TH_STAT t m ≠ .TH_STAT t' n := by
      rintro m hm ⟨⟩
      have := hs.1 _ hm
      omega
    generalize hu : s.setGroup g _ = u
    have hgroup : u.tileStopped t f := hu ▸ hs
    have hheld : (u.setThState t' n 0).tileStopped t f := hgroup.wr _ hne nofun
    have hwait : ((u.setThState t' n 0).setWait t' n .none).tileStopped t f := hheld
    exact hwait.wr _ (fun _ _ => nofun) nofun
  · split <;> exact hs

theorem threadsChanged_tileStopped {s : State} {t : Nat} {f : Word} (hs : s.tileStopped t f) :
    s.threadsChanged.tileStopped t f := by
  refine forEach_induction (P := (·.tileStopped t f)) _ hs fun g s hs => ?_
  refine ((State.keepsStatus.refl _).refreshGState g).tileStopped ?_
  unfold State.checkStopping
  dsimp only
  split
  · exact hs
  have hleft : (forEach (s.members g) (fun m s => s.leaveOne g m.1 m.2) s).tileStopped t f :=
    forEach_induction (P := (·.tileStopped t f)) _ hs fun m s hs => leaveOne_tileStopped hs g m.1 m.2
  split
  · exact ((State.keepsStatus.refl _).beginStopCopies g).tileStopped hleft
  · exact hleft

/-- Tile `t`'s thread `m` stops in a core fault (R95). -/
def State.stopThread (t m : Nat) (s : State) : State :=
  (s.setThState t m 5).setWait t m (if (s.thread t m).wait.completes then (s.thread t m).wait else .none)

theorem rd_stopThread (s : State) (t m : Nat) (q : Reg) :
    (s.stopThread t m).rd q = if q = .TH_STAT t m then setFld (s.rd (.TH_STAT t m)) 0 3 5 else s.rd q :=
  State.rd_wr s (.TH_STAT t m) q _

theorem thState_stopThread (s : State) (t m k : Nat) :
    (s.stopThread t m).thState t k = if k = m then 5 else s.thState t k := by
  unfold State.thState State.field
  rw [rd_stopThread]
  by_cases hk : k = m
  · subst hk
    simp
  · simp [hk]

theorem stopThreads_thState (s : State) (t m : Nat) (l : List Nat) (hm : m ∈ l ∨ s.thState t m = 5) :
    (forEach l (State.stopThread t) s).thState t m = 5 := by
  unfold forEach
  induction l generalizing s with
  | nil => exact hm.resolve_left List.not_mem_nil
  | cons k l ih =>
    refine ih _ ?_
    rw [thState_stopThread]
    by_cases hk : m = k
    · exact .inr (if_pos hk)
    · rw [if_neg hk]
      exact hm.imp_left fun h => (List.mem_cons.1 h).resolve_left hk

theorem stopThreads_rec (s : State) (t : Nat) (l : List Nat) :
    (forEach l (State.stopThread t) s).rd (.TL_FREC t 0) = s.rd (.TL_FREC t 0) :=
  forEach_induction (P := fun u => u.rd (.TL_FREC t 0) = s.rd (.TL_FREC t 0)) l rfl fun m u hu => by
    rw [rd_stopThread, if_neg nofun, hu]

/-- A core fault on a tile without a record stops every thread of the tile and leaves the record (R95, R96). -/
theorem coreFault_tileStopped {s : State} {t n cause detail refc : Nat} {pc addr : Word}
    (h : s.flag (.TL_FREC t 0) 31 = false) :
    (s.coreFault t n cause detail refc pc addr).tileStopped t
      (word (2 ^ 31 + refc * 2 ^ 20 + n * 2 ^ 16 + cause * 2 ^ 8 + detail)) := by
  unfold State.coreFault
  rw [h]
  extract_lets s₁ s₂
  have h₂ : s₂.tileStopped t (word (2 ^ 31 + refc * 2 ^ 20 + n * 2 ^ 16 + cause * 2 ^ 8 + detail)) := by
    refine ⟨fun m hm => stopThreads_thState s₁ t m _ (.inl (List.mem_range.2 hm)), (stopThreads_rec s₁ t _).trans ?_⟩
    simp [s₁]
  exact (((State.keepsStatus.refl s₂).setFlag _ _ rfl).raise _).tileStopped h₂

theorem stopOn_tileStopped {s : State} {t n cycle cause detail refc : Nat} {pc addr : Word}
    (h : s.flag (.TL_FREC t 0) 31 = false) :
    (s.stopOn t n cycle cause detail refc pc addr).tileStopped t
      (word (2 ^ 31 + refc * 2 ^ 20 + n * 2 ^ 16 + cause * 2 ^ 8 + detail)) := by
  have hstop := threadsChanged_tileStopped (coreFault_tileStopped (n := n) (cause := cause) (detail := detail) (refc := refc)
    (pc := pc) (addr := addr) h)
  unfold State.stopOn State.stopTile
  extract_lets u
  exact ((State.keepsStatus.refl u).of_regs_eq (State.setTile_regs u t _)).tileStopped hstop

/-! ### An undefined encoding -/

/-- A word that is fetched and has no row stops its tile with ILLEGAL (R95, R115). -/
theorem insn_of_undefined {s s' : State} {i : Issue} {w : Word} (r : Row) (body : State → InsnEnd)
    (ht : s.hasThread i.tile i.thread = true) (hm : s.mayPair i w = true ∨ s.mayIssue i = true)
    (hf : s.fetch i.tile i.thread w = (s', .run)) (hbp : s'.unbroken i.tile i.thread = true)
    (hctx : (s'.boundCtx i.tile i.thread).isSome = true) (hrow : rowOf w = none) :
    insn s i w r body = .next ((s'.issued i).stopOn i.tile i.thread i.cycle 1 0 0 (s'.rd (.TH_PC i.tile i.thread)) 0) := by
  have hbreak : (if (s'.thread i.tile i.thread).skipBp = true then none
      else s'.breakpoint i.tile i.thread (s'.rd (.TH_PC i.tile i.thread))) = none := by
    split
    · rfl
    · rename_i hk
      simpa [State.unbroken, hk] using hbp
  have hctx' : (s'.boundCtx i.tile i.thread).isNone = false := by rw [← Option.not_isSome, hctx]; rfl
  have hex : s.execute s' i w r body
      = (s'.issued i).stopOn i.tile i.thread i.cycle 1 0 0 (s'.rd (.TH_PC i.tile i.thread)) 0 := by
    unfold State.execute
    simp only [hbreak, hctx', hrow, Bool.and_false, Bool.false_eq_true, if_false]
  unfold insn guarded State.runInsn
  simp only [ht, hf, hex, if_true]
  by_cases hp : s.mayPair i w = true
  · rw [if_pos hp]
  · rw [if_neg hp, if_pos (hm.resolve_left hp)]

/-- ILLEGAL stops every thread of the tile and is on record as cause 1 (R95, R96). -/
theorem undefined_stops {s s' : State} {i : Issue} {w : Word} (r : Row) (body : State → InsnEnd)
    (ht : s.hasThread i.tile i.thread = true) (hm : s.mayPair i w = true ∨ s.mayIssue i = true)
    (hf : s.fetch i.tile i.thread w = (s', .run)) (hbp : s'.unbroken i.tile i.thread = true)
    (hctx : (s'.boundCtx i.tile i.thread).isSome = true) (hrow : rowOf w = none)
    (hrec : s'.flag (.TL_FREC i.tile 0) 31 = false) :
    ∃ t, insn s i w r body = .next t ∧ (∀ m < 16, t.thState i.tile m = 5) ∧ t.field (.TL_FREC i.tile 0) 8 8 = 1 := by
  obtain ⟨hstop, hcause⟩ := stopOn_tileStopped (s := s'.issued i) (t := i.tile) (n := i.thread) (cycle := i.cycle)
    (cause := 1) (detail := 0) (refc := 0) (pc := s'.rd (.TH_PC i.tile i.thread)) (addr := 0) hrec
  refine ⟨_, insn_of_undefined r body ht hm hf hbp hctx hrow, hstop, ?_⟩
  unfold State.field
  rw [hcause]
  simp only [fld, word, BitVec.toNat_ofNat]
  omega

end Sys2Proof.Machine
end

section
/-! SUPPORT. How an instruction of the LVU completes (R106, R126, R171): the bound context and Gd change, and the guarantee may
record that the context is unpinned. -/

namespace Sys2Proof.Machine

/-! ### What changes of registers and of bookkeeping leave -/

theorem State.sameBeyondRegs.ctxs_eq {s t : State} (h : s.sameBeyondRegs t) : t.ctxs = s.ctxs :=
  (congrArg State.ctxs (show { t with regs := s.regs } = s from h) :)

theorem State.sameBeyondRegs.mem_eq {s t : State} (h : s.sameBeyondRegs t) : t.mem = s.mem :=
  (congrArg State.mem (show { t with regs := s.regs } = s from h) :)

theorem State.sameBeyondRegs.chans_eq {s t : State} (h : s.sameBeyondRegs t) : t.chans = s.chans :=
  (congrArg State.chans (show { t with regs := s.regs } = s from h) :)

/-- What an instruction's bookkeeping leaves: the contexts, the memory and the channels. -/
theorem State.sameBeyondThreads.parts_eq {s t : State} (h : s.sameBeyondThreads t) :
    t.ctxs = s.ctxs ∧ t.mem = s.mem ∧ t.chans = s.chans :=
  have h' : { t with regs := s.regs, tiles := s.tiles, threads := s.threads } = s := h
  ⟨(congrArg State.ctxs h' :), (congrArg State.mem h' :), (congrArg State.chans h' :)⟩

/-! ### The record of the guarantee -/

/-- Only registers that record the guarantee change. -/
def recordsGuarantee (ch : List (Reg × Word)) : Prop := ∀ x ∈ ch, guaranteeReg x.1 = true

theorem recordsGuarantee.leavesFlow {ch : List (Reg × Word)} (h : recordsGuarantee ch) (t n : Nat) :
    leavesFlow t n ch := by
  intro x hx
  have hg := h x hx
  rw [Bool.eq_false_iff]
  intro hf
  simp only [flowReg, pcReg, Bool.or_eq_true, beq_iff_eq] at hf
  obtain ((((hr | hr) | hr) | hr) | hr) | hr := hf <;> rw [hr] at hg <;> cases hg

theorem detLost_regsBecome (s : State) (g b : Nat) :
    ∃ ch, s.regsBecome (s.detLost g b) ch ∧ recordsGuarantee ch := by
  unfold State.detLost
  split
  · exact ⟨[], fun _ => rfl, nofun⟩
  · dsimp only
    split
    · exact ⟨_, ((wr_regsBecome _ _ _).trans (wr_regsBecome _ _ _)).trans (wr_regsBecome _ _ _),
        by simp [recordsGuarantee, guaranteeReg]⟩
    · exact ⟨_, wr_regsBecome _ _ _, by simp [recordsGuarantee, guaranteeReg]⟩

theorem detLost_beyond (s : State) (g b : Nat) : s.sameBeyondRegs (s.detLost g b) := by
  unfold State.detLost
  split
  · rfl
  · dsimp only
    split <;> rfl

theorem detLostBy_regsBecome (s : State) (t n b : Nat) :
    ∃ ch, s.regsBecome (s.detLostBy t n b) ch ∧ recordsGuarantee ch := by
  refine forEach_induction (P := fun u => ∃ ch, s.regsBecome u ch ∧ recordsGuarantee ch) _
    ⟨[], fun _ => rfl, nofun⟩ fun g u hu => ?_
  obtain ⟨ch, hch, hrec⟩ := hu
  obtain ⟨ch', hch', hrec'⟩ := detLost_regsBecome u g b
  exact ⟨ch' ++ ch, hch.trans hch', List.forall_mem_append.2 ⟨hrec', hrec⟩⟩

theorem detLostBy_beyond (s : State) (t n b : Nat) : s.sameBeyondRegs (s.detLostBy t n b) :=
  forEach_induction (P := s.sameBeyondRegs) _ rfl fun g u hu => hu.trans (detLost_beyond u g b)

theorem noteUnpinned_regsBecome (s : State) (t n c : Nat) :
    ∃ ch, s.regsBecome (s.noteUnpinned t n c) ch ∧ recordsGuarantee ch := by
  unfold State.noteUnpinned
  split
  · exact detLostBy_regsBecome s t n 7
  · exact ⟨[], fun _ => rfl, nofun⟩

theorem noteUnpinned_beyond (s : State) (t n c : Nat) : s.sameBeyondRegs (s.noteUnpinned t n c) := by
  unfold State.noteUnpinned
  split
  · exact detLostBy_beyond s t n 7
  · rfl

@[simp] theorem g_noteUnpinned (s : State) (t n c t' n' k : Nat) : (s.noteUnpinned t n c).g t' n' k = s.g t' n' k := by
  obtain ⟨ch, hch, hrec⟩ := noteUnpinned_regsBecome s t n c
  have hG : (s.noteUnpinned t n c).rd (.G t' n' (k % 32)) = s.rd (.G t' n' (k % 32)) := by
    rw [hch]
    exact mget_of_no_key _ fun x hx hk => by cases hk ▸ hrec x hx
  simp only [State.g, hG]

@[simp] theorem ctx_noteUnpinned (s : State) (t n c t' c' : Nat) : (s.noteUnpinned t n c).ctx t' c' = s.ctx t' c' :=
  congrArg (fun m => mget m ctxReset (t', c')) (noteUnpinned_beyond s t n c).ctxs_eq

/-! ### Completion -/

theorem inCtx_of_bound {s : State} {t n c : Nat} (f : State → Nat → InsnEnd) (h : s.boundCtx t n = some c) :
    s.inCtx t n f = f (s.noteUnpinned t n c) c := by
  simp only [State.inCtx, h]

/-- The writes of an LVU instruction to general registers. -/
def gdWrites (t n : Nat) : Option (Nat × Word) → List (Reg × Word)
  | some (r, v) => gset t n r v
  | none => []

theorem gdWrites_leavesFlow (t n : Nat) (gd : Option (Nat × Word)) (T m : Nat) : leavesFlow T m (gdWrites t n gd) := by
  cases gd with
  | none => exact nofun
  | some x => exact gset_leavesFlow t n x.1 x.2 T m

theorem loopRegs_pcReg (s : State) (t n : Nat) : ∀ x ∈ s.loopRegs t n, pcReg t n x.1 = true := by
  unfold State.loopRegs
  split
  · split <;> simp [pcReg]
  · simp [pcReg]

theorem mget_loopRegs_pc (s : State) (t n : Nat) (d : Word) : mget (s.loopRegs t n) d (.TH_PC t n) = s.nextPc t n := by
  unfold State.nextPc State.loopRegs
  split
  · split <;> simp [mget]
  · simp [mget]

theorem mget_gset_g (t n r k : Nat) (v d : Word) :
    mget (gset t n r v) d (.G t n k) = if k = r % 32 ∧ k ≠ 0 then v else d := by
  unfold gset
  split
  · rename_i hr
    rw [if_neg fun h => h.2 (h.1.trans hr)]
    rfl
  · rename_i hr
    by_cases hk : k = r % 32
    · simp [mget, hk, hr]
    · simp [mget, hk, Ne.symm hk]

theorem gset_keys {t n r : Nat} {v : Word} {q : Reg} (hq : q ≠ .G t n (r % 32)) : ∀ x ∈ gset t n r v, x.1 ≠ q := by
  unfold gset
  split
  · exact nofun
  · simpa using hq.symm

/-- A state with the registers of a completed LVU instruction, in which context `c` alone changed, is after its completion. -/
theorem lvuDone_of_regsBecome {s t : State} {i : Issue} {gd : Option (Nat × Word)} {ch : List (Reg × Word)} {c : Nat}
    {x : Ctx} (hrec : recordsGuarantee ch) (hgd : ∀ y ∈ gd, y.1 < 32)
    (h : s.regsBecome t (s.loopRegs i.tile i.thread ++ (gdWrites i.tile i.thread gd ++ ch)))
    (hctxs : ∀ a b, t.ctx a b = if (a, b) = (i.tile, c) then x else s.ctx a b)
    (hmem : t.mem = s.mem) (hchans : t.chans = s.chans) : s.lvuDone t i gd c x := by
  have hloop : ∀ d q, pcReg i.tile i.thread q = false → mget (s.loopRegs i.tile i.thread) d q = d := fun d q hq =>
    mget_of_no_key d fun x hx hk => by rw [← hk, loopRegs_pcReg s _ _ x hx] at hq; cases hq
  have hch : ∀ d q, guaranteeReg q = false → mget ch d q = d := fun d q hq =>
    mget_of_no_key d fun x hx hk => by rw [← hk, hrec x hx] at hq; cases hq
  have hq' : ∀ q, pcReg i.tile i.thread q = false → guaranteeReg q = false →
      t.rd q = mget (gdWrites i.tile i.thread gd) (s.rd q) q :=
    fun q hp hr => by rw [h, mget_append, mget_append, hloop _ q hp, hch _ q hr]
  refine ⟨fun k => ?_, by rw [hctxs, if_pos rfl], fun a b hab => by rw [hctxs, if_neg hab],
    by rw [h, mget_append, mget_loopRegs_pc], fun q hq => ?_, hmem, hchans⟩
  · have hG := hq' (.G i.tile i.thread (k % 32)) rfl rfl
    unfold State.g
    rw [hG]
    cases gd with
    | none => rfl
    | some y =>
      have hy : y.1 % 32 = y.1 := Nat.mod_eq_of_lt (hgd y rfl)
      simp only [gdWrites, mget_gset_g, hy, Option.getD_some, decide_eq_true_eq]
      by_cases hk : k % 32 = y.1
      · by_cases h0 : y.1 = 0 <;> simp [hk, h0]
      · simp [hk]
  · simp only [Bool.or_eq_false_iff] at hq
    obtain ⟨⟨hp, hr⟩, hG⟩ := hq
    rw [hq' q hp hr]
    cases gd with
    | none => rfl
    | some y =>
      refine mget_of_no_key _ (gset_keys fun hk => ?_)
      rw [Nat.mod_eq_of_lt (hgd y rfl)] at hk
      simp [hk] at hG

/-- An LVU instruction whose body sets the bound context and then writes Gd alone has completed. -/
theorem insn_lvuDone {s s' u : State} {i : Issue} {w : Word} {r : Row} {f : State → Nat → InsnEnd} {occ c : Nat}
    {gd : Option (Nat × Word)} {x : Ctx} (hb : s.begins i w r = some s') (hq : s'.quiet i.tile i.thread = true)
    (hctx : s'.boundCtx i.tile i.thread = some c) (hgd : ∀ y ∈ gd, y.1 < 32)
    (hbody : f (s'.noteUnpinned i.tile i.thread c) c = .done u occ)
    (hregs : ((s'.noteUnpinned i.tile i.thread c).setCtx i.tile c x).regsBecome u (gdWrites i.tile i.thread gd))
    (hbeyond : ((s'.noteUnpinned i.tile i.thread c).setCtx i.tile c x).sameBeyondRegs u) :
    ∃ t, insn s i w r (fun s => s.inCtx i.tile i.thread f) = .next t ∧ s'.lvuDone t i gd c x
      ∧ (t.thread i.tile i.thread).readyAt = i.cycle + occ := by
  obtain ⟨ch, hnote, hrec⟩ := noteUnpinned_regsBecome s' i.tile i.thread c
  have hn := noteUnpinned_beyond s' i.tile i.thread c
  have hreg : s'.regsBecome u (gdWrites i.tile i.thread gd ++ ch) :=
    State.regsBecome.trans (t := (s'.noteUnpinned i.tile i.thread c).setCtx i.tile c x) hnote hregs
  have hflow : leavesFlow i.tile i.thread (gdWrites i.tile i.thread gd ++ ch) :=
    (gdWrites_leavesFlow _ _ _ _ _).append (hrec.leavesFlow _ _)
  have hpc : s'.rd (.TH_PC i.tile i.thread) = u.rd (.TH_PC i.tile i.thread) :=
    (hreg.rd_flow hflow (by simp [flowReg, pcReg])).symm
  have hquiet : u.quiet i.tile i.thread = true := (hbeyond.quiet_eq _ _).trans ((hn.quiet_eq _ _).trans hq)
  obtain ⟨hbecome, hthreads, hready⟩ := retire_done (s := s') (i := i) (w := w) (occ := occ) hquiet
  rw [List.nil_append, hreg.loopRegs_eq hflow] at hbecome
  obtain ⟨hctxs, hmem, hchans⟩ := (hbeyond.trans_threads hthreads).parts_eq
  refine ⟨_, insn_of_begins _ hb, ?_⟩
  simp only [inCtx_of_bound f hctx, hbody, hpc]
  refine ⟨lvuDone_of_regsBecome hrec hgd (hreg.trans hbecome) (fun a b => ?_) (hmem.trans hn.mem_eq)
    (hchans.trans hn.chans_eq), hready⟩
  calc _ = ((s'.noteUnpinned i.tile i.thread c).setCtx i.tile c x).ctx a b :=
          congrArg (fun m => mget m ctxReset (a, b)) hctxs
    _ = _ := by rw [State.ctx_setCtx, ctx_noteUnpinned]

end Sys2Proof.Machine
end

section
/-! THEOREM. VSETVL (R175). -/

namespace Sys2Proof.Machine

/-! ### The encoding -/

theorem rowBit_eq_some {w : Word} {r : Row} (h : rowBit w = some r) : ∃ k, r = .bitOp k := by
  unfold rowBit at h
  split at h
  · cases h
  · exact ⟨_, (rowIf_eq_some.1 h).2.symm⟩

theorem rowAcc_mem {w : Word} {r : Row} (h : rowAcc w = some r) :
    r ∈ [Row.bpush, .bpop, .bands, .bors, .bnot, .bseta, .bclra] := by
  unfold rowAcc at h
  split at h
  · cases h
  · exact List.mem_of_getElem? h

theorem rowLvu_of_setvl {w : Word} (h : opcode w = 0x18) :
    rowLvu w = rowIf (decide (fI w ≤ 4) && imm12 w == 0) .vsetvl := by
  simp only [rowLvu, h, if_true]

theorem rowOf_of_setvl {w : Word} (h : opcode w = 0x18) :
    rowOf w = rowIf (decide (fI w ≤ 4) && imm12 w == 0) .vsetvl := by
  rw [← rowLvu_of_setvl h]
  simp [rowOf, h]

/-- Only opcode 0x18 decodes to VSETVL. -/
theorem opcode_of_row_vsetvl {w : Word} (h : rowOf w = some .vsetvl) : opcode w = 0x18 := by
  refine Decidable.byContradiction fun ho => ?_
  have hbit : rowBit w ≠ some .vsetvl := fun hr => nomatch rowBit_eq_some hr
  have hacc : rowAcc w ≠ some .vsetvl := fun hr => absurd (rowAcc_mem hr) (by decide)
  simp only [rowOf, rowExt, rowAmo, rowMov, rowSys, rowChan, rowUnit, rowCsr, rowLvu, ho, rowVint, rowVfix, rowVmem,
    rowVidx, rowSfp, rowVfp, ite_eq_cases, rowIf_eq_some, hbit, hacc, reduceCtorEq, Option.some.injEq, and_false,
    or_false, false_and] at h

theorem fI_of_row_vsetvl {w : Word} (h : rowOf w = some .vsetvl) : fI w < 5 := by
  rw [rowOf_of_setvl (opcode_of_row_vsetvl h), rowIf_eq_some, Bool.and_eq_true, decide_eq_true_eq] at h
  exact Nat.lt_succ_of_le h.1.1

/-- Another value of its field, or an imm12 that is not 0, is an undefined encoding (R175). -/
theorem rowOf_of_setvl_undefined {w : Word} (h : opcode w = 0x18) (hw : 4 < fI w ∨ imm12 w ≠ 0) : rowOf w = none := by
  have hcond : (decide (fI w ≤ 4) && imm12 w == 0) = false := by
    obtain hf | hi := hw
    · rw [decide_eq_false (Nat.not_le_of_lt hf), Bool.false_and]
    · rw [beq_false_of_ne hi, Bool.and_false]
  rw [rowOf_of_setvl h, hcond]
  rfl

/-! ### The instruction -/

theorem exec_vsetvl (i : Issue) (w : Word) (s : State) : exec (.vsetvl i w) s = execVsetvl i w s := rfl

theorem vlMax_eq_getD (k : Nat) : vlMax k = 2048 / [1, 8, 16, 32, 64].getD k 64 := by
  match k with
  | 0 | 1 | 2 | 3 | 4 => rfl
  | k + 5 => simp [vlMax, sewBits]

theorem vsetvl_completes {s s' : State} {i : Issue} {w : Word} {c : Nat} (hb : s.begins i w .vsetvl = some s')
    (hq : s'.quiet i.tile i.thread = true) (hctx : s'.boundCtx i.tile i.thread = some c) :
    let vl := min (s'.g i.tile i.thread (fS1 w)).toNat (vlMax (fI w))
    ∃ t, exec (.vsetvl i w) s = .next t
      ∧ s'.lvuDone t i (some (fD w, word vl)) c { s'.ctx i.tile c with sew := fI w, vl := vl }
      ∧ (t.thread i.tile i.thread).readyAt = i.cycle + 4 := by
  intro vl
  rw [exec_vsetvl]
  refine insn_lvuDone (u := State.setG _ i.tile i.thread (fD w) (word vl)) hb hq hctx ?_ ?_
    (setG_regsBecome _ _ _ _ _) (setG_beyond _ _ _ _ _)
  · rintro y ⟨⟩
    exact Nat.mod_lt _ (by decide)
  · simp only [State.vsetvlInsn, g_noteUnpinned, ctx_noteUnpinned, vl]

/-- Settles O25: the body sets SEW and VL of the bound context and writes Gd, so the completion is that of an LVU instruction;
the encodings that R175 leaves out have no row, and ILLEGAL stops the tile. -/
theorem setVectorLength : Obligations.SetVectorLength := by
  refine ⟨fun s s' i w c hb hq hctx => ?_, fun s s' i w _ _ ht hm hf hbp hctx hop hw hrec => ?_⟩
  · intro bits vl
    obtain ⟨t, hexec, hdone, hready⟩ := vsetvl_completes hb hq hctx
    rw [vlMax_eq_getD] at hdone
    exact ⟨t, hexec, fI_of_row_vsetvl (rowOf_of_begins hb), hdone, hready⟩
  · rw [exec_vsetvl]
    exact undefined_stops .vsetvl _ ht hm hf hbp hctx (rowOf_of_setvl_undefined hop hw) hrec

end Sys2Proof.Machine
end
